-- ==== Sys2Proof/Word.lean ====
section
/-! DEFINITION. The word types of the part: what crosses its edges or wraps is a bit vector. -/

namespace Sys2Proof

/-- One character of the control link, one byte of a return record, one character of a text. -/
abbrev Byte := BitVec 8

/-- One information word on air (R195), and one unit address. -/
abbrev Word := BitVec 16

/-- A frame serial, an order key, or a 32-bit wrapping counter (R54, R91, R138, R160, R169). -/
abbrev Serial := BitVec 32

/-- A set of simulcast groups: bit g stands for group g (R192). -/
abbrev GroupSet := BitVec 4

/-- A set of zones: bit z stands for zone z (R194). -/
abbrev ZoneSet := BitVec 8

/-- A set of receipt slots: bit j stands for slot j (R194). -/
abbrev SlotSet := BitVec 16

/-- The members of a bit set, in ascending order. -/
def members (n : Nat) (set : BitVec n) : List Nat :=
  (List.range n).filter (fun i => set.getLsbD i)

/-- The number of members of a bit set. -/
def memberCount (n : Nat) (set : BitVec n) : Nat :=
  (members n set).length

end Sys2Proof
end

