-- ==== Sys2Proof/Config.lean ====
section
/-! DEFINITION. What the part fixes: the sizes of its tables and queues and the constants of its arithmetic. The spec
leaves no result value open, so no constant without a body stands here; the one order it leaves open (R170) is a type of
six values, an operand of the BOUNDARY command (log 4). -/

namespace Sys2Proof

/-- The order in which the three groups of endings of one boundary reach the usage journal. R170: "any of these groups may
reach the journal first"; the sender of the BOUNDARY command chooses (log 4). The name gives the groups in order: `Ended` the
end-of-frame endings of R81, `Missed` the endings in miss resolution of R151, `Dropped` the expiries on the drop reverts of
R134. -/
inductive EndingOrder where
  | endedMissedDropped
  | endedDroppedMissed
  | missedEndedDropped
  | missedDroppedEnded
  | droppedEndedMissed
  | droppedMissedEnded
deriving DecidableEq, Repr

namespace Config

/-- Subscriber records (R2). -/
abbrev subscribers : Nat := 8192
/-- Account records (R20). -/
abbrev accounts : Nat := 2048
/-- Tariff table entries (R31). -/
abbrev tariffClasses : Nat := 8
/-- Entries of the text store's body table (R63). -/
abbrev bodies : Nat := 6144
/-- Blocks of the text store's pool (R64). -/
abbrev blocks : Nat := 8192
/-- Characters of one block (R64). -/
abbrev blockChars : Nat := 32
/-- Delivery records (R69). -/
abbrev deliveries : Nat := 6144
/-- Places of the usage journal (R49, R169). -/
abbrev journalPlaces : Nat := 8192
/-- The most live deliveries of one subscriber (R14). -/
abbrev liveLimit : Nat := 32
/-- Frames of one cycle, and calendar lists (R74, R91). -/
abbrev cycle : Nat := 64
/-- The least and greatest balance of an account (R20). -/
abbrev balanceMin : Int := -8388608
abbrev balanceMax : Int := 8388607
/-- The greatest credit limit (R20). -/
abbrev creditMax : Nat := 8388607
/-- The greatest hold or charge (R38). -/
abbrev amountMax : Nat := 65535
/-- The tops of the 16-bit and 32-bit saturating counters (R2, R20, R117, R182). -/
abbrev count16Max : Nat := 65535
abbrev count32Max : Nat := 4294967295
/-- The locality age of last heard, in frames (R16). -/
abbrev localityAge : Nat := 1024
/-- The greatest backoff, in frames (R152). -/
abbrev backoffMax : Nat := 256
/-- Capacities of the control link's queues (R184, R187, R188). -/
abbrev requestPlaces : Nat := 8
abbrev replyPlaces : Nat := 16
abbrev noticePlaces : Nat := 64
/-- Records of one return queue (R141). -/
abbrev returnPlaces : Nat := 8
/-- Frame position of the build point (R92). -/
abbrev buildPosition : Nat := 40000
/-- Ticks of a word-time other than the last (R92). -/
abbrev wordTicks : Nat := 100
/-- Word-times of a frame (R92). -/
abbrev frameWords : Nat := 500
/-- Frame length less the trim in force (R92). -/
abbrev frameBase : Nat := 49936

end Config

end Sys2Proof
end

