-- ==== Sys2Proof/Syntax.lean ====
section
/-! DEFINITION. The commands of the part: one constructor for each row of spec/opcode_table.json. -/

namespace Sys2Proof

/-- A command of the part. A request command carries the tag and the payload bytes of the request record it executes (R180,
R184, R185; log 1); the payload's fields are read by R192 and R194. -/
inductive Instr where
  /-- ASSIGN_SUBSCRIBER, R8: Request that brings an UNASSIGNED subscriber record into use with its settings, adds its map entry and raises the account link count. -/
  | assignSubscriber (tag : Byte) (payload : List Byte)
  /-- MODIFY_SUBSCRIBER, R9: Request that changes the named settings of a subscriber record in use, with the effects of R10. -/
  | modifySubscriber (tag : Byte) (payload : List Byte)
  /-- SUSPEND, R11: Request that takes an ACTIVE subscriber to SUSPENDED. -/
  | suspend (tag : Byte) (payload : List Byte)
  /-- RESUME, R11: Request that takes a SUSPENDED subscriber to ACTIVE. -/
  | resume (tag : Byte) (payload : List Byte)
  /-- RELEASE, R12: Request that takes a subscriber with live count 0 out of use, removes its map entry and lowers the account link count. -/
  | release (tag : Byte) (payload : List Byte)
  /-- QUERY_SUBSCRIBER, R13: Request that returns one subscriber record, named by number or by unit address. -/
  | querySubscriber (tag : Byte) (payload : List Byte)
  /-- OPEN_ACCOUNT, R23: Request that brings a CLOSED account into use with a tariff class, balance and clamped credit limit. -/
  | openAccount (tag : Byte) (payload : List Byte)
  /-- ADJUST_ACCOUNT, R24: Request that adds a signed amount to an account balance, saturating at the balance range. -/
  | adjustAccount (tag : Byte) (payload : List Byte)
  /-- SET_CREDIT, R25: Request that replaces an account's credit limit, clamped to 8,388,607. -/
  | setCredit (tag : Byte) (payload : List Byte)
  /-- SET_TARIFF_CLASS, R26: Request that moves an OPEN or LOCKED account to another tariff class. -/
  | setTariffClass (tag : Byte) (payload : List Byte)
  /-- LOCK, R27: Request that takes an OPEN account to LOCKED. -/
  | lock (tag : Byte) (payload : List Byte)
  /-- UNLOCK, R27: Request that takes a LOCKED account to OPEN. -/
  | unlock (tag : Byte) (payload : List Byte)
  /-- CLOSE, R28: Request that takes an account with link count 0 and reserved 0 out of use and reports its final values. -/
  | close (tag : Byte) (payload : List Byte)
  /-- QUERY_ACCOUNT, R29: Request that returns one account record and its available funds. -/
  | queryAccount (tag : Byte) (payload : List Byte)
  /-- LOAD_TARIFF, R32: Request that replaces one whole tariff table entry after range checks. -/
  | loadTariff (tag : Byte) (payload : List Byte)
  /-- QUERY_TARIFF, R33: Request that returns the ten fields of one tariff entry. -/
  | queryTariff (tag : Byte) (payload : List Byte)
  /-- SET_PRIORITY_PROFILE, R35: Request that writes one whole priority profile with each field clamped into range. -/
  | setPriorityProfile (tag : Byte) (payload : List Byte)
  /-- QUERY_PROFILE, R33: Request that returns the four fields of one priority profile. -/
  | queryProfile (tag : Byte) (payload : List Byte)
  /-- SUBMIT_PAGE, R45: Request for one page to one subscriber, checked in order and on acceptance creating body, delivery, hold, reservation and calendar entry. -/
  | submitPage (tag : Byte) (payload : List Byte)
  /-- SUBMIT_GROUP_PAGE, R61: Request for one text to a list of members, each checked and accepted on its own and sharing one body. -/
  | submitGroupPage (tag : Byte) (payload : List Byte)
  /-- QUERY_STORE, R67: Request that reads the text store summary or one body entry. -/
  | queryStore (tag : Byte) (payload : List Byte)
  /-- CANCEL, R86: Request that ends a QUEUED or RETRY WAIT delivery CANCELLED REQUEST and settles it, or answers NO SUCH or IN FLIGHT. -/
  | cancel (tag : Byte) (payload : List Byte)
  /-- QUERY_DELIVERY, R87: Request that reads one delivery by ticket or the delivery table summary. -/
  | queryDelivery (tag : Byte) (payload : List Byte)
  /-- QUERY_CLOCK, R100: Request that reads the frame clock state, serial, trims, position, latest mark and mark count. -/
  | queryClock (tag : Byte) (payload : List Byte)
  /-- SET_CLOCK, R96: Request that writes the frame serial while the clock is STOPPED. -/
  | setClock (tag : Byte) (payload : List Byte)
  /-- START_CLOCK, R97: Request that takes the clock to RUNNING and raises the first boundary at the held serial. -/
  | startClock (tag : Byte) (payload : List Byte)
  /-- STOP_CLOCK, R98: Request that abandons the frame in progress, advances the serial by one and stops the clock when the air is HALTED and no delivery is on air or awaiting receipt. -/
  | stopClock (tag : Byte) (payload : List Byte)
  /-- SET_TRIM, R99: Request that sets the pending trim, clamped to 127. -/
  | setTrim (tag : Byte) (payload : List Byte)
  /-- SET_ZONE, R104: Request that writes a zone's seven pending settings and sets its pending flag. -/
  | setZone (tag : Byte) (payload : List Byte)
  /-- SET_GROUP, R109: Request that writes a group's five pending settings, with G and A clamped. -/
  | setGroup (tag : Byte) (payload : List Byte)
  /-- CLEAR_ZONE_FLAGS, R116: Request that removes named change flags from one zone. -/
  | clearZoneFlags (tag : Byte) (payload : List Byte)
  /-- QUERY_ZONE, R118: Request that reads one zone record or one group record with its plans. -/
  | queryZone (tag : Byte) (payload : List Byte)
  /-- AIR_ON, R123: Request that sets the air state ON when HALTED with the clock RUNNING. -/
  | airOn (tag : Byte) (payload : List Byte)
  /-- AIR_OFF, R124: Request that sets the air state STOPPING and discards the next images, reverting their deliveries. -/
  | airOff (tag : Byte) (payload : List Byte)
  /-- QUERY_AIR, R139: Request that reads the air state, image summaries and counters, or the page list of one image. -/
  | queryAir (tag : Byte) (payload : List Byte)
  /-- QUERY_RECEIPTS, R161: Request that reads the receipt unit counters and queue occupancies, or one receipt map. -/
  | queryReceipts (tag : Byte) (payload : List Byte)
  /-- TAKE_USAGE, R172: Request that returns and removes up to 32 of the oldest usage records. -/
  | takeUsage (tag : Byte) (payload : List Byte)
  /-- SET_WATERMARK, R173: Request that replaces the journal watermark, clamped to 1..8,192. -/
  | setWatermark (tag : Byte) (payload : List Byte)
  /-- QUERY_JOURNAL, R174: Request that reads journal occupancy, reservation count, free room, sequence numbers and watermark. -/
  | queryJournal (tag : Byte) (payload : List Byte)
  /-- TRAFFIC_RESET, R175: Request that ends every live delivery CANCELLED RESET with settlement, empties maps and replaces next images with empty ones. -/
  | trafficReset (tag : Byte) (payload : List Byte)
  /-- QUERY_LINK, R189: Request that reads the link state and counters and clears the error signature, link error count and dropped notice count. -/
  | queryLink (tag : Byte) (payload : List Byte)
  /-- FULL_RESET, R190: Request that places an OK reply and returns every block except the control link to its power-on values. -/
  | fullReset (tag : Byte) (payload : List Byte)
  /-- UNKNOWN_KIND_REQUEST, R185: Execution of a queued record whose kind is not a request kind, answered BAD REQUEST by the link. -/
  | unknownKindRequest (kind tag : Byte) (payload : List Byte)
  /-- POWER_ON, R178: Power-on reset on RESET_N that sets every block to its power-on values and samples the link rate pins. -/
  | powerOn (rate : BitVec 2)
  /-- INBOUND_BYTE, R181: A well-stopped character on LRX passed to the receiver state machine. -/
  | inboundByte (byte : Byte)
  /-- FRAMING_ERROR, R179: A character with a low stop bit after which the line returns high within 20 bit times. -/
  | framingError
  /-- BREAK, R183: Line held low for 20 bit times, returning the receiver to HUNT and discarding any partial record. -/
  | breakLine
  /-- RECORD_TRANSMISSION_END, R187: The outbound line finishes sending a record and chooses the oldest reply, else the oldest notice, to send next. -/
  | recordTransmissionEnd
  /-- BOUNDARY, R93: Frame position reaches the frame length: the serial rises, the pending trim takes force and the traffic blocks act on the new frame. -/
  | boundary (order : EndingOrder)
  /-- BUILD_POINT, R94: Frame position reaches 40,000: the build point flag is set and plans and images for the next frame are made. -/
  | buildPoint
  /-- MARK_EDGE, R95: Rising edge on MARK counted and, while RUNNING, captured as the latest mark. -/
  | markEdge
  /-- ALARM_EDGE, R106: A change of a zone's alarm state, flagged ALARM CHANGE when it matches the notice edge setting. -/
  | alarmEdge (zone : Fin 8) (high : Bool)
  /-- WORD_OFFER, R135: At each data word-time the keyed zone ports offer the next image word in block-reordered order. -/
  | wordOffer (wordTime : Nat)
  /-- WORD_TAKEN, R113: A site takes an offered word with its own word clock and the zone's words taken rises by one. -/
  | wordTaken (zone : Fin 8)
  /-- DATA_FIELD_END, R114: At word-time S + 4 + D every zone still keyed is unkeyed and judged on its words taken. -/
  | dataFieldEnd (wordTime : Nat)
  /-- RETURN_RECORD_ARRIVAL, R141: A return record arrives whole on a zone port and is discarded as bad, discarded on a full queue, or queued with its stamps. -/
  | returnRecordArrival (zone : Fin 8) (bytes : List Byte)
  /-- RECEIPT_TAKEN, R146: The receipt unit takes a RECEIPT from a return queue and judges it against the held maps. -/
  | receiptTaken (zone : Fin 8)
  /-- CHECK_IN_TAKEN, R158: The receipt unit takes a CHECK-IN, counts it, reports last heard and applies it to the subscriber's live deliveries. -/
  | checkInTaken (zone : Fin 8)
  /-- TICK, R92: Each 50 µs tick derived from XIN raises the frame position of a RUNNING clock by one. -/
  | tick
deriving DecidableEq, Repr

end Sys2Proof
end

