-- ==== Sys2Proof/WellFormed.lean ====
section
/-! DEFINITION. Well-formed commands: what a sender can send. The meanings of the machine do not rest on these checks. -/

namespace Sys2Proof

/-- A payload fits the record frame: L is at most 1,024, so the payload is at most 1,022 bytes (R180). -/
def payloadFits (payload : List Byte) : Bool := payload.length ≤ 1022

/-- The request kinds of R192. -/
def requestKinds : List Byte :=
  [0x10, 0x11, 0x12, 0x13, 0x14, 0x15,
   0x20, 0x21, 0x22, 0x23, 0x24, 0x25, 0x26, 0x27, 0x28, 0x29, 0x2A, 0x2B,
   0x30, 0x31, 0x32, 0x33, 0x34,
   0x40, 0x41, 0x42, 0x43, 0x44,
   0x50, 0x51, 0x52, 0x53,
   0x60, 0x61, 0x62, 0x63,
   0x70, 0x71, 0x72, 0x73, 0x7E, 0x7F]

/-- A return record arrives whole (R141): kind, length byte, as many payload bytes as the length byte says, check byte
(R196). -/
def wholeReturnRecord : List Byte → Bool
  | _ :: len :: rest => rest.length = len.toNat + 1
  | _ => false

namespace Instr

/-- The command can be sent: a request's payload fits its record, an unknown kind is unknown, a word-time lies in the frame,
a return record is whole. -/
def wf : Instr → Bool
  | .assignSubscriber _ payload => payloadFits payload
  | .modifySubscriber _ payload => payloadFits payload
  | .suspend _ payload => payloadFits payload
  | .resume _ payload => payloadFits payload
  | .release _ payload => payloadFits payload
  | .querySubscriber _ payload => payloadFits payload
  | .openAccount _ payload => payloadFits payload
  | .adjustAccount _ payload => payloadFits payload
  | .setCredit _ payload => payloadFits payload
  | .setTariffClass _ payload => payloadFits payload
  | .lock _ payload => payloadFits payload
  | .unlock _ payload => payloadFits payload
  | .close _ payload => payloadFits payload
  | .queryAccount _ payload => payloadFits payload
  | .loadTariff _ payload => payloadFits payload
  | .queryTariff _ payload => payloadFits payload
  | .setPriorityProfile _ payload => payloadFits payload
  | .queryProfile _ payload => payloadFits payload
  | .submitPage _ payload => payloadFits payload
  | .submitGroupPage _ payload => payloadFits payload
  | .queryStore _ payload => payloadFits payload
  | .cancel _ payload => payloadFits payload
  | .queryDelivery _ payload => payloadFits payload
  | .queryClock _ payload => payloadFits payload
  | .setClock _ payload => payloadFits payload
  | .startClock _ payload => payloadFits payload
  | .stopClock _ payload => payloadFits payload
  | .setTrim _ payload => payloadFits payload
  | .setZone _ payload => payloadFits payload
  | .setGroup _ payload => payloadFits payload
  | .clearZoneFlags _ payload => payloadFits payload
  | .queryZone _ payload => payloadFits payload
  | .airOn _ payload => payloadFits payload
  | .airOff _ payload => payloadFits payload
  | .queryAir _ payload => payloadFits payload
  | .queryReceipts _ payload => payloadFits payload
  | .takeUsage _ payload => payloadFits payload
  | .setWatermark _ payload => payloadFits payload
  | .queryJournal _ payload => payloadFits payload
  | .trafficReset _ payload => payloadFits payload
  | .queryLink _ payload => payloadFits payload
  | .fullReset _ payload => payloadFits payload
  | .unknownKindRequest kind _ payload => !requestKinds.contains kind && payloadFits payload
  | .powerOn _ => true
  | .inboundByte _ => true
  | .framingError => true
  | .breakLine => true
  | .recordTransmissionEnd => true
  | .boundary _ => true
  | .buildPoint => true
  | .markEdge => true
  | .alarmEdge _ _ => true
  | .wordOffer wordTime => wordTime < 500
  | .wordTaken _ => true
  | .dataFieldEnd wordTime => wordTime < 500
  | .returnRecordArrival _ bytes => wholeReturnRecord bytes
  | .receiptTaken _ => true
  | .checkInTaken _ => true
  | .tick => true

end Instr

end Sys2Proof
end

