-- ==== Sys2Proof/Machine/Table.lean ====
section
/-! DEFINITION. Sparse tables: the part's numbered tables as lists of (number, entry) in one canonical form. An entry that
is not listed reads as the table's default, which is the power-on or free value the spec gives. -/

namespace Sys2Proof.Machine

/-- A numbered table of the part: the entries that differ from its default, by rising number. -/
abbrev Table (α : Type) := List (Nat × α)

/-- The entry with number `n`; the default where none is listed. -/
def Table.read {α : Type} (dflt : α) : Table α → Nat → α
  | [], _ => dflt
  | (k, v) :: rest, n => if k = n then v else Table.read dflt rest n

/-- The table without its entry `n`. -/
def Table.without {α : Type} (t : Table α) (n : Nat) : Table α :=
  t.filter (fun e => e.1 ≠ n)

/-- The table with an entry put at its place by number. -/
def Table.placed {α : Type} (n : Nat) (v : α) : Table α → Table α
  | [] => [(n, v)]
  | (k, w) :: rest => if n < k then (n, v) :: (k, w) :: rest else (k, w) :: Table.placed n v rest

/-- Write entry `n`. Writing the default removes it, so that equal tables are equal data. -/
def Table.put {α : Type} [DecidableEq α] (dflt : α) (t : Table α) (n : Nat) (v : α) : Table α :=
  if v = dflt then Table.without t n else Table.placed n v (Table.without t n)

/-- Every listed number is at least `lo`, the numbers rise strictly, and no listed entry is the default. -/
def Table.wfFrom {α : Type} [DecidableEq α] (dflt : α) : Nat → Table α → Bool
  | _, [] => true
  | lo, (k, v) :: rest => decide (lo ≤ k) && decide (v ≠ dflt) && Table.wfFrom dflt (k + 1) rest

/-- The table is in canonical form. -/
def Table.wf {α : Type} [DecidableEq α] (dflt : α) (t : Table α) : Bool :=
  Table.wfFrom dflt 0 t

/-- The numbers of the listed entries that satisfy `p`, ascending in a canonical table. -/
def Table.numbers {α : Type} (p : α → Bool) (t : Table α) : List Nat :=
  (t.filter (fun e => p e.2)).map (·.1)

/-- The lowest number from `n` on, of at most `fuel` numbers, that is not used. -/
def lowestFree (used : Nat → Bool) : Nat → Nat → Option Nat
  | 0, _ => none
  | fuel + 1, n => if used n then lowestFree used fuel (n + 1) else some n

/-- The `count` lowest numbers from `n` on that are not used, ascending, of at most `fuel` numbers. -/
def lowestFrees (used : Nat → Bool) : Nat → Nat → Nat → List Nat
  | 0, _, _ => []
  | _ + 1, _, 0 => []
  | fuel + 1, n, count + 1 =>
    if used n then lowestFrees used fuel (n + 1) (count + 1) else n :: lowestFrees used fuel (n + 1) count

/-- Raise a saturating counter by `k`. -/
def satAdd (top n k : Nat) : Nat := min (n + k) top

end Sys2Proof.Machine
end

