-- ==== Sys2Proof/Machine/Records.lean ====
section
/-! DEFINITION. The records of the part's blocks, as plain data: one type for each record, table entry and coded value that
the spec names. The constructors of a coded type stand in the order in which the spec gives its values, which is the order
of their codes (R192, R194). -/

namespace Sys2Proof.Machine

/-! ### Unit directory (chapter 1) -/

/-- Service state of a subscriber record (R2, R3). -/
inductive Service where
  | unassigned | active | suspended
deriving DecidableEq, Repr

/-- Pager class (R2, R5). -/
inductive PagerClass where
  | tone | numeric | alpha | twoWay
deriving DecidableEq, Repr

/-- Where and when a unit was last heard on air (R15). -/
structure Heard where
  group : Nat
  serial : Serial
deriving DecidableEq, Repr

/-- A subscriber record (R2); its number is its place in the table. -/
structure Subscriber where
  service : Service
  address : Word
  pager : PagerClass
  interval : Nat
  home : GroupSet
  coverage : GroupSet
  account : Nat
  trim : Nat
  live : Nat
  heard : Option Heard
  checkIns : Nat
  receipts : Nat
deriving DecidableEq, Repr

/-- The values of an UNASSIGNED record (R2). -/
def Subscriber.unassigned : Subscriber :=
  { service := .unassigned, address := 0, pager := .tone, interval := 64, home := 1, coverage := 1, account := 0,
    trim := 128, live := 0, heard := none, checkIns := 0, receipts := 0 }

/-- A record is in use when it is ACTIVE or SUSPENDED (R2). -/
def Subscriber.inUse (u : Subscriber) : Bool := u.service ≠ .unassigned

structure Directory where
  /-- The 8,192 subscriber records (R2). -/
  subs : Table Subscriber
  /-- The directory map, from unit address to subscriber number (R4). -/
  map : Table (Option Nat)
deriving DecidableEq, Repr

/-! ### Account unit (chapter 2) -/

/-- State of an account (R20, R22). -/
inductive AccountState where
  | closed | opened | locked
deriving DecidableEq, Repr

/-- An account record (R20). -/
structure Account where
  state : AccountState
  tariff : Nat
  balance : Int
  credit : Nat
  reserved : Nat
  links : Nat
  settled : Nat
  charged : Nat
deriving DecidableEq, Repr

/-- The values of a CLOSED record (R20). -/
def Account.closed : Account :=
  { state := .closed, tariff := 0, balance := 0, credit := 0, reserved := 0, links := 0, settled := 0, charged := 0 }

/-- A tariff table entry (R31): base charge, per-word rate, span factors, URGENT and LOW multipliers, minimum charge, expiry
fee. -/
structure Tariff where
  base : Nat
  perWord : Nat
  f1 : Nat
  f2 : Nat
  f3 : Nat
  f4 : Nat
  urgent : Nat
  low : Nat
  minimum : Nat
  expiry : Nat
deriving DecidableEq, Repr

/-- The power-on values of R31. -/
def Tariff.powerOn : Tariff :=
  { base := 0, perWord := 0, f1 := 16, f2 := 16, f3 := 16, f4 := 16, urgent := 8, low := 8, minimum := 0, expiry := 0 }

/-- A priority profile (R34): attempt allowance N, repeat count R, backoff base in frames, default lifetime in cycles. -/
structure Profile where
  allowance : Nat
  repeats : Nat
  base : Nat
  lifetime : Nat
deriving DecidableEq, Repr

/-- Priority of a delivery (R44). -/
inductive Priority where
  | urgent | normal | low
deriving DecidableEq, Repr

structure AccountUnit where
  accounts : Table Account
  tariffs : Table Tariff
  urgent : Profile
  normal : Profile
  low : Profile
deriving DecidableEq, Repr

/-- The account unit after power-on (R34, R43). -/
def AccountUnit.powerOn : AccountUnit :=
  { accounts := [], tariffs := [],
    urgent := { allowance := 5, repeats := 2, base := 2, lifetime := 8 },
    normal := { allowance := 3, repeats := 1, base := 4, lifetime := 16 },
    low := { allowance := 2, repeats := 1, base := 8, lifetime := 32 } }

/-! ### Text store (chapter 3) -/

/-- Encoding of a text (R44). -/
inductive Encoding where
  | tone | numeric | alpha
deriving DecidableEq, Repr

/-- An entry of the body table (R63). -/
structure Body where
  inUse : Bool
  refs : Nat
  encoding : Encoding
  length : Nat
  blocks : List Nat
deriving DecidableEq, Repr

/-- The values of a FREE entry (R63). -/
def Body.free : Body :=
  { inUse := false, refs := 0, encoding := .tone, length := 0, blocks := [] }

structure TextStore where
  bodies : Table Body
  /-- The block pool (R64): `none` is a free block; a block in use holds the characters written into it, in order. The
  positions after the last character are not read and are not held (log 18). -/
  blocks : Table (Option (List Byte))
deriving DecidableEq, Repr

/-! ### Deliveries (chapter 4) -/

/-- Which notices a delivery raises (R44). -/
inductive NoticeMode where
  | none | final | everyAttempt
deriving DecidableEq, Repr

/-- State of a live delivery (R71). -/
inductive DeliveryState where
  | queued | placed | onAir | awaitReceipt | retryWait
deriving DecidableEq, Repr

/-- ONE-WAY or TWO-WAY (R5). -/
inductive ClassKind where
  | oneWay | twoWay
deriving DecidableEq, Repr

/-- Transmission mark (R69, R84). -/
inductive TxMark where
  | first | again | retry | retryAfterCheckIn
deriving DecidableEq, Repr

/-- The name of a delivery (R70). -/
structure Ticket where
  number : Nat
  issue : Byte
deriving DecidableEq, Repr

/-- The last attempt of a delivery (R69): the slots are pairs of a carried group and its slot, by rising group. -/
structure Attempt where
  serial : Serial
  carried : GroupSet
  slots : List (Nat × Nat)
  mark : TxMark
  checkedIn : Bool
deriving DecidableEq, Repr

/-- A live delivery record (R69); its number is its place in the table and its issue stands beside it. -/
structure Delivery where
  subscriber : Nat
  account : Nat
  body : Nat
  priority : Priority
  encoding : Encoding
  words : Nat
  orderKey : Serial
  state : DeliveryState
  kind : ClassKind
  allowance : Nat
  attemptsLeft : Nat
  repeatsLeft : Nat
  attemptsMade : Nat
  deferrals : Nat
  intake : Serial
  due : Serial
  deadline : Serial
  hold : Nat
  holdSpan : Nat
  noticeMode : NoticeMode
  nextMark : TxMark
  last : Option Attempt
  replyCode : Option Nat
  heardGroup : Option Nat
deriving DecidableEq, Repr

/-- The values of a free record, its number and issue apart (R69, R85, R89). R69 marks the state of a free record "not read":
QUEUED stands in its place (log 20). -/
def Delivery.free : Delivery :=
  { subscriber := 0, account := 0, body := 0, priority := .normal, encoding := .tone, words := 0, orderKey := 0,
    state := .queued, kind := .oneWay, allowance := 0, attemptsLeft := 0, repeatsLeft := 0, attemptsMade := 0,
    deferrals := 0, intake := 0, due := 0, deadline := 0, hold := 0, holdSpan := 1, noticeMode := .none,
    nextMark := .first, last := none, replyCode := none, heardGroup := none }

/-- A place of the delivery table: the issue, and the delivery while the record is live. A free record holds the free values,
which are fixed and so are not stored (R69; log 20). -/
structure DeliveryRecord where
  issue : Byte
  live : Option Delivery
deriving DecidableEq, Repr

/-- The fields that a record holds beside its number and issue: those of its delivery, or the free values (R69). -/
def DeliveryRecord.fields (r : DeliveryRecord) : Delivery := r.live.getD .free

/-- A free record that has never been taken since the last power-on or FULL RESET (R69, R89). -/
def DeliveryRecord.fresh : DeliveryRecord := { issue := 0, live := none }

structure DeliveryTable where
  records : Table DeliveryRecord
  /-- The intake sequence (R54). -/
  sequence : Serial
  /-- The 64 calendar lists, each in the order of R74, of delivery numbers. -/
  calendar : Table (List Nat)
deriving DecidableEq, Repr

/-- Outcome of an ended delivery (R72). -/
inductive Ending where
  | delivered | sent | expired | cancelled
deriving DecidableEq, Repr

/-- Reason of an ending (R72, R192). -/
inductive Reason where
  | none | lifetime | attempts | request | reset
deriving DecidableEq, Repr

/-! ### Frame clock (chapter 5) -/

inductive ClockState where
  | stopped | running
deriving DecidableEq, Repr

/-- Where a timed MARK edge fell (R90, R95). -/
structure Capture where
  serial : Serial
  offset : Nat
deriving DecidableEq, Repr

/-- The frame clock (R90). -/
structure Clock where
  state : ClockState
  serial : Serial
  trim : Nat
  pendingTrim : Nat
  position : Nat
  buildPassed : Bool
  latestMark : Option Capture
  markCount : Serial
deriving DecidableEq, Repr

/-- The clock after power-on (R101). -/
def Clock.powerOn : Clock :=
  { state := .stopped, serial := 0, trim := 64, pendingTrim := 64, position := 0, buildPassed := false,
    latestMark := none, markCount := 0 }

/-! ### Zones and groups (chapter 6) -/

inductive Polarity where
  | normal | inverted
deriving DecidableEq, Repr

inductive NoticeEdge where
  | none | rising | falling | both
deriving DecidableEq, Repr

inductive Alarm where
  | active | inactive
deriving DecidableEq, Repr

inductive ServiceStatus where
  | inService | outOfService
deriving DecidableEq, Repr

/-- The seven settings of a zone (R102). -/
structure ZoneSettings where
  enabled : Bool
  group : Option Nat
  settle : Nat
  polarity : Polarity
  edge : NoticeEdge
  autoRemove : Bool
  noticeEnable : Bool
deriving DecidableEq, Repr

/-- The power-on settings (R102, R119). -/
def ZoneSettings.powerOn : ZoneSettings :=
  { enabled := false, group := none, settle := 0, polarity := .normal, edge := .none, autoRemove := false,
    noticeEnable := false }

/-- A zone record (R102, R117). `input` is the level of the ZA pin. `offered` and `port` are the words offered on ZDn in the
frame and the word there now (R113, R135; log 8). -/
structure Zone where
  settings : ZoneSettings
  pending : ZoneSettings
  pendingFlag : Bool
  faulted : Bool
  input : Bool
  alarm : Alarm
  recorded : ServiceStatus
  keyed : Bool
  flags : BitVec 3
  wordsTaken : Nat
  wordsSerial : Serial
  alignFaults : Nat
  receiptsHeard : Nat
  strayReceipts : Nat
  checkIns : Nat
  overruns : Nat
  recordErrors : Nat
  offered : Nat
  port : Option Word
deriving DecidableEq, Repr

/-- A zone after power-on, its ZA input at the given level: the alarm state is taken with NORMAL polarity (R119). -/
def Zone.powerOn (input : Bool) : Zone :=
  { settings := .powerOn, pending := .powerOn, pendingFlag := false, faulted := false, input := input,
    alarm := if input then .active else .inactive, recorded := .outOfService, keyed := false, flags := 0,
    wordsTaken := 0, wordsSerial := 0, alignFaults := 0, receiptsHeard := 0, strayReceipts := 0, checkIns := 0,
    overruns := 0, recordErrors := 0, offered := 0, port := none }

inductive OrderMode where
  | sequential | interleaved
deriving DecidableEq, Repr

/-- The five settings of a group (R108): interleave depth B, order mode, guard G, slot count A, slot mask. -/
structure GroupSettings where
  depth : Nat
  order : OrderMode
  guard : Nat
  slotCount : Nat
  mask : SlotSet
deriving DecidableEq, Repr

/-- The power-on settings (R108, R120). -/
def GroupSettings.powerOn : GroupSettings :=
  { depth := 1, order := .sequential, guard := 2, slotCount := 0, mask := 0xFFFF }

/-- A frame plan (R111). -/
structure Plan where
  serial : Serial
  members : ZoneSet
  settle : Nat
  guard : Nat
  slotCount : Nat
  depth : Nat
  order : OrderMode
  mask : SlotSet
  capacity : Nat
deriving DecidableEq, Repr

/-- A group record (R108). -/
structure Group where
  settings : GroupSettings
  pending : GroupSettings
  pendingFlag : Bool
  next : Option Plan
  current : Option Plan
deriving DecidableEq, Repr

/-- A group after power-on (R120). -/
def Group.powerOn : Group :=
  { settings := .powerOn, pending := .powerOn, pendingFlag := false, next := none, current := none }

structure ZoneController where
  zones : Table Zone
  groups : Table Group
deriving DecidableEq, Repr

/-! ### Frame builder (chapter 7) -/

inductive AirState where
  | halted | on | stopping
deriving DecidableEq, Repr

/-- An entry of an image's page list (R121). -/
structure PageEntry where
  ticket : Ticket
  address : Word
  encoding : Encoding
  bodyWords : Nat
  mark : TxMark
  slot : Option Nat
deriving DecidableEq, Repr

/-- An image record (R121). p, M, the padded and the used length are computed from the page list (log 20). -/
structure Image where
  serial : Serial
  group : Nat
  settle : Nat
  capacity : Nat
  guard : Nat
  slotCount : Nat
  depth : Nat
  order : OrderMode
  usable : SlotSet
  pages : List PageEntry
  words : List Word
deriving DecidableEq, Repr

/-- The images and counters of one group (R121, R138). -/
structure GroupImages where
  next : Option Image
  current : Option Image
  built : Serial
  launched : Serial
  dropped : Serial
  pagesLaunched : Serial
deriving DecidableEq, Repr

def GroupImages.powerOn : GroupImages :=
  { next := none, current := none, built := 0, launched := 0, dropped := 0, pagesLaunched := 0 }

structure Builder where
  air : AirState
  images : Table GroupImages
deriving DecidableEq, Repr

/-! ### Receipt unit (chapter 8) -/

/-- A return record in a queue (R141). -/
inductive ReturnRecord where
  | receipt (frame slot reply : Nat) (check : Byte)
  | checkIn (address : Word) (arrival : Serial) (group : Option Nat)
deriving DecidableEq, Repr

/-- An entry of a receipt map (R143). -/
inductive Slot where
  | empty
  | claimed (ticket : Ticket)
  | answered (ticket : Ticket) (check : Byte)
deriving DecidableEq, Repr

/-- A receipt map (R143). -/
structure ReceiptMap where
  serial : Serial
  group : Nat
  members : ZoneSet
  slotCount : Nat
  usable : SlotSet
  slots : Table Slot
deriving DecidableEq, Repr

/-- The maps of one group by role (R143). -/
structure GroupMaps where
  building : Option ReceiptMap
  current : Option ReceiptMap
  previous : Option ReceiptMap
deriving DecidableEq, Repr

def GroupMaps.absent : GroupMaps := { building := none, current := none, previous := none }

/-- The counters of R160. -/
structure ReceiptCounters where
  delivered : Serial
  duplicate : Serial
  mismatch : Serial
  stray : Serial
  known : Serial
  unknown : Serial
  misses : Serial
  expired : Serial
deriving DecidableEq, Repr

structure ReceiptUnit where
  queues : Table (List ReturnRecord)
  maps : Table GroupMaps
  counters : ReceiptCounters
deriving DecidableEq, Repr

/-! ### Usage journal (chapter 9) -/

/-- The flags of a charge (R38, R40). -/
structure ChargeFlags where
  minimum : Bool
  saturated : Bool
  capped : Bool
deriving DecidableEq, Repr

/-- A usage record (R166). -/
structure UsageRecord where
  sequence : Serial
  ticket : Ticket
  subscriber : Nat
  account : Nat
  kind : ClassKind
  ending : Ending
  reason : Reason
  charge : Nat
  hold : Nat
  chargeSpan : Nat
  holdSpan : Nat
  words : Nat
  priority : Priority
  attemptsMade : Nat
  deferrals : Nat
  intake : Serial
  endSerial : Serial
  flags : ChargeFlags
  replyCode : Option Nat
  heardGroup : Option Nat
deriving DecidableEq, Repr

/-- The usage journal (R169); the occupancy is the number of records held. -/
structure Journal where
  records : List UsageRecord
  reservation : Nat
  sequence : Serial
  watermark : Nat
deriving DecidableEq, Repr

/-! ### Control link (chapter 10) -/

/-- A record of the link without its frame: kind, tag and payload (R180). -/
structure LinkRecord where
  kind : Byte
  tag : Byte
  payload : List Byte
deriving DecidableEq, Repr

inductive Receiver where
  | hunt | receiving | linkError
deriving DecidableEq, Repr

inductive LinkCause where
  | badLength | badCheck | framing
deriving DecidableEq, Repr

/-- The link error signature (R182). -/
structure Signature where
  cause : LinkCause
  taken : Receiver
  count : Nat
  length : Nat
  kind : Byte
  tag : Byte
  serial : Serial
deriving DecidableEq, Repr

/-- The control link (R178 to R191). -/
structure Link where
  rate : BitVec 2
  receiver : Receiver
  /-- The bytes of the record being assembled, lead byte first; their number is the receiver's count (R181). -/
  assembling : List Byte
  requests : List LinkRecord
  replies : List LinkRecord
  notices : List LinkRecord
  /-- The bytes of the record in transmission; `none` is the idle line (R187). -/
  sending : Option (List Byte)
  signature : Option Signature
  linkErrors : Nat
  droppedNotices : Nat
  overflows : Nat
  lostAnswers : Nat
  requestsTaken : Serial
  noticeSequence : BitVec 16
deriving DecidableEq, Repr

/-- The link after power-on, the rate pins sampled (R191). -/
def Link.powerOn (rate : BitVec 2) : Link :=
  { rate := rate, receiver := .hunt, assembling := [], requests := [], replies := [], notices := [], sending := none,
    signature := none, linkErrors := 0, droppedNotices := 0, overflows := 0, lostAnswers := 0, requestsTaken := 0,
    noticeSequence := 0 }

/-! ### Replies (R186, R193) -/

/-- Status codes, in the order of their codes (R193). -/
inductive Status where
  | ok | badRequest | outOfRange | noSuch | wrongState | busy | duplicateAddress | suspended | wrongClass | badText
  | subscriberFull | locked | journalFull | tableFull | storeFull | credit | inFlight | clockRunning | airActive | overflow
deriving DecidableEq, Repr

/-- What an owning block answers to a request: a status, the two flags, and the data its rule gives. -/
structure Answer where
  status : Status
  clamped : Bool
  saturated : Bool
  data : List Byte
deriving DecidableEq, Repr

/-- A refusal: a status other than OK, no flag, no data (R186). -/
def Answer.refuse (status : Status) : Answer := { status := status, clamped := false, saturated := false, data := [] }

/-- An OK answer with its data. -/
def Answer.accept (data : List Byte) : Answer := { status := .ok, clamped := false, saturated := false, data := data }

end Sys2Proof.Machine
end

