-- ==== Sys2Proof/Machine/State.lean ====
section
/-! DEFINITION. The state of the part: its ten blocks that hold state (section 0.3; the intake unit holds none, R68), and the
queue of commands that wait. Plain data throughout. -/

namespace Sys2Proof.Machine

structure State where
  /-- Unit directory (chapter 1). -/
  dir : Directory
  /-- Account unit (chapter 2). -/
  act : AccountUnit
  /-- Text store (chapter 3). -/
  txt : TextStore
  /-- Delivery table and frame calendar (chapter 4). -/
  dlv : DeliveryTable
  /-- Frame clock (chapter 5). -/
  clk : Clock
  /-- Zone controller (chapter 6). -/
  zon : ZoneController
  /-- Frame builder (chapter 7). -/
  bld : Builder
  /-- Receipt unit (chapter 8). -/
  rcp : ReceiptUnit
  /-- Usage journal (chapter 9). -/
  jnl : Journal
  /-- Control link (chapter 10). -/
  lnk : Link
  /-- The model's own: the commands that wait, first in, first out (log 10). -/
  pending : List Instr
deriving DecidableEq, Repr

/-- The part has no fault that stops it: a line error, an align fault and a refused request are states, counts and replies
(R114, R182, R186). No command raises a fault. -/
inductive Fault where
deriving DecidableEq, Repr

/-- Why a command has no meaning in the model. -/
inductive Refusal where
  /-- Raised by an arm of `exec` whose command has no meaning yet; no arm raises it now. Safe: the machine stops. -/
  | notModelled (mnemonic : String)
deriving DecidableEq, Repr

namespace State

/-! One update for each block. -/

def withDir (s : State) (b : Directory) : State := { s with dir := b }
def withAct (s : State) (b : AccountUnit) : State := { s with act := b }
def withTxt (s : State) (b : TextStore) : State := { s with txt := b }
def withDlv (s : State) (b : DeliveryTable) : State := { s with dlv := b }
def withClk (s : State) (b : Clock) : State := { s with clk := b }
def withZon (s : State) (b : ZoneController) : State := { s with zon := b }
def withBld (s : State) (b : Builder) : State := { s with bld := b }
def withRcp (s : State) (b : ReceiptUnit) : State := { s with rcp := b }
def withJnl (s : State) (b : Journal) : State := { s with jnl := b }
def withLnk (s : State) (b : Link) : State := { s with lnk := b }

/-- The part right after a power-on reset, with every table at the power-on values of its chapter (R19, R43, R68, R89, R101,
R119, R120, R140, R163, R177, R191). The pins RATE[1:0] are taken as sampled at 0 and the ZA inputs as low: DESIGN CHOICE,
the spec gives a pin no level (log 6). -/
def reset : State :=
  { dir := { subs := [], map := [] },
    act := .powerOn,
    txt := { bodies := [], blocks := [] },
    dlv := { records := [], sequence := 0, calendar := [] },
    clk := .powerOn,
    zon := { zones := [], groups := [] },
    bld := { air := .halted, images := [] },
    rcp := { queues := [], maps := [],
             counters := { delivered := 0, duplicate := 0, mismatch := 0, stray := 0, known := 0, unknown := 0,
                           misses := 0, expired := 0 } },
    jnl := { records := [], reservation := 0, sequence := 0, watermark := 4096 },
    lnk := .powerOn 0,
    pending := [] }

end State

end Sys2Proof.Machine
end

