-- ==== Sys2Proof/Machine/Operands.lean ====
section
/-! DEFINITION. The fields of link payloads and return records: widths, byte order and codes (R192, R194, R196). -/

namespace Sys2Proof.Machine

/-! ### Numbers: high byte first (R192) -/

/-- A number of one byte. -/
def num1 (n : Nat) : List Byte := [BitVec.ofNat 8 n]

/-- A number of two bytes, high byte first. -/
def num2 (n : Nat) : List Byte := [BitVec.ofNat 8 (n / 256), BitVec.ofNat 8 n]

/-- A number of four bytes, high byte first. -/
def num4 (n : Nat) : List Byte :=
  [BitVec.ofNat 8 (n / 16777216), BitVec.ofNat 8 (n / 65536), BitVec.ofNat 8 (n / 256), BitVec.ofNat 8 n]

/-- A serial or a 32-bit counter: four bytes. -/
def ser4 (x : Serial) : List Byte := num4 x.toNat

/-- A signed amount: four bytes, two's complement (R194). -/
def int4 (i : Int) : List Byte := num4 (BitVec.ofInt 32 i).toNat

/-- Yes or no, set or clear, present or absent: 1 or 0 (R194). -/
def flag1 (b : Bool) : List Byte := [if b then 1 else 0]

/-- A ticket: delivery number in two bytes, then issue (R192). -/
def ticket3 (t : Ticket) : List Byte := num2 t.number ++ [t.issue]

/-- A set of groups: one byte, bits 7..4 zero (R192). -/
def groups1 (g : GroupSet) : List Byte := [g.setWidth 8]

/-- A set of zones: one byte (R194). -/
def zones1 (z : ZoneSet) : List Byte := [z]

/-- A set of slots: two bytes (R194). -/
def slots2 (j : SlotSet) : List Byte := num2 j.toNat

/-- A set of change flags: one byte, bits 7..3 zero (R194). -/
def flags1 (f : BitVec 3) : List Byte := [f.setWidth 8]

/-- The group of a zone: the group, or 0xFF for none (R194). -/
def zoneGroup1 : Option Nat → List Byte
  | none => [0xFF]
  | some g => num1 g

/-- An optional one-byte number: a presence byte, then its value, 0 when absent (R194). -/
def optional1 : Option Nat → List Byte
  | none => [0, 0]
  | some n => 1 :: num1 n

/-- An optional serial: a presence byte, then its value, 0 when absent (R194). -/
def optionalSer : Option Serial → List Byte
  | none => [0, 0, 0, 0, 0]
  | some x => 1 :: ser4 x

/-- `n` bytes of zero: the value of an optional part that is absent (R194). -/
def zeros (n : Nat) : List Byte := List.replicate n 0

/-- The one-byte number at an offset of a payload. -/
def get1 (p : List Byte) (i : Nat) : Nat := (p.getD i 0).toNat

/-- The two-byte number at an offset of a payload, high byte first. -/
def get2 (p : List Byte) (i : Nat) : Nat := get1 p i * 256 + get1 p (i + 1)

/-- The four-byte number at an offset of a payload, high byte first. -/
def get4 (p : List Byte) (i : Nat) : Nat := get2 p i * 65536 + get2 p (i + 2)

/-- The four-byte serial at an offset of a payload. -/
def getSer (p : List Byte) (i : Nat) : Serial := BitVec.ofNat 32 (get4 p i)

/-- The signed four-byte amount at an offset of a payload. -/
def getInt (p : List Byte) (i : Nat) : Int := (BitVec.ofNat 32 (get4 p i)).toInt

/-- The ticket at an offset of a payload. -/
def getTicket (p : List Byte) (i : Nat) : Ticket := { number := get2 p i, issue := p.getD (i + 2) 0 }

/-! ### Codes: the position of a value in the list that names it (R192, R194) -/

def Service.code : Service → Nat
  | .unassigned => 0
  | .active => 1
  | .suspended => 2

def PagerClass.code : PagerClass → Nat
  | .tone => 0
  | .numeric => 1
  | .alpha => 2
  | .twoWay => 3

def PagerClass.ofCode : Nat → Option PagerClass
  | 0 => some .tone
  | 1 => some .numeric
  | 2 => some .alpha
  | 3 => some .twoWay
  | _ => none

def AccountState.code : AccountState → Nat
  | .closed => 0
  | .opened => 1
  | .locked => 2

def Priority.code : Priority → Nat
  | .urgent => 0
  | .normal => 1
  | .low => 2

def Priority.ofCode : Nat → Option Priority
  | 0 => some .urgent
  | 1 => some .normal
  | 2 => some .low
  | _ => none

def Encoding.code : Encoding → Nat
  | .tone => 0
  | .numeric => 1
  | .alpha => 2

def Encoding.ofCode : Nat → Option Encoding
  | 0 => some .tone
  | 1 => some .numeric
  | 2 => some .alpha
  | _ => none

def NoticeMode.code : NoticeMode → Nat
  | .none => 0
  | .final => 1
  | .everyAttempt => 2

def NoticeMode.ofCode : Nat → Option NoticeMode
  | 0 => some .none
  | 1 => some .final
  | 2 => some .everyAttempt
  | _ => Option.none

def DeliveryState.code : DeliveryState → Nat
  | .queued => 0
  | .placed => 1
  | .onAir => 2
  | .awaitReceipt => 3
  | .retryWait => 4

def ClassKind.code : ClassKind → Nat
  | .oneWay => 0
  | .twoWay => 1

/-- The mark codes of the note to R69. -/
def TxMark.code : TxMark → Nat
  | .first => 0
  | .again => 1
  | .retry => 2
  | .retryAfterCheckIn => 3

def Ending.code : Ending → Nat
  | .delivered => 0
  | .sent => 1
  | .expired => 2
  | .cancelled => 3

def Reason.code : Reason → Nat
  | .none => 0
  | .lifetime => 1
  | .attempts => 2
  | .request => 3
  | .reset => 4

def ClockState.code : ClockState → Nat
  | .stopped => 0
  | .running => 1

def Polarity.code : Polarity → Nat
  | .normal => 0
  | .inverted => 1

def Polarity.ofCode : Nat → Option Polarity
  | 0 => some .normal
  | 1 => some .inverted
  | _ => none

def NoticeEdge.code : NoticeEdge → Nat
  | .none => 0
  | .rising => 1
  | .falling => 2
  | .both => 3

def NoticeEdge.ofCode : Nat → Option NoticeEdge
  | 0 => some .none
  | 1 => some .rising
  | 2 => some .falling
  | 3 => some .both
  | _ => Option.none

def Alarm.code : Alarm → Nat
  | .active => 0
  | .inactive => 1

def ServiceStatus.code : ServiceStatus → Nat
  | .inService => 0
  | .outOfService => 1

def OrderMode.code : OrderMode → Nat
  | .sequential => 0
  | .interleaved => 1

def OrderMode.ofCode : Nat → Option OrderMode
  | 0 => some .sequential
  | 1 => some .interleaved
  | _ => none

def AirState.code : AirState → Nat
  | .halted => 0
  | .on => 1
  | .stopping => 2

def Receiver.code : Receiver → Nat
  | .hunt => 0
  | .receiving => 1
  | .linkError => 2

def LinkCause.code : LinkCause → Nat
  | .badLength => 0
  | .badCheck => 1
  | .framing => 2

/-- The status codes of R193. -/
def Status.code : Status → Nat
  | .ok => 0
  | .badRequest => 1
  | .outOfRange => 2
  | .noSuch => 3
  | .wrongState => 4
  | .busy => 5
  | .duplicateAddress => 6
  | .suspended => 7
  | .wrongClass => 8
  | .badText => 9
  | .subscriberFull => 10
  | .locked => 11
  | .journalFull => 12
  | .tableFull => 13
  | .storeFull => 14
  | .credit => 15
  | .inFlight => 16
  | .clockRunning => 17
  | .airActive => 18
  | .overflow => 19

/-- Yes or no, from its code (R194). -/
def boolOfCode : Nat → Option Bool
  | 0 => some false
  | 1 => some true
  | _ => none

/-- A set of groups from its byte: bits 7..4 set make an undefined set (R192). -/
def groupSetOfCode (n : Nat) : Option GroupSet :=
  if n < 16 then some (BitVec.ofNat 4 n) else none

/-- The group of a zone from its byte: outer `none` is neither 0..3 nor the code of none (R104, R194). -/
def zoneGroupOfCode (n : Nat) : Option (Option Nat) :=
  if n ≤ 3 then some (some n) else if n = 0xFF then some none else none

/-- A defined wake interval (R2, R8). -/
def intervalDefined (n : Nat) : Bool :=
  n = 4 || n = 8 || n = 16 || n = 32 || n = 64

/-- `small` is contained in `big`. -/
def groupSubset (small big : GroupSet) : Bool := small &&& big = small

/-! ### Texts (R46, R47, R65) -/

/-- The symbol code of a character of the numeric set (R47). -/
def numericSymbol (c : Byte) : Option Nat :=
  let n := c.toNat
  if 0x30 ≤ n ∧ n ≤ 0x39 then some (n - 0x30)
  else if n = 0x20 then some 0xA
  else if n = 0x2D then some 0xB
  else if n = 0x28 then some 0xC
  else if n = 0x29 then some 0xD
  else if n = 0x2A then some 0xE
  else none

/-- The character belongs to the alpha set (R47). -/
def alphaCharacter (c : Byte) : Bool :=
  (0x20 ≤ c.toNat && c.toNat ≤ 0x7E) || c.toNat = 0x0A

/-- The text has the length range of its encoding (R46). -/
def textLengthOk (e : Encoding) (n : Nat) : Bool :=
  match e with
  | .tone => n = 0
  | .numeric => 1 ≤ n && n ≤ 80
  | .alpha => 1 ≤ n && n ≤ 240

/-- Every character belongs to the set of the encoding (R47). -/
def textSetOk (e : Encoding) (text : List Byte) : Bool :=
  match e with
  | .tone => true
  | .numeric => text.all (fun c => (numericSymbol c).isSome)
  | .alpha => text.all alphaCharacter

/-- The text passes check 5 of R45. -/
def textOk (e : Encoding) (text : List Byte) : Bool :=
  textLengthOk e text.length && textSetOk e text

/-- Body words of a text of `n` characters (R46). -/
def bodyWordsOf (e : Encoding) (n : Nat) : Nat :=
  match e with
  | .tone => 0
  | .numeric => (n + 3) / 4
  | .alpha => (n + 1) / 2

/-- Blocks that a body of `n` characters takes (R64). -/
def blocksOf (n : Nat) : Nat := (n + 31) / 32

/-- The symbol sent for a character that is in the text: its code (R47). -/
def symbolOf (c : Byte) : Nat := (numericSymbol c).getD 0xF

/-- Numeric words: four symbols each, the first highest, the pad symbol 0xF after the last (R65). -/
def numericWords : List Byte → List Word
  | [] => []
  | [a] => [BitVec.ofNat 16 (symbolOf a * 4096 + 0xFFF)]
  | [a, b] => [BitVec.ofNat 16 (symbolOf a * 4096 + symbolOf b * 256 + 0xFF)]
  | [a, b, c] => [BitVec.ofNat 16 (symbolOf a * 4096 + symbolOf b * 256 + symbolOf c * 16 + 0xF)]
  | a :: b :: c :: d :: rest =>
    BitVec.ofNat 16 (symbolOf a * 4096 + symbolOf b * 256 + symbolOf c * 16 + symbolOf d) :: numericWords rest

/-- Alpha words: two characters each, the first high, the pad byte 0x00 after the last (R65). -/
def alphaWords : List Byte → List Word
  | [] => []
  | [a] => [BitVec.ofNat 16 (a.toNat * 256)]
  | a :: b :: rest => BitVec.ofNat 16 (a.toNat * 256 + b.toNat) :: alphaWords rest

/-- The words of a text (R65). -/
def textWords (e : Encoding) (text : List Byte) : List Word :=
  match e with
  | .tone => []
  | .numeric => numericWords text
  | .alpha => alphaWords text

/-- The characters cut into blocks of 32, in order (R64); the first argument is the number of blocks. -/
def cutBlocks : Nat → List Byte → List (List Byte)
  | 0, _ => []
  | k + 1, text => text.take 32 :: cutBlocks k (text.drop 32)

/-! ### Return records (R196) -/

/-- The sum of the bytes, mod 256. -/
def byteSum (bytes : List Byte) : Nat := (bytes.map BitVec.toNat).sum % 256

/-- What a return record carries: the fields of a RECEIPT, or the address of a CHECK-IN. -/
inductive ReturnFields where
  | receipt (frame slot reply : Nat) (check : Byte)
  | checkIn (address : Word)
deriving DecidableEq, Repr

/-- Read a return record; `none` is a bad record: a sum that is not 0, a kind that is neither RECEIPT nor CHECK-IN, or a
length that is not the length of its kind (R141, R196; log 17). -/
def readReturn (bytes : List Byte) : Option ReturnFields :=
  if byteSum bytes = 0 then
    match bytes with
    | [0x31, 3, a, b, c, _] => some (.receipt (a.toNat / 4) (b.toNat / 16) (b.toNat % 16) c)
    | [0x32, 2, a, b, _] => some (.checkIn (BitVec.ofNat 16 (a.toNat * 256 + b.toNat)))
    | _ => none
  else none

end Sys2Proof.Machine
end

