-- ==== Sys2Proof/Machine/Flags.lean ====
section
/-! DEFINITION. The staged charge calculation with its flags (section 2.6 to 2.8), the change flags of a zone (R115) and the
two flags of a reply (R193). -/

namespace Sys2Proof.Machine

/-! ### The charge calculation (R36 to R40) -/

/-- The span factor F_s of an entry (R36). -/
def Tariff.spanFactor (e : Tariff) (span : Nat) : Nat :=
  if span ≤ 1 then e.f1 else if span = 2 then e.f2 else if span = 3 then e.f3 else e.f4

/-- The priority multiplier P of an entry, in eighths (R31). -/
def Tariff.multiplier (e : Tariff) : Priority → Nat
  | .urgent => e.urgent
  | .normal => 8
  | .low => e.low

/-- Stages 1 to 5 of R37, in whole units. -/
def Tariff.staged (e : Tariff) (words span : Nat) (p : Priority) (trim : Nat) : Nat :=
  let x1 := 16 * e.base + e.perWord * words
  let x2 := x1 * e.spanFactor span / 16
  let x3 := x2 * e.multiplier p / 8
  let x4 := x3 * (128 + trim) / 256
  (x4 + 8) / 16

/-- No flag. -/
def ChargeFlags.clear : ChargeFlags := { minimum := false, saturated := false, capped := false }

/-- C(s) with its flags: the staged result under the two limits of R38, in their order. -/
def Tariff.computed (e : Tariff) (words span : Nat) (p : Priority) (trim : Nat) : Nat × ChargeFlags :=
  let c := e.staged words span p trim
  let raised := max c e.minimum
  (min raised Config.amountMax,
    { minimum := c < e.minimum, saturated := Config.amountMax < raised, capped := false })

/-- The hold of a delivery (R39). -/
def Tariff.hold (e : Tariff) (words span : Nat) (p : Priority) (trim : Nat) : Nat :=
  max (e.computed words span p trim).1 e.expiry

/-- The charge of an ended delivery and its flags, by outcome (R40). -/
def Tariff.charge (e : Tariff) (ending : Ending) (words span : Nat) (p : Priority) (trim hold : Nat) : Nat × ChargeFlags :=
  match ending with
  | .delivered | .sent =>
    let c := e.computed words span p trim
    (min c.1 hold, { c.2 with capped := hold < c.1 })
  | .expired => (min e.expiry hold, { ChargeFlags.clear with capped := hold < e.expiry })
  | .cancelled => (0, .clear)

/-- The charge flags as bits 2..0 of byte 18 of the usage record (11.1.3). -/
def ChargeFlags.bits (f : ChargeFlags) : Nat :=
  (if f.capped then 4 else 0) + (if f.saturated then 2 else 0) + (if f.minimum then 1 else 0)

/-! ### Change flags of a zone (R102, R194) -/

def alarmChange : BitVec 3 := 1
def serviceChange : BitVec 3 := 2
def alignFault : BitVec 3 := 4

/-- The flags of an event that were not in the set (R115). -/
def addedFlags (old event : BitVec 3) : BitVec 3 := event &&& ~~~old

/-! ### Flags of a reply (R186, R193) -/

/-- Bit 0 CLAMPED, bit 1 SATURATED. -/
def Answer.flags (a : Answer) : Nat := (if a.clamped then 1 else 0) + (if a.saturated then 2 else 0)

end Sys2Proof.Machine
end

