-- ==== Sys2Proof/Machine/Ops.lean ====
section
/-! DEFINITION. The named operations over the part's tables, queues and serials, which every meaning is written over. -/

namespace Sys2Proof.Machine

/-! ### Serials (R6, R7, R55, R73) -/

/-- `a` is at or before `b` in serial order (R73). Of a due serial exactly 2^31 after the serial compared R73 says by its
definition that it is after it, and in its last paragraph that it counts as before it; the model follows the definition:
DESIGN CHOICE (log 29). -/
def atOrBefore (a b : Serial) : Bool := (b - a).toNat < 2 ^ 31

/-- `a` is beyond `b`: after it in serial order (R73). -/
def beyond (a b : Serial) : Bool := !atOrBefore a b

/-- The frame number of a serial (R91). -/
def frameNumber (x : Serial) : Nat := x.toNat % 64

/-- The home frame of a unit address (R6). -/
def homeFrame (a : Word) : Nat := a.toNat % 64

/-- The frame of serial `x` is eligible for the subscriber (R6). -/
def Subscriber.eligible (u : Subscriber) (x : Serial) : Bool :=
  x.toNat % u.interval = homeFrame u.address % u.interval

/-- The next eligible serial at or after `x` (R7). -/
def Subscriber.nextEligible (u : Subscriber) (x : Serial) : Serial :=
  x + BitVec.ofNat 32 ((homeFrame u.address % u.interval + u.interval - x.toNat % u.interval) % u.interval)

/-- The earliest unbuilt serial (R55). -/
def Clock.earliestUnbuilt (c : Clock) : Serial :=
  match c.state with
  | .stopped => c.serial + 1
  | .running => if c.buildPassed then c.serial + 2 else c.serial + 1

/-- The frame length in ticks (R92). -/
def Clock.frameLength (c : Clock) : Nat := Config.frameBase + c.trim

/-! ### Tables -/

namespace State

def sub (s : State) (n : Nat) : Subscriber := Table.read .unassigned s.dir.subs n
def setSub (s : State) (n : Nat) (u : Subscriber) : State :=
  s.withDir { s.dir with subs := Table.put .unassigned s.dir.subs n u }

/-- The subscriber number of an address by the directory map; address 0 is always not found (R4). -/
def lookup (s : State) (a : Word) : Option Nat :=
  if a = 0 then none else Table.read none s.dir.map a.toNat

/-- Write the map entry of an address; `none` removes it (R4). -/
def bindAddress (s : State) (a : Word) (o : Option Nat) : State :=
  s.withDir { s.dir with map := Table.put none s.dir.map a.toNat o }

def acct (s : State) (n : Nat) : Account := Table.read .closed s.act.accounts n
def setAcct (s : State) (n : Nat) (a : Account) : State :=
  s.withAct { s.act with accounts := Table.put .closed s.act.accounts n a }

def tariff (s : State) (n : Nat) : Tariff := Table.read .powerOn s.act.tariffs n
def setTariff (s : State) (n : Nat) (e : Tariff) : State :=
  s.withAct { s.act with tariffs := Table.put .powerOn s.act.tariffs n e }

def profile (s : State) : Priority → Profile
  | .urgent => s.act.urgent
  | .normal => s.act.normal
  | .low => s.act.low
def setProfile (s : State) (p : Priority) (f : Profile) : State :=
  match p with
  | .urgent => s.withAct { s.act with urgent := f }
  | .normal => s.withAct { s.act with normal := f }
  | .low => s.withAct { s.act with low := f }

def body (s : State) (n : Nat) : Body := Table.read .free s.txt.bodies n
def setBody (s : State) (n : Nat) (b : Body) : State :=
  s.withTxt { s.txt with bodies := Table.put .free s.txt.bodies n b }

def block (s : State) (n : Nat) : Option (List Byte) := Table.read none s.txt.blocks n
def setBlock (s : State) (n : Nat) (b : Option (List Byte)) : State :=
  s.withTxt { s.txt with blocks := Table.put none s.txt.blocks n b }

def record (s : State) (n : Nat) : DeliveryRecord := Table.read .fresh s.dlv.records n
def setRecord (s : State) (n : Nat) (r : DeliveryRecord) : State :=
  s.withDlv { s.dlv with records := Table.put .fresh s.dlv.records n r }

/-- The live delivery of a record, if it is live (R69). -/
def live (s : State) (n : Nat) : Option Delivery := (s.record n).live

/-- Write the live delivery of a record, keeping its issue. -/
def setLive (s : State) (n : Nat) (d : Delivery) : State :=
  s.setRecord n { issue := (s.record n).issue, live := some d }

/-- Free a record: its fields take the free values, and its issue is kept (R69, R85). -/
def freeRecord (s : State) (n : Nat) : State :=
  s.setRecord n { issue := (s.record n).issue, live := none }

/-- The fields of a record, live or free (R69). -/
def fields (s : State) (n : Nat) : Delivery := (s.record n).fields

/-- The ticket of the delivery in a record (R70). -/
def ticket (s : State) (n : Nat) : Ticket := { number := n, issue := (s.record n).issue }

/-- The delivery that a ticket names (R70). -/
def named (s : State) (t : Ticket) : Option Delivery :=
  if t.number < Config.deliveries ∧ (s.record t.number).issue = t.issue then s.live t.number else none

/-- The numbers of the live deliveries that satisfy `p`, ascending. -/
def liveWhere (s : State) (p : Delivery → Bool) : List Nat :=
  Table.numbers (fun r => match r.live with | some d => p d | none => false) s.dlv.records

/-- The numbers of the live deliveries, ascending. -/
def liveNumbers (s : State) : List Nat := s.liveWhere (fun _ => true)

/-- The table's live total (R70). -/
def liveTotal (s : State) : Nat := s.liveNumbers.length

def calList (s : State) (k : Nat) : List Nat := Table.read [] s.dlv.calendar k
def setCalList (s : State) (k : Nat) (l : List Nat) : State :=
  s.withDlv { s.dlv with calendar := Table.put [] s.dlv.calendar k l }

def zone (s : State) (z : Nat) : Zone := Table.read (.powerOn false) s.zon.zones z
def setZone (s : State) (z : Nat) (r : Zone) : State :=
  s.withZon { s.zon with zones := Table.put (.powerOn false) s.zon.zones z r }

def group (s : State) (g : Nat) : Group := Table.read .powerOn s.zon.groups g
def setGroup (s : State) (g : Nat) (r : Group) : State :=
  s.withZon { s.zon with groups := Table.put .powerOn s.zon.groups g r }

def images (s : State) (g : Nat) : GroupImages := Table.read .powerOn s.bld.images g
def setImages (s : State) (g : Nat) (r : GroupImages) : State :=
  s.withBld { s.bld with images := Table.put .powerOn s.bld.images g r }

def maps (s : State) (g : Nat) : GroupMaps := Table.read .absent s.rcp.maps g
def setMaps (s : State) (g : Nat) (r : GroupMaps) : State :=
  s.withRcp { s.rcp with maps := Table.put .absent s.rcp.maps g r }

def queue (s : State) (z : Nat) : List ReturnRecord := Table.read [] s.rcp.queues z
def setQueue (s : State) (z : Nat) (q : List ReturnRecord) : State :=
  s.withRcp { s.rcp with queues := Table.put [] s.rcp.queues z q }

def setCounters (s : State) (c : ReceiptCounters) : State := s.withRcp { s.rcp with counters := c }

end State

/-- The groups, and the zones, by number. -/
def groupNumbers : List Nat := [0, 1, 2, 3]
def zoneNumbers : List Nat := [0, 1, 2, 3, 4, 5, 6, 7]

/-- A set of groups from a test. -/
def groupsWhere (p : Nat → Bool) : GroupSet :=
  groupNumbers.foldl (fun acc g => if p g then acc ||| BitVec.twoPow 4 g else acc) 0

/-- A set of zones from a test. -/
def zonesWhere (p : Nat → Bool) : ZoneSet :=
  zoneNumbers.foldl (fun acc z => if p z then acc ||| BitVec.twoPow 8 z else acc) 0

/-! ### The control link's queues (R180, R184 to R188, R193) -/

/-- The bytes of a record on the line: lead, length, kind, tag, payload, check (R180). -/
def LinkRecord.bytes (r : LinkRecord) : List Byte :=
  let inner := num2 (r.payload.length + 2) ++ r.kind :: r.tag :: r.payload
  0xA5 :: inner ++ [BitVec.ofNat 8 (256 - byteSum inner)]

/-- The reply record of an answer to a request of the given kind and tag (R186, R193). -/
def Answer.reply (a : Answer) (kind tag : Byte) : LinkRecord :=
  { kind := 0x80, tag := tag, payload := kind :: num1 a.status.code ++ num1 a.flags ++ a.data }

/-- The idle line chooses the next record: the oldest reply, else the oldest notice (R187). -/
def Link.choose (l : Link) : Link :=
  match l.sending with
  | some _ => l
  | none =>
    match l.replies with
    | r :: rest => { l with sending := some r.bytes, replies := rest }
    | [] =>
      match l.notices with
      | r :: rest => { l with sending := some r.bytes, notices := rest }
      | [] => l

/-- A reply joins the tail of the reply queue (R187). -/
def Link.place (l : Link) (r : LinkRecord) : Link := { l with replies := l.replies ++ [r] }

/-- A notice is raised: it takes the notice sequence number and joins the notice queue, or is dropped and counted (R188). -/
def Link.notice (l : Link) (kind : Byte) (fields : List Byte) : Link :=
  let next := l.noticeSequence + 1
  if l.notices.length < Config.noticePlaces then
    { l with noticeSequence := next,
             notices := l.notices ++ [{ kind := kind, tag := 0, payload := num2 l.noticeSequence.toNat ++ fields }] }
  else
    { l with noticeSequence := next, droppedNotices := satAdd Config.count16Max l.droppedNotices 1 }

/-- A well-framed record is offered to the request queue: it joins the tail, or is refused with OVERFLOW (R184). -/
def Link.offer (l : Link) (r : LinkRecord) : Link :=
  if l.requests.length < Config.requestPlaces then
    { l with requests := l.requests ++ [r], requestsTaken := l.requestsTaken + 1 }
  else
    let l := { l with overflows := satAdd Config.count16Max l.overflows 1 }
    if l.replies.length < Config.replyPlaces then l.place ((Answer.refuse .overflow).reply r.kind r.tag)
    else { l with lostAnswers := satAdd Config.count16Max l.lostAnswers 1 }

/-- Raise a notice of the given kind byte and fields (R188, R193). -/
def State.notice (s : State) (kind : Byte) (fields : List Byte) : State :=
  s.withLnk (s.lnk.notice kind fields)

/-- The end of a command: the line, if idle, chooses the next record (R187; log 7). -/
def State.lineChoice (s : State) : State := s.withLnk s.lnk.choose

/-- The outcome of an event: its effect, and then the idle line's choice. -/
def event (s : State) : Host.Outcome State Fault Refusal := .next s.lineChoice

/-! ### Unit directory: reports (R14, R15, R17) -/

/-- Last heard is replaced unless the report is older (R15). -/
def Subscriber.report (u : Subscriber) (group : Nat) (serial : Serial) : Subscriber :=
  match u.heard with
  | none => { u with heard := some { group := group, serial := serial } }
  | some h => if atOrBefore h.serial serial then { u with heard := some { group := group, serial := serial } } else u

/-- The live count of a subscriber falls by one (R14). -/
def State.lowerLive (s : State) (n : Nat) : State :=
  s.setSub n { s.sub n with live := (s.sub n).live - 1 }

/-- Last heard is fresh for a serial (R16). -/
def Subscriber.fresh (u : Subscriber) (x : Serial) : Option Nat :=
  match u.heard with
  | none => none
  | some h =>
    if (x - h.serial).toNat ≤ Config.localityAge ∧ u.coverage.getLsbD h.group = true then some h.group else none

/-! ### Account unit (R21, R41) -/

/-- Available funds (R21). -/
def Account.available (a : Account) : Int := a.balance + a.credit - a.reserved

/-- The account side of settlement (R41). -/
def Account.settle (a : Account) (charge hold : Nat) : Account :=
  { a with balance := max (a.balance - charge) Config.balanceMin,
           reserved := a.reserved - hold,
           settled := satAdd Config.count32Max a.settled 1,
           charged := satAdd Config.count32Max a.charged charge }

/-! ### Text store (R64, R66) -/

/-- The number of bodies in use, and of blocks in use (R67). -/
def State.bodiesInUse (s : State) : Nat := (Table.numbers (fun b : Body => b.inUse) s.txt.bodies).length
def State.blocksInUse (s : State) : Nat := (Table.numbers (fun b : Option (List Byte) => b.isSome) s.txt.blocks).length

/-- The lowest free body entry (R64). -/
def State.freeBody (s : State) : Option Nat := lowestFree (fun n => (s.body n).inUse) Config.bodies 0

/-- The lowest free blocks, ascending (R64). -/
def State.freeBlocks (s : State) (count : Nat) : List Nat :=
  lowestFrees (fun n => (s.block n).isSome) Config.blocks 0 count

/-- The text store can hold a body of `n` characters (check 10, R50). -/
def State.storeRoom (s : State) (n : Nat) : Bool :=
  s.freeBody.isSome && blocksOf n ≤ Config.blocks - s.blocksInUse

/-- Write characters into blocks, one cut to each block. -/
def writeBlocks (s : State) : List (Nat × List Byte) → State
  | [] => s
  | (b, chars) :: rest => writeBlocks (s.setBlock b (some chars)) rest

/-- Return blocks to the free pool. -/
def dropBlocks (s : State) : List Nat → State
  | [] => s
  | b :: rest => dropBlocks (s.setBlock b none) rest

/-- Create a body with reference count 1 in the given entry, in the lowest free blocks (R52, R64). -/
def State.createBody (s : State) (n : Nat) (e : Encoding) (text : List Byte) : State :=
  let count := blocksOf text.length
  let blocks := s.freeBlocks count
  writeBlocks (s.setBody n { inUse := true, refs := 1, encoding := e, length := text.length, blocks := blocks })
    (blocks.zip (cutBlocks count text))

/-- A later member of a group page shares the body (R61, R63). -/
def State.shareBody (s : State) (n : Nat) : State := s.setBody n { s.body n with refs := (s.body n).refs + 1 }

/-- The body's reference count falls by one; at 0 the body and its blocks are freed (R66). -/
def State.releaseBody (s : State) (n : Nat) : State :=
  let b := s.body n
  if b.refs ≤ 1 then (dropBlocks s b.blocks).setBody n .free else s.setBody n { b with refs := b.refs - 1 }

/-- The stored characters of a body, in order (R64). -/
def State.bodyText (s : State) (n : Nat) : List Byte :=
  ((s.body n).blocks.map (fun b => (s.block b).getD [])).flatten

/-! ### Frame calendar (R74, R75) -/

/-- A delivery in this state stands in a calendar list (R74). -/
def DeliveryState.waiting : DeliveryState → Bool
  | .queued | .retryWait => true
  | .placed | .onAir | .awaitReceipt => false

/-- Calendar order: by priority, then by order key in serial order (R74). -/
def Delivery.precedes (d e : Delivery) : Bool :=
  d.priority.code < e.priority.code || (d.priority = e.priority && atOrBefore d.orderKey e.orderKey)

/-- Put a delivery number at its place in a calendar list (R74). -/
def insertInList (s : State) (n : Nat) (d : Delivery) : List Nat → List Nat
  | [] => [n]
  | m :: rest =>
    if (match s.live m with | some e => d.precedes e | none => false) then n :: m :: rest
    else m :: insertInList s n d rest

/-- Take a delivery out of the list it stands in, if any (R75, R85). -/
def State.unfile (s : State) (n : Nat) : State :=
  match s.live n with
  | some d =>
    if d.state.waiting then
      s.setCalList (frameNumber d.due) ((s.calList (frameNumber d.due)).filter (fun m => m ≠ n))
    else s
  | none => s

/-- Write the record and file it in the list of its due serial's frame number (R75). -/
def State.file (s : State) (n : Nat) (d : Delivery) : State :=
  let s := s.setLive n d
  s.setCalList (frameNumber d.due) (insertInList s n d (s.calList (frameNumber d.due)))

/-! ### Receipt maps (R143, R144) -/

/-- The entry of a slot; a slot not listed is EMPTY. -/
def ReceiptMap.slot (m : ReceiptMap) (j : Nat) : Slot := Table.read .empty m.slots j
def ReceiptMap.setSlot (m : ReceiptMap) (j : Nat) (x : Slot) : ReceiptMap :=
  { m with slots := Table.put .empty m.slots j x }

/-- Write a slot of a map if the map is that of the given frame. -/
def setSlotOfFrame (frame : Serial) (j : Nat) (x : Slot) : Option ReceiptMap → Option ReceiptMap
  | some m => if m.serial = frame then some (m.setSlot j x) else some m
  | none => none

/-- Write a slot of a group's map of the given frame, whatever its role. -/
def State.setSlot (s : State) (frame : Serial) (g j : Nat) (x : Slot) : State :=
  s.setMaps g { building := setSlotOfFrame frame j x (s.maps g).building,
                current := setSlotOfFrame frame j x (s.maps g).current,
                previous := setSlotOfFrame frame j x (s.maps g).previous }

/-- Write the same entry into every slot that an attempt holds (R79, R148). -/
def writeSlots (frame : Serial) (x : Slot) (s : State) : List (Nat × Nat) → State
  | [] => s
  | (g, j) :: rest => writeSlots frame x (s.setSlot frame g j x) rest

/-- The usable slots of a plan: below A and in the mask (R108). -/
def usableSlots (slotCount : Nat) (mask : SlotSet) : SlotSet := mask &&& BitVec.ofNat 16 (2 ^ slotCount - 1)

end Sys2Proof.Machine
end

