-- ==== Sys2Proof/Machine/Formats.lean ====
section
/-! DEFINITION. The layouts of records that cross the link (R192, R194, 11.1) and of air words (R130, R131, R135, R195). -/

namespace Sys2Proof.Machine

/-! ### Usage record and notices (11.1.3, 11.1.4) -/

/-- Outcome and reason with the class kind in bit 7: byte 11 of the usage record. -/
def endingByte (kind : ClassKind) (e : Ending) (r : Reason) : Byte :=
  BitVec.ofNat 8 (kind.code * 128 + e.code * 16 + r.code)

/-- Reply code and heard group: byte 29 of the usage record. -/
def heardByte (replyCode heardGroup : Option Nat) : Byte :=
  BitVec.ofNat 8 (replyCode.getD 0 * 16 + (match heardGroup with | some g => 8 + g | none => 0))

/-- The 30 bytes of a usage record (11.1.3). -/
def UsageRecord.bytes (u : UsageRecord) : List Byte :=
  ser4 u.sequence ++ ticket3 u.ticket ++ num2 u.subscriber ++ num2 u.account ++ [endingByte u.kind u.ending u.reason] ++
    num2 u.charge ++ num2 u.hold ++ num1 (u.chargeSpan * 16 + u.holdSpan) ++ num1 u.words ++
    num1 (u.priority.code * 64 + u.flags.bits) ++ num1 u.attemptsMade ++ num1 u.deferrals ++ ser4 u.intake ++
    ser4 u.endSerial ++ [heardByte u.replyCode u.heardGroup]

/-- The fields of a DELIVERY NOTICE (R167, 11.1.4). -/
def deliveryNoticeFields (u : UsageRecord) : List Byte :=
  ticket3 u.ticket ++ num2 u.subscriber ++ [endingByte u.kind u.ending u.reason] ++ num2 u.charge ++ num1 u.flags.bits ++
    ser4 u.sequence ++ ser4 u.endSerial ++ [heardByte u.replyCode u.heardGroup]

/-- The fields of an ATTEMPT NOTICE (R153). -/
def attemptNoticeFields (t : Ticket) (d : Delivery) (missed : Attempt) : List Byte :=
  ticket3 t ++ num2 d.subscriber ++ ser4 missed.serial ++ groups1 missed.carried ++ num1 d.attemptsMade ++
    num1 d.attemptsLeft ++ ser4 d.due ++ num1 d.nextMark.code

/-- The fields of a link error signature (R182, R189). -/
def Signature.bytes (g : Signature) : List Byte :=
  num1 g.cause.code ++ num1 g.taken.code ++ num2 g.count ++ num2 g.length ++ [g.kind, g.tag] ++ ser4 g.serial

/-! ### Records that queries return (R194) -/

/-- Every field of R2, then the home frame and the account number (R13; log 15). -/
def Subscriber.bytes (n : Nat) (u : Subscriber) : List Byte :=
  num2 n ++ num1 u.service.code ++ num2 u.address.toNat ++ num1 u.pager.code ++ num1 u.interval ++ groups1 u.home ++
    groups1 u.coverage ++ num2 u.account ++ num1 u.trim ++ num1 u.live ++
    (match u.heard with | some h => 1 :: num1 h.group ++ ser4 h.serial | none => zeros 6) ++
    num2 u.checkIns ++ num2 u.receipts ++ num1 (homeFrame u.address) ++ num2 u.account

/-- Every field of R20, then the available funds (R29). -/
def Account.bytes (n : Nat) (a : Account) : List Byte :=
  num2 n ++ num1 a.state.code ++ num1 a.tariff ++ int4 a.balance ++ num4 a.credit ++ num4 a.reserved ++ num2 a.links ++
    num4 a.settled ++ num4 a.charged ++ int4 a.available

/-- The ten fields of a tariff entry (R31, R33). -/
def Tariff.bytes (e : Tariff) : List Byte :=
  num2 e.base ++ num2 e.perWord ++ num1 e.f1 ++ num1 e.f2 ++ num1 e.f3 ++ num1 e.f4 ++ num1 e.urgent ++ num1 e.low ++
    num2 e.minimum ++ num2 e.expiry

/-- The four fields of a priority profile (R33, R35). -/
def Profile.bytes (f : Profile) : List Byte :=
  num1 f.allowance ++ num1 f.repeats ++ num1 f.base ++ num1 f.lifetime

/-- A body entry followed by its stored characters (R67; log 11). -/
def Body.bytes (b : Body) (text : List Byte) : List Byte :=
  flag1 b.inUse ++ num1 b.refs ++ num1 b.encoding.code ++ num1 b.length ++ num1 b.blocks.length ++
    (b.blocks.map num2).flatten ++ text

/-- The last attempt: presence, frame serial, carried set, slots as a list, mark, checked-in-since (R69, R87; log 12). -/
def Attempt.bytes : Option Attempt → List Byte
  | none => zeros 9
  | some a =>
    1 :: ser4 a.serial ++ groups1 a.carried ++ num1 a.slots.length ++ (a.slots.map (fun p => num1 p.2)).flatten ++
      num1 a.mark.code ++ flag1 a.checkedIn

/-- Every field of R69, then the list number (R87). -/
def Delivery.bytes (t : Ticket) (d : Delivery) : List Byte :=
  ticket3 t ++ num2 d.subscriber ++ num2 d.account ++ num2 d.body ++ num1 d.priority.code ++ num1 d.encoding.code ++
    num1 d.words ++ ser4 d.orderKey ++ num1 d.state.code ++ num1 d.kind.code ++ num1 d.allowance ++ num1 d.attemptsLeft ++
    num1 d.repeatsLeft ++ num1 d.attemptsMade ++ num1 d.deferrals ++ ser4 d.intake ++ ser4 d.due ++ ser4 d.deadline ++
    num2 d.hold ++ num1 d.holdSpan ++ num1 d.noticeMode.code ++ num1 d.nextMark.code ++ Attempt.bytes d.last ++
    optional1 d.replyCode ++ optional1 d.heardGroup ++ num1 (if d.state.waiting then frameNumber d.due else 0)

/-- The seven settings of a zone (R102). -/
def ZoneSettings.bytes (z : ZoneSettings) : List Byte :=
  flag1 z.enabled ++ zoneGroup1 z.group ++ num1 z.settle ++ num1 z.polarity.code ++ num1 z.edge.code ++
    flag1 z.autoRemove ++ flag1 z.noticeEnable

/-- The five settings of a group (R108). -/
def GroupSettings.bytes (g : GroupSettings) : List Byte :=
  num1 g.depth ++ num1 g.order.code ++ num1 g.guard ++ num1 g.slotCount ++ slots2 g.mask

/-- A plan: presence, then frame serial, member set, S, D, G, A, B, order mode, slot mask, number of usable slots (R118). -/
def Plan.bytes : Option Plan → List Byte
  | none => zeros 16
  | some p =>
    1 :: ser4 p.serial ++ zones1 p.members ++ num1 p.settle ++ num2 p.capacity ++ num1 p.guard ++ num1 p.slotCount ++
      num1 p.depth ++ num1 p.order.code ++ slots2 p.mask ++ num1 (memberCount 16 (usableSlots p.slotCount p.mask))

/-! ### Images (R121, R130, R131) -/

/-- p: the number of entries in the page list (R121). -/
def Image.p (i : Image) : Nat := i.pages.length

/-- M: the sum of W - 1 over the entries, where W - 2 is the body word count (R121). -/
def Image.m (i : Image) : Nat := (i.pages.map (fun e => e.bodyWords + 1)).sum

/-- `m` words padded to a multiple of B (R121). -/
def paddedTo (depth m : Nat) : Nat := (m + depth - 1) / depth * depth

def Image.padded (i : Image) : Nat := paddedTo i.depth i.m
def Image.used (i : Image) : Nat := i.p + i.padded

/-- Slots claimed in an image: its entries that carry a slot (R139; log 16). -/
def Image.claims (i : Image) : Nat := (i.pages.filter (fun e => e.slot.isSome)).length

/-- An image in the QUERY AIR summary (R139). -/
def Image.summary : Option Image → List Byte
  | none => zeros 18
  | some i =>
    1 :: ser4 i.serial ++ num1 i.p ++ num2 i.m ++ num2 i.padded ++ num2 i.used ++ num2 i.capacity ++ num1 i.depth ++
      num1 i.order.code ++ num1 i.slotCount ++ num1 i.claims

/-- A page list entry in the QUERY AIR image form; slot 31 is no slot (R139). -/
def PageEntry.bytes (e : PageEntry) : List Byte :=
  ticket3 e.ticket ++ num2 e.address.toNat ++ num1 e.encoding.code ++ num1 e.bodyWords ++ num1 e.mark.code ++
    num1 (e.slot.getD 31)

/-- The code of the interleave depth in the frame word (R195). -/
def depthCode (depth : Nat) : Nat :=
  if depth = 8 then 3 else if depth = 4 then 2 else if depth = 2 then 1 else 0

/-- The frame word (R195). -/
def Image.frameWord (i : Image) : Word :=
  BitVec.ofNat 16 (frameNumber i.serial * 1024 + i.group * 256 + depthCode i.depth * 64 + i.order.code * 32)

/-- The field word (R195). -/
def Image.fieldWord (i : Image) : Word := BitVec.ofNat 16 (i.p * 256 + i.slotCount * 8)

/-- The descriptor word (R130, R195). -/
def PageEntry.descriptor (e : PageEntry) : Word :=
  BitVec.ofNat 16 (e.encoding.code * 16384 + e.bodyWords * 128 + e.mark.code * 32 + e.slot.getD 31)

/-- The fill word (R131, R195). -/
def fillWord : Word := 0xC3C3

/-- The body words of the delivery of an entry, as the text store gives them (R65, R130). -/
def State.entryWords (s : State) (e : PageEntry) : List Word :=
  match s.live e.ticket.number with
  | some d => textWords (s.body d.body).encoding (s.bodyText d.body)
  | none => []

/-- The 4 + D words of an image: header, address words, each descriptor with its body words, padding, fill (R131). -/
def Image.layout (i : Image) (bodyWords : PageEntry → List Word) : List Word :=
  [0x2DB4, 0xD24B, i.frameWord, i.fieldWord] ++ i.pages.map (fun e => e.address) ++
    (i.pages.map (fun e => e.descriptor :: bodyWords e)).flatten ++
    List.replicate (i.padded - i.m) fillWord ++ List.replicate (i.capacity - i.used) fillWord

/-- The image index of the word that is offered at index `k` of the data field (R135). -/
def Image.offeredIndex (i : Image) (k : Nat) : Nat :=
  let start := 4 + i.p
  if k < start ∨ start + i.padded ≤ k then k
  else
    let r := frameNumber i.serial % i.depth
    let offset := (k - start) % i.depth
    let logical := match i.order with
      | .sequential => (r + offset) % i.depth
      | .interleaved => r ^^^ offset
    k - offset + logical

/-- The word offered at index `k` of the data field (R135). -/
def Image.offered (i : Image) (k : Nat) : Option Word := i.words[i.offeredIndex k]?

/-! ### Receipt maps (R161) -/

/-- A slot entry: its code, then the ticket, then the check byte, as the entry has them (R161; log 13). -/
def Slot.bytes : Slot → List Byte
  | .empty => [0]
  | .claimed t => 1 :: ticket3 t
  | .answered t c => 2 :: ticket3 t ++ [c]

/-- A map in the QUERY RECEIPTS map form: the presence flag alone when it is absent (R161; log 13). -/
def ReceiptMap.bytes : Option ReceiptMap → List Byte
  | none => [0]
  | some m =>
    1 :: ser4 m.serial ++ zones1 m.members ++ num1 m.slotCount ++ slots2 m.usable ++
      ((List.range 16).map (fun j => (m.slot j).bytes)).flatten

end Sys2Proof.Machine
end

