-- ==== Sys2Proof/Machine/Inbound.lean ====
section
/-! DEFINITION. The inbound line: the receiver and the records it offers (R181, R182, R184), and the execution of a request
(R185). -/

namespace Sys2Proof.Machine

/-! ### The receiver (R181, R182) -/

/-- L, once both length bytes have been stored (R180, R182). -/
def assembledLength (bytes : List Byte) : Nat := if 3 ≤ bytes.length then get2 bytes 1 else 0

/-- The signature of an error taken in a state with the bytes stored so far (R182). -/
def signatureOf (cause : LinkCause) (taken : Receiver) (bytes : List Byte) (serial : Serial) : Signature :=
  { cause := cause, taken := taken, count := bytes.length, length := assembledLength bytes, kind := bytes.getD 3 0,
    tag := bytes.getD 4 0, serial := serial }

/-- Entry to LINK ERROR: the record is discarded, the signature replaced, the error counted, a LINK NOTICE raised (R182). -/
def State.enterLinkError (s : State) (cause : LinkCause) (taken : Receiver) (bytes : List Byte) : State :=
  let g := signatureOf cause taken bytes s.clk.serial
  let errors := satAdd Config.count16Max s.lnk.linkErrors 1
  let s := s.withLnk { s.lnk with receiver := .linkError, assembling := [], signature := some g, linkErrors := errors }
  s.notice 0x85 (g.bytes ++ num2 errors)

/-- The record of a complete frame (R180). -/
def recordOf (bytes : List Byte) : LinkRecord :=
  { kind := bytes.getD 3 0, tag := bytes.getD 4 0, payload := (bytes.drop 5).dropLast }

/-- A byte stored in RECEIVING, with the two tests that follow (R181). -/
def State.storeByte (s : State) (b : Byte) : State :=
  let bytes := s.lnk.assembling ++ [b]
  let length := assembledLength bytes
  if bytes.length = 3 ∧ (length < 2 ∨ 1024 < length) then s.enterLinkError .badLength .receiving bytes
  else if 3 ≤ bytes.length ∧ bytes.length = length + 4 then
    if byteSum (bytes.drop 1) = 0 then
      s.withLnk ({ s.lnk with receiver := .hunt, assembling := [] }.offer (recordOf bytes))
    else s.enterLinkError .badCheck .receiving bytes
  else s.withLnk { s.lnk with assembling := bytes }

/-- A byte taken by the receiver (R181). -/
def State.receive (s : State) (b : Byte) : State :=
  match s.lnk.receiver with
  | .hunt => if b = 0xA5 then s.withLnk { s.lnk with receiver := .receiving, assembling := [b] } else s
  | .receiving => s.storeByte b
  | .linkError => s

/-- The characters of a record come in on the line one by one, each as an INBOUND_BYTE (R180, R181; log 1). -/
def State.arrival (s : State) (r : LinkRecord) : State :=
  r.bytes.foldl (fun s b => (s.receive b).lineChoice) s

/-! ### Requests (R185, R186) -/

/-- The record can be taken for execution: it is the head request, and the reply queue has a free entry (R185). -/
def Link.takes (l : Link) (r : LinkRecord) : Bool :=
  decide (l.requests.head? = some r) && decide (l.replies.length < Config.replyPlaces)

/-- Take the head request for execution, have its owning block serve it, and place the reply (R185, R186). -/
def serveHead (r : LinkRecord) (serve : List Byte → State → State × Answer) (s : State) : State :=
  let out := serve r.payload (s.withLnk { s.lnk with requests := s.lnk.requests.drop 1 })
  out.1.withLnk (out.1.lnk.place (out.2.reply r.kind r.tag))

/-- The record of a request command at the link: one that can be taken for execution is there already; any other comes in on
the line, and what the receiver makes of it is R181's (log 1). -/
def reachLink (r : LinkRecord) (s : State) : State := if s.lnk.takes r then s else s.arrival r

/-- A request command (R184, R185; log 1): its record is executed if it can be taken, at once or when its characters have come
in. One that cannot be taken waits in the queue, or was refused or discarded as it came in. -/
def request (kind tag : Byte) (payload : List Byte) (serve : List Byte → State → State × Answer) (s : State) :
    Host.Outcome State Fault Refusal :=
  let r : LinkRecord := { kind := kind, tag := tag, payload := payload }
  let s := reachLink r s
  if s.lnk.takes r then event (serveHead r serve s) else event s

end Sys2Proof.Machine
end

