-- ==== Sys2Proof/Machine/Settlement.lean ====
section
/-! DEFINITION. Settlement of an ended delivery (chapter 9), the filing of deliveries with the deadline test (R75), and the
revert of a placement (R79). -/

namespace Sys2Proof.Machine

/-- The charge of an ended delivery with its flags: the trim, tariff class and entry as they stand now (R40, R42, R164 step 1). -/
def State.chargeOf (s : State) (d : Delivery) (e : Ending) (span : Nat) : Nat × ChargeFlags :=
  (s.tariff (s.acct d.account).tariff).charge e d.words span d.priority (s.sub d.subscriber).trim d.hold

/-- The charge span: for DELIVERED and SENT the number of groups carried, at most the hold span; else 0 (R40, R85, R166). -/
def Delivery.chargeSpan (d : Delivery) (e : Ending) : Nat :=
  match e with
  | .delivered | .sent => min (memberCount 4 ((d.last.map (·.carried)).getD 0)) d.holdSpan
  | .expired | .cancelled => 0

/-- The usage record of an ending (R164 to R166). -/
def State.usageOf (s : State) (n : Nat) (d : Delivery) (e : Ending) (r : Reason) : UsageRecord :=
  let span := d.chargeSpan e
  let charge := s.chargeOf d e span
  { sequence := s.jnl.sequence, ticket := s.ticket n, subscriber := d.subscriber, account := d.account, kind := d.kind,
    ending := e, reason := r, charge := charge.1, hold := d.hold, chargeSpan := span, holdSpan := d.holdSpan,
    words := d.words, priority := d.priority, attemptsMade := d.attemptsMade, deferrals := d.deferrals,
    intake := d.intake, endSerial := s.clk.serial, flags := charge.2, replyCode := d.replyCode,
    heardGroup := d.heardGroup }

/-- Append a usage record: the reservation count falls, the occupancy and the sequence number rise (R169). -/
def Journal.append (j : Journal) (u : UsageRecord) : Journal :=
  { j with records := j.records ++ [u], reservation := j.reservation - 1, sequence := j.sequence + 1 }

/-- The fields of a JOURNAL NOTICE: occupancy, reservation count, watermark, sequence number of the record (R171). -/
def Journal.noticeFields (j : Journal) (u : UsageRecord) : List Byte :=
  num2 j.records.length ++ num2 j.reservation ++ num2 j.watermark ++ ser4 u.sequence

/-- Step 3 of settlement: append the record, and raise a JOURNAL NOTICE when the occupancy reaches the watermark (R171). -/
def State.appendUsage (s : State) (u : UsageRecord) : State :=
  let j := s.jnl.append u
  let s := s.withJnl j
  if j.records.length = j.watermark then s.notice 0x84 (j.noticeFields u) else s

/-- Settlement calls for a DELIVERY NOTICE (R167). -/
def noticeDue (m : NoticeMode) (e : Ending) : Bool :=
  m = .final || m = .everyAttempt || e = .expired

/-- Step 4 of settlement (R167). -/
def State.deliveryNotice (s : State) (m : NoticeMode) (u : UsageRecord) : State :=
  if noticeDue m u.ending then s.notice 0x81 (deliveryNoticeFields u) else s

/-- The seven steps of settlement, in their order (R164). -/
def State.settle (s : State) (n : Nat) (d : Delivery) (e : Ending) (r : Reason) : State :=
  let u := s.usageOf n d e r
  let s := s.setAcct d.account ((s.acct d.account).settle u.charge d.hold)
  let s := s.appendUsage u
  let s := s.deliveryNotice d.noticeMode u
  let s := s.lowerLive d.subscriber
  let s := s.releaseBody d.body
  s.freeRecord n

/-- A delivery ends: it leaves its calendar list if it stands in one, and is settled in the same step (R72, R85). `d` is its
record as the ending event leaves it. -/
def State.endDelivery (s : State) (n : Nat) (d : Delivery) (e : Ending) (r : Reason) : State :=
  (s.unfile n).settle n d e r

/-- Re-file a delivery at a new due serial, with the deadline test: beyond the deadline it ends EXPIRED LIFETIME instead (R75).
`d` is its record as the event leaves it, in state QUEUED or RETRY WAIT. -/
def State.refile (s : State) (n : Nat) (d : Delivery) (due : Serial) : State :=
  if beyond due d.deadline then s.endDelivery n d .expired .lifetime
  else (s.unfile n).file n { d with due := due }

/-- The next eligible serial for the subscriber of a delivery, at or after `x` (R7, R75). -/
def State.nextFor (s : State) (d : Delivery) (x : Serial) : Serial := (s.sub d.subscriber).nextEligible x

/-- The record of a delivery whose placement is undone (R79). -/
def Delivery.reverted (d : Delivery) : Delivery :=
  match d.kind with
  | .oneWay => { d with last := none, state := .queued }
  | .twoWay =>
    let made := d.attemptsMade - 1
    { d with last := none, attemptsMade := made, state := if made = 0 then .queued else .retryWait }

/-- Revert a placed delivery: its slots are freed, its placement is undone, and it is filed at the earliest unbuilt serial's
next eligible one (R79). -/
def State.revert (s : State) (n : Nat) (d : Delivery) : State :=
  let s := match d.last with
    | some a => writeSlots a.serial .empty s a.slots
    | none => s
  s.refile n d.reverted (s.nextFor d s.clk.earliestUnbuilt)

end Sys2Proof.Machine
end

