-- ==== Sys2Proof/Machine/ZoneOps.lean ====
section
/-! DEFINITION. What the zone controller does at site events and at clock events (chapter 6). -/

namespace Sys2Proof.Machine

/-! ### Service, flags and notices -/

/-- The zone is in service now (R103). -/
def Zone.inService (z : Zone) : Bool :=
  z.settings.enabled && z.settings.group.isSome && !z.faulted && z.alarm = .inactive

def Zone.status (z : Zone) : ServiceStatus := if z.inService then .inService else .outOfService

/-- The fields of a ZONE NOTICE: number, flags added, whole set, alarm state, in service now, frame serial (R115). -/
def zoneNoticeFields (n : Nat) (added : BitVec 3) (z : Zone) (serial : Serial) : List Byte :=
  num1 n ++ flags1 added ++ flags1 z.flags ++ num1 z.alarm.code ++ flag1 z.inService ++ ser4 serial

/-- Write a zone as an event leaves it but for its change flags, add the event's flags, and raise a ZONE NOTICE when a flag is
new and the in-force notice enable is yes (R115). -/
def State.flagZone (s : State) (n : Nat) (z : Zone) (event : BitVec 3) : State :=
  let added := addedFlags z.flags event
  let z := { z with flags := z.flags ||| event }
  let s := s.setZone n z
  if added ≠ 0 ∧ z.settings.noticeEnable = true then s.notice 0x83 (zoneNoticeFields n added z s.clk.serial) else s

/-! ### Site alarms (R106, R107) -/

/-- The alarm state that an input level gives under a polarity (R106). -/
def alarmOf (p : Polarity) (input : Bool) : Alarm :=
  match p, input with
  | .normal, true => .active
  | .normal, false => .inactive
  | .inverted, true => .inactive
  | .inverted, false => .active

/-- The alarm notice edge setting matches an edge to the given alarm state (R106). -/
def NoticeEdge.hits : NoticeEdge → Alarm → Bool
  | .none, _ => false
  | .rising, a => a = .active
  | .falling, a => a = .inactive
  | .both, _ => true

/-- The key line is released and no word is offered (R107, R114). -/
def Zone.unkey (z : Zone) : Zone := { z with keyed := false, port := none }

/-- The zone's alarm takes a new state: a keyed zone whose alarm becomes ACTIVE is unkeyed at once (R107). -/
def Zone.takeAlarm (z : Zone) (a : Alarm) : Zone :=
  let z := { z with alarm := a }
  match a with
  | .active => z.unkey
  | .inactive => z

/-- Zone `n`, given as the event leaves it but for its alarm, has its alarm state computed from its input: a change is an
alarm edge (R106, R107, R115). -/
def State.followAlarm (s : State) (n : Nat) (z : Zone) : State :=
  let a := alarmOf z.settings.polarity z.input
  if a = z.alarm then s.setZone n z
  else s.flagZone n (z.takeAlarm a) (if z.settings.edge.hits a then alarmChange else 0)

/-! ### The build point: settings, service test, plans (R105, R109 to R111) -/

/-- Take the pending settings of a zone into force (R105). A change of polarity computes the alarm state anew. -/
def State.takeZoneSettings (s : State) (n : Nat) : State :=
  let z := s.zone n
  if z.pendingFlag then
    let taken := { z with settings := z.pending, pendingFlag := false,
                          faulted := if z.pending.enabled then false else z.faulted }
    if z.pending.polarity = z.settings.polarity then s.setZone n taken else s.followAlarm n taken
  else s

/-- Take the pending settings of a group into force (R109). -/
def State.takeGroupSettings (s : State) (g : Nat) : State :=
  let r := s.group g
  if r.pendingFlag then s.setGroup g { r with settings := r.pending, pendingFlag := false } else s

/-- Test a zone for service and record a change (R110). -/
def State.testService (s : State) (n : Nat) : State :=
  let z := s.zone n
  if z.status = z.recorded then s else s.flagZone n { z with recorded := z.status } serviceChange

/-- The member set of a group: the zones in service whose in-force group it is (R110). -/
def State.memberSet (s : State) (g : Nat) : ZoneSet :=
  zonesWhere (fun n => (s.zone n).inService && (s.zone n).settings.group = some g)

/-- The largest in-force settle among the members (R111). -/
def State.largestSettle (s : State) (set : ZoneSet) : Nat :=
  ((members 8 set).map (fun n => (s.zone n).settings.settle)).foldl max 0

/-- The next plan of a group for a serial (R111). -/
def State.planFor (s : State) (g : Nat) (serial : Serial) : Plan :=
  let set := s.memberSet g
  let settings := (s.group g).settings
  let settle := (s.largestSettle set + 4) / 5
  { serial := serial, members := set, settle := settle, guard := settings.guard, slotCount := settings.slotCount,
    depth := settings.depth, order := settings.order, mask := settings.mask,
    capacity := 500 - settle - 4 - settings.guard - 8 * settings.slotCount }

/-- Make the next plan of a group, replacing any held (R111). -/
def State.makePlan (s : State) (g : Nat) : State :=
  s.setGroup g { s.group g with next := some (s.planFor g (s.clk.serial + 1)) }

/-- All that the zone controller does at a build point, in its order (R105, R109, R110, R111). -/
def State.zoneBuildPoint (s : State) : State :=
  let s := zoneNumbers.foldl State.takeZoneSettings s
  let s := groupNumbers.foldl State.takeGroupSettings s
  let s := zoneNumbers.foldl State.testService s
  groupNumbers.foldl State.makePlan s

/-! ### The boundary: plans and keying (R112, R113) -/

/-- The next plan of a group becomes its current plan (R112). -/
def State.startPlan (s : State) (g : Nat) : State :=
  s.setGroup g { s.group g with current := (s.group g).next, next := none }

/-- Both plans of a group become absent (R112, STOP CLOCK). -/
def State.dropPlans (s : State) (g : Nat) : State :=
  s.setGroup g { s.group g with current := none, next := none }

/-- The member set of a group's current plan; empty when there is none. -/
def State.currentMembers (s : State) (g : Nat) : ZoneSet := ((s.group g).current.map (·.members)).getD 0

/-- The group whose current plan lists the zone (R118, R141). -/
def State.planGroup (s : State) (n : Nat) : Option Nat :=
  groupNumbers.find? (fun g => (s.currentMembers g).getLsbD n)

/-- The zone is to be keyed for the frame that starts: it is in service, and a group with an image for the frame lists it
(R113). -/
def State.toKey (s : State) (n : Nat) : Bool :=
  (s.zone n).inService && groupNumbers.any (fun g => (s.images g).next.isSome && (s.currentMembers g).getLsbD n)

/-- Key a zone for the frame that starts, or leave it unkeyed (R113; log 9). -/
def State.keyZone (s : State) (n : Nat) : State :=
  let z := s.zone n
  if s.toKey n then
    s.setZone n { z with keyed := true, wordsTaken := 0, wordsSerial := s.clk.serial, offered := 0, port := none }
  else s.setZone n z.unkey

/-- The group has an image for the frame that starts and a keyed zone to send it (R113, R133). -/
def State.launches (s : State) (g : Nat) : Bool :=
  (s.images g).next.isSome && zoneNumbers.any (fun n => (s.currentMembers g).getLsbD n && (s.zone n).inService)

/-! ### The data field (R113, R114, R135) -/

/-- The word-time at which a plan's data field ends (R114). -/
def Plan.dataEnd (p : Plan) : Nat := p.settle + 4 + p.capacity

/-- The current plan that lists a zone. -/
def State.zonePlan (s : State) (n : Nat) : Option Plan :=
  match s.planGroup n with
  | some g => (s.group g).current
  | none => none

/-! ### The moments of a frame (R92, R114; log 3) -/

/-- The frame position at which the data field of a keyed zone ends (R92, R114). -/
def State.fieldEnd (s : State) (n : Nat) : Option Nat :=
  if (s.zone n).keyed then (s.zonePlan n).map (fun p => Config.wordTicks * p.dataEnd) else none

/-- The last position of the frame: the next tick reaches the frame length (R92, R93). -/
def Clock.lastPosition (c : Clock) : Nat := c.frameLength - 1

/-- The frame position of the earliest event of the frame that has not been taken: the build point, the end of the data field
of a keyed zone, and last the boundary (R92, R94, R114). -/
def State.nextMoment (s : State) : Nat :=
  (zoneNumbers.filterMap s.fieldEnd).foldl min
    (if s.clk.buildPassed then s.clk.lastPosition else Config.buildPosition)

/-- The clock of the state at the moment that lies at a position of the frame in progress: the ticks up to it have passed, and
no event was due before it. `none` where the clock is STOPPED, the position has passed, or an event falls due before it (R92;
log 3). -/
def State.atMoment (s : State) (position : Nat) : Option State :=
  if s.clk.state = .running ∧ s.clk.position ≤ position ∧ position ≤ s.nextMoment then
    some (s.withClk { s.clk with position := position })
  else none

/-! ### Judging and offering -/

/-- Unkey a zone and judge it on its words taken (R114). -/
def State.judge (s : State) (n : Nat) (p : Plan) : State :=
  let z := (s.zone n).unkey
  if z.wordsTaken = 4 + p.capacity then s.setZone n z
  else
    s.flagZone n { z with alignFaults := satAdd Config.count16Max z.alignFaults 1,
                          faulted := if z.settings.autoRemove then true else z.faulted } alignFault

/-- A zone at the start of a word-time: judged if it is still keyed and its plan's data field ends there (R114). -/
def judgeAt (wordTime : Nat) (s : State) (n : Nat) : State :=
  match s.zonePlan n with
  | some p => if (s.zone n).keyed = true ∧ p.dataEnd = wordTime then s.judge n p else s
  | none => s

/-- A zone at the start of a data word-time: a keyed zone's port offers the next word of its group's current image (R135). -/
def offerAt (wordTime : Nat) (s : State) (n : Nat) : State :=
  match s.planGroup n with
  | none => s
  | some g =>
    match (s.group g).current, (s.images g).current with
    | some p, some i =>
      if (s.zone n).keyed = true ∧ p.settle ≤ wordTime ∧ wordTime < p.dataEnd then
        s.setZone n { s.zone n with offered := wordTime - p.settle + 1, port := i.offered (wordTime - p.settle) }
      else s
    | _, _ => s

end Sys2Proof.Machine
end

