-- ==== Sys2Proof/Machine/Build.lean ====
section
/-! DEFINITION. The build of a frame (R125 to R131): images and maps are opened, one calendar list is walked, and each image
is laid out. -/

namespace Sys2Proof.Machine

/-! ### Opening (R125, R144) -/

/-- An image as it is opened on a plan (R121, R125). -/
def Plan.image (p : Plan) (g : Nat) : Image :=
  { serial := p.serial, group := g, settle := p.settle, capacity := p.capacity, guard := p.guard,
    slotCount := p.slotCount, depth := p.depth, order := p.order, usable := usableSlots p.slotCount p.mask,
    pages := [], words := [] }

/-- A receipt map as it is opened on a plan (R143, R144). -/
def Plan.receiptMap (p : Plan) (g : Nat) : ReceiptMap :=
  { serial := p.serial, group := g, members := p.members, slotCount := p.slotCount,
    usable := usableSlots p.slotCount p.mask, slots := [] }

/-- Open the next image and the BUILDING map of a group whose plan has a member (R125). -/
def State.openGroup (s : State) (g : Nat) : State :=
  match (s.group g).next with
  | none => s
  | some p =>
    if p.members = 0 then s
    else
      let s := s.setImages g { s.images g with next := some (p.image g), built := (s.images g).built + 1 }
      s.setMaps g { s.maps g with building := some (p.receiptMap g) }

/-- The groups that have an image open in this build. -/
def State.openGroups (s : State) : GroupSet := groupsWhere (fun g => (s.images g).next.isSome)

/-! ### Targets and tests (R126 to R128, R155) -/

/-- The target set of attempt `k` of a TWO-WAY delivery, freshness tested at `x` (R155). -/
def attemptTargets (u : Subscriber) (x : Serial) (k : Nat) : GroupSet :=
  if k ≤ 1 then
    match u.fresh x with
    | some g => BitVec.twoPow 4 g
    | none => u.home
  else if k = 2 then
    match u.fresh x with
    | some g => u.home ||| BitVec.twoPow 4 g
    | none => u.home
  else u.coverage

/-- The target set of a visit (R126). -/
def targets (u : Subscriber) (d : Delivery) (x : Serial) : GroupSet :=
  match d.kind with
  | .oneWay => u.home
  | .twoWay => attemptTargets u x (d.attemptsMade + 1)

/-- The candidate set: the target set less the groups with no image open (R126). -/
def State.candidates (s : State) (d : Delivery) (x : Serial) : GroupSet :=
  targets (s.sub d.subscriber) d x &&& s.openGroups

/-- An entry of W words has room in an open image (R127). -/
def Image.hasRoom (i : Image) (words : Nat) : Bool :=
  i.p + 1 + paddedTo i.depth (i.m + words - 1) ≤ i.capacity

/-- The lowest usable slot of a map that names no delivery (R128). -/
def ReceiptMap.freeSlot (m : ReceiptMap) : Option Nat :=
  (List.range 16).find? (fun j => m.usable.getLsbD j && m.slot j = .empty)

/-- The slot that a group's BUILDING map has for a TWO-WAY entry (R128). -/
def State.slotFor (s : State) (g : Nat) : Option Nat :=
  match (s.maps g).building with
  | some m => m.freeSlot
  | none => none

/-- A group passes the room test and, for a TWO-WAY entry, the slot test (R127 to R129). -/
def State.groupPasses (s : State) (d : Delivery) (g : Nat) : Bool :=
  (match (s.images g).next with | some i => i.hasRoom d.words | none => false) &&
    (d.kind = .oneWay || (s.slotFor g).isSome)

/-- The slots a placement claims: for a TWO-WAY entry the pair of each candidate group and its slot (R78, R129). -/
def State.slotsFor (s : State) (d : Delivery) (cand : GroupSet) : List (Nat × Nat) :=
  match d.kind with
  | .oneWay => []
  | .twoWay => (members 4 cand).filterMap (fun g => (s.slotFor g).map (fun j => (g, j)))

/-! ### Placement and deferral (R77, R78, R129) -/

/-- The slot of a group in a list of claimed slots. -/
def slotIn (slots : List (Nat × Nat)) (g : Nat) : Option Nat :=
  (slots.find? (fun p => p.1 = g)).map (·.2)

/-- The page list entry of a delivery in a group (R121, R130). -/
def State.entryFor (s : State) (n : Nat) (d : Delivery) (slots : List (Nat × Nat)) (g : Nat) : PageEntry :=
  { ticket := s.ticket n, address := (s.sub d.subscriber).address, encoding := d.encoding, bodyWords := d.words - 2,
    mark := d.nextMark, slot := slotIn slots g }

/-- Append a delivery's entry to the page list of a group's next image (R129). -/
def addPage (n : Nat) (d : Delivery) (slots : List (Nat × Nat)) (s : State) (g : Nat) : State :=
  match (s.images g).next with
  | some i =>
    s.setImages g { s.images g with next := some { i with pages := i.pages ++ [s.entryFor n d slots g] } }
  | none => s

/-- The record of a delivery as a placement leaves it (R78). -/
def Delivery.placed (d : Delivery) (x : Serial) (cand : GroupSet) (slots : List (Nat × Nat)) : Delivery :=
  { d with state := .placed,
           last := some { serial := x, carried := cand, slots := slots, mark := d.nextMark, checkedIn := false },
           attemptsMade := match d.kind with | .oneWay => d.attemptsMade | .twoWay => d.attemptsMade + 1 }

/-- Place an entry in every group of its candidate set (R78, R129). -/
def State.place (s : State) (n : Nat) (d : Delivery) (x : Serial) (cand : GroupSet) : State :=
  let slots := s.slotsFor d cand
  let s := (members 4 cand).foldl (addPage n d slots) s
  let s := writeSlots x (.claimed (s.ticket n)) s slots
  (s.unfile n).setLive n (d.placed x cand slots)

/-- Defer an entry (R77). -/
def State.defer (s : State) (n : Nat) (d : Delivery) (x : Serial) : State :=
  s.refile n { d with deferrals := satAdd 255 d.deferrals 1 } (s.nextFor d (x + 1))

/-- The placement or deferral of an entry that passed the deadline and eligibility tests (R76 step 3, R126, R129). -/
def State.tryPlace (s : State) (n : Nat) (d : Delivery) (x : Serial) : State :=
  let cand := s.candidates d x
  if cand ≠ 0 ∧ (members 4 cand).all (s.groupPasses d) = true then s.place n d x cand else s.defer n d x

/-! ### The walk (R76) -/

/-- The visit of the walk for serial `x` to one entry (R75, R76). -/
def visit (x : Serial) (s : State) (n : Nat) : State :=
  match s.live n with
  | none => s
  | some d =>
    if beyond d.due x then s
    else if beyond x d.deadline then s.endDelivery n d .expired .lifetime
    else if (s.sub d.subscriber).eligible x then s.tryPlace n d x
    else s.refile n d (s.nextFor d (x + 1))

/-- Lay out the next image of a group (R131). -/
def State.completeGroup (s : State) (g : Nat) : State :=
  match (s.images g).next with
  | some i => s.setImages g { s.images g with next := some { i with words := i.layout s.entryWords } }
  | none => s

/-- The build for serial `x`, whole (R125). The walk takes the entries that stand in the list when it begins (R76). -/
def State.build (s : State) (x : Serial) : State :=
  let s := groupNumbers.foldl State.openGroup s
  let s := (s.calList (frameNumber x)).foldl (visit x) s
  groupNumbers.foldl State.completeGroup s

/-- The build point event (R94): the zone controller makes its plans, and with the air ON the frame builder builds the next
frame (R110, R111, R125). -/
def State.buildPointEvent (s : State) : State :=
  let s := s.zoneBuildPoint
  if s.bld.air = .on then s.build (s.clk.serial + 1) else s

end Sys2Proof.Machine
end

