-- ==== Sys2Proof/Machine/Boundary.lean ====
section
/-! DEFINITION. What one boundary does to the traffic blocks: keying, launch and drop, the end of the frame before, miss
resolution, and the move of the receipt maps (R80 to R82, R112, R113, R133, R134, R145, R151 to R154). -/

namespace Sys2Proof.Machine

/-! ### Images (R122, R133, R134) -/

/-- A group's images at a boundary: the current image is discarded, and the next image is launched or dropped (R133, R134). -/
def GroupImages.handOver (r : GroupImages) (launch : Bool) : GroupImages :=
  match r.next with
  | none => { r with current := none }
  | some i =>
    if launch then
      { r with next := none, current := some i, launched := r.launched + 1,
               pagesLaunched := r.pagesLaunched + BitVec.ofNat 32 i.p }
    else { r with next := none, current := none, dropped := r.dropped + 1 }

def handOverGroup (kept : GroupSet) (s : State) (g : Nat) : State :=
  s.setImages g ((s.images g).handOver (kept.getLsbD g))

/-- The air state at a boundary: STOPPING becomes HALTED (R122). -/
def AirState.atBoundary : AirState → AirState
  | .stopping => .halted
  | .halted => .halted
  | .on => .on

/-! ### Deliveries launched (R80, R133) -/

/-- The delivery stands in the page list of some group's next image. -/
def State.inNextImage (s : State) (n : Nat) : Bool :=
  groupNumbers.any (fun g =>
    match (s.images g).next with
    | some i => i.pages.any (fun e => e.ticket.number = n)
    | none => false)

/-- The placed deliveries of the next images, ascending. -/
def State.placedNumbers (s : State) : List Nat :=
  (s.liveWhere (fun d => d.state = .placed)).filter s.inNextImage

/-- The record of a delivery that goes on air in the groups kept: the groups dropped leave its carried set and its slots
(R80). -/
def Delivery.launched (d : Delivery) (kept : GroupSet) : Delivery :=
  { d with state := .onAir,
           last := d.last.map (fun a =>
             { a with carried := a.carried &&& kept, slots := a.slots.filter (fun p => kept.getLsbD p.1) }) }

/-- The outcome of the launch for one placed delivery: on air, or reverted when all its carried groups are dropped (R80,
R133). -/
def launchOne (kept : GroupSet) (s : State) (n : Nat) : State :=
  match s.live n with
  | none => s
  | some d =>
    if d.state = .placed then
      if (d.last.map (·.carried)).getD 0 &&& kept = 0 then s.revert n d else s.setLive n (d.launched kept)
    else s

/-! ### The end of the frame before (R81, R154) -/

/-- A delivery whose frame has ended: TWO-WAY becomes AWAIT RECEIPT; ONE-WAY loses a repeat, and ends SENT or is filed at the
next eligible serial at or after the serial ended + 2 (R81). -/
def endFrameOne (s : State) (n : Nat) : State :=
  match s.live n with
  | none => s
  | some d =>
    if d.state = .onAir then
      match d.kind with
      | .twoWay => s.setLive n { d with state := .awaitReceipt }
      | .oneWay =>
        let left := d.repeatsLeft - 1
        let d := { d with repeatsLeft := left }
        if left = 0 then s.endDelivery n d .sent .none
        else s.refile n { d with state := .queued, nextMark := .again } (s.nextFor d (s.clk.serial + 1))
    else s

/-! ### Miss resolution (R82, R151 to R153) -/

/-- The backoff of R152, in frames. -/
def backoff (base made : Nat) : Nat := min (base * 2 ^ (made - 1)) Config.backoffMax

/-- The serial from which a retry is filed: m + 2 + backoff, or m + 3 after a check-in (R152). -/
def State.retryFrom (s : State) (d : Delivery) (a : Attempt) : Serial :=
  if a.checkedIn then a.serial + 3
  else a.serial + 2 + BitVec.ofNat 32 (backoff (s.profile d.priority).base d.attemptsMade)

/-- The delivery is named by a CLAIMED slot of some group's PREVIOUS map. -/
def State.missed (s : State) (n : Nat) : Bool :=
  groupNumbers.any (fun g =>
    match (s.maps g).previous with
    | some m => (List.range 16).any (fun j => m.slot j = .claimed (s.ticket n))
    | none => false)

/-- The deliveries that the PREVIOUS maps show missed, ascending (R151). -/
def State.missedNumbers (s : State) : List Nat :=
  (s.liveWhere (fun d => d.state = .awaitReceipt)).filter s.missed

def State.countMiss (s : State) : State :=
  s.setCounters { s.rcp.counters with misses := s.rcp.counters.misses + 1 }

def State.countExpired (s : State) : State :=
  s.setCounters { s.rcp.counters with expired := s.rcp.counters.expired + 1 }

/-- The record of a delivery that missed and stays live, before it is filed (R82). -/
def Delivery.afterMiss (d : Delivery) (a : Attempt) : Delivery :=
  { d with attemptsLeft := d.attemptsLeft - 1, state := .retryWait,
           nextMark := if a.checkedIn then .retryAfterCheckIn else .retry }

/-- Resolve one missed delivery (R82, R151): it loses an attempt; at 0 it ends EXPIRED ATTEMPTS; otherwise it is filed at the
retry serial, or ends EXPIRED LIFETIME, and an ATTEMPT NOTICE goes out when it stays live in mode EVERY ATTEMPT (R153). -/
def resolveOne (s : State) (n : Nat) : State :=
  match s.live n with
  | none => s
  | some d =>
    match d.state, d.last with
    | .awaitReceipt, some a =>
      let s := s.countMiss
      if d.attemptsLeft ≤ 1 then (s.endDelivery n { d with attemptsLeft := 0 } .expired .attempts).countExpired
      else
        let after := d.afterMiss a
        let due := s.nextFor d (s.retryFrom d a)
        if beyond due d.deadline then (s.refile n after due).countExpired
        else
          let s := s.refile n after due
          if d.noticeMode = .everyAttempt then
            s.notice 0x82 (attemptNoticeFields (s.ticket n) { after with due := due } a)
          else s
    | _, _ => s

/-! ### The maps move on one role (R145) -/

/-- The maps of a group at a boundary: PREVIOUS becomes absent, CURRENT becomes PREVIOUS, and a BUILDING map whose image is
launched becomes CURRENT (R145). -/
def GroupMaps.moveOn (r : GroupMaps) (launch : Bool) : GroupMaps :=
  { building := none, current := if launch then r.building else none, previous := r.current }

def moveMaps (kept : GroupSet) (s : State) (g : Nat) : State :=
  s.setMaps g ((s.maps g).moveOn (kept.getLsbD g))

/-! ### The boundary (R93, R170) -/

/-- The groups of endings of one boundary (R170). -/
inductive EndingGroup where
  | ended | missed | dropped
deriving DecidableEq, Repr

/-- The order that the command gives them (R170; log 4). -/
def endingGroups : EndingOrder → List EndingGroup
  | .endedMissedDropped => [.ended, .missed, .dropped]
  | .endedDroppedMissed => [.ended, .dropped, .missed]
  | .missedEndedDropped => [.missed, .ended, .dropped]
  | .missedDroppedEnded => [.missed, .dropped, .ended]
  | .droppedEndedMissed => [.dropped, .ended, .missed]
  | .droppedMissedEnded => [.dropped, .missed, .ended]

/-- What a boundary does, read from the state as it finds it: the groups launched and the deliveries of the three groups, each
ascending (R170). -/
structure BoundaryWork where
  kept : GroupSet
  onAir : List Nat
  missed : List Nat
  placed : List Nat
deriving DecidableEq, Repr

/-- The work of a boundary, the plans having moved on. -/
def State.boundaryWork (s : State) : BoundaryWork :=
  { kept := groupsWhere s.launches,
    onAir := s.liveWhere (fun d => d.state = .onAir),
    missed := s.missedNumbers,
    placed := s.placedNumbers }

/-- One group of endings, with the deliveries of the same kind that stay live. -/
def endingStep (w : BoundaryWork) (s : State) : EndingGroup → State
  | .ended => w.onAir.foldl endFrameOne s
  | .missed => w.missed.foldl resolveOne s
  | .dropped => w.placed.foldl (launchOne w.kept) s

/-- The boundary event, the clock having begun the new frame (R93, R97): plans, keying, images, deliveries, maps. -/
def State.boundaryEvent (s : State) (order : EndingOrder) : State :=
  let s := groupNumbers.foldl State.startPlan s
  let w := s.boundaryWork
  let s := zoneNumbers.foldl State.keyZone s
  let s := groupNumbers.foldl (handOverGroup w.kept) s
  let s := s.withBld { s.bld with air := s.bld.air.atBoundary }
  let s := (endingGroups order).foldl (endingStep w) s
  groupNumbers.foldl (moveMaps w.kept) s

/-- The clock at a boundary of a running clock (R93). -/
def Clock.nextFrame (c : Clock) : Clock :=
  { c with serial := c.serial + 1, trim := c.pendingTrim, position := 0, buildPassed := false }

end Sys2Proof.Machine
end

