-- ==== Sys2Proof/Machine/Receive.lean ====
section
/-! DEFINITION. Return records taken from the queues: receipts matched against the held maps and check-ins applied (R146 to
R149, R157, R158). -/

namespace Sys2Proof.Machine

/-! ### Receipts -/

/-- The held maps of a group: CURRENT and PREVIOUS (R143). -/
def GroupMaps.held (r : GroupMaps) : List ReceiptMap := r.current.toList ++ r.previous.toList

/-- The held map that a receipt from a zone for a frame number is looked up in (R146). -/
def State.heldMap (s : State) (zone frame : Nat) : Option ReceiptMap :=
  (groupNumbers.flatMap (fun g => (s.maps g).held)).find?
    (fun m => frameNumber m.serial = frame && m.members.getLsbD zone)

/-- The judgement of a receipt (R146 to R149). -/
inductive Judgement where
  | stray
  | mismatch
  | duplicate
  | delivered (map : ReceiptMap) (number : Nat) (delivery : Delivery)
deriving DecidableEq, Repr

/-- Judge a receipt from a zone (R146 to R149). A CLAIMED slot whose ticket names no live delivery cannot occur (R143); it is
judged STRAY (log 21). -/
def State.judgeReceipt (s : State) (zone frame slot : Nat) (check : Byte) : Judgement :=
  match s.heldMap zone frame with
  | none => .stray
  | some m =>
    if m.usable.getLsbD slot then
      match m.slot slot with
      | .empty => .stray
      | .answered _ kept => if check = kept then .duplicate else .mismatch
      | .claimed t =>
        match s.named t with
        | none => .stray
        | some d =>
          if check = (s.sub d.subscriber).address.setWidth 8 then .delivered m t.number d else .mismatch
    else .stray

def State.countStray (s : State) (zone : Nat) : State :=
  let s := s.setZone zone { s.zone zone with
    strayReceipts := satAdd Config.count16Max (s.zone zone).strayReceipts 1 }
  s.setCounters { s.rcp.counters with stray := s.rcp.counters.stray + 1 }

def State.countMismatch (s : State) : State :=
  s.setCounters { s.rcp.counters with mismatch := s.rcp.counters.mismatch + 1 }

def State.countDuplicate (s : State) : State :=
  s.setCounters { s.rcp.counters with duplicate := s.rcp.counters.duplicate + 1 }

def State.countDelivered (s : State) (zone : Nat) : State :=
  let s := s.setZone zone { s.zone zone with
    receiptsHeard := satAdd Config.count16Max (s.zone zone).receiptsHeard 1 }
  s.setCounters { s.rcp.counters with delivered := s.rcp.counters.delivered + 1 }

/-- The directory's part of a matched receipt: last heard, and the receipts heard counter (R15, R17, R148). -/
def Subscriber.answered (u : Subscriber) (group : Nat) (serial : Serial) : Subscriber :=
  let u := u.report group serial
  { u with receipts := satAdd Config.count16Max u.receipts 1 }

/-- The record of a delivery with its matched receipt recorded (R83). -/
def Delivery.answered (d : Delivery) (group reply : Nat) : Delivery :=
  { d with heardGroup := some group, replyCode := if reply = 0 then none else some reply }

/-- A matched receipt, in the steps of R148. -/
def State.deliver (s : State) (zone : Nat) (m : ReceiptMap) (n : Nat) (d : Delivery) (reply : Nat) (check : Byte) : State :=
  let s := match d.last with
    | some a => writeSlots a.serial (.answered (s.ticket n) check) s a.slots
    | none => s
  let s := s.setSub d.subscriber ((s.sub d.subscriber).answered m.group m.serial)
  let s := s.countDelivered zone
  s.endDelivery n (d.answered m.group reply) .delivered .none

/-- A RECEIPT taken from a zone's queue (R146 to R149). -/
def State.takeReceipt (s : State) (zone frame slot reply : Nat) (check : Byte) : State :=
  match s.judgeReceipt zone frame slot check with
  | .stray => s.countStray zone
  | .mismatch => s.countMismatch
  | .duplicate => s.countDuplicate
  | .delivered m n d => s.deliver zone m n d reply check

/-! ### Check-ins -/

def State.countUnknown (s : State) : State :=
  s.setCounters { s.rcp.counters with unknown := s.rcp.counters.unknown + 1 }

def State.countKnown (s : State) : State :=
  s.setCounters { s.rcp.counters with known := s.rcp.counters.known + 1 }

/-- A check-in reaches one delivery of its subscriber (R83, R158). The rules disagree on a ONE-WAY delivery ON AIR: R83 and R158
set checked-in-since on each ON AIR delivery, and R154 leaves ONE-WAY deliveries as they are. The model follows R154, the rule
made for ONE-WAY deliveries: DESIGN CHOICE (log 27). -/
def checkInOne (subscriber : Nat) (s : State) (n : Nat) : State :=
  match s.live n with
  | none => s
  | some d =>
    if d.subscriber = subscriber ∧ d.kind = .twoWay then
      match d.state with
      | .retryWait => s.refile n { d with nextMark := .retryAfterCheckIn } (s.nextFor d s.clk.earliestUnbuilt)
      | .onAir | .awaitReceipt =>
        s.setLive n { d with last := d.last.map (fun a => { a with checkedIn := true }) }
      | .queued | .placed => s
    else s

/-- The directory's part of a check-in: the counter, and last heard when there is an arrival group (R15, R17, R158). -/
def Subscriber.checkedIn (u : Subscriber) (arrival : Serial) (group : Option Nat) : Subscriber :=
  let u := { u with checkIns := satAdd Config.count16Max u.checkIns 1 }
  match group with
  | some g => u.report g arrival
  | none => u

/-- A CHECK-IN taken from a zone's queue (R157, R158). -/
def State.takeCheckIn (s : State) (zone : Nat) (address : Word) (arrival : Serial) (group : Option Nat) : State :=
  let s := s.setZone zone { s.zone zone with checkIns := satAdd Config.count16Max (s.zone zone).checkIns 1 }
  match s.lookup address with
  | none => s.countUnknown.notice 0x86 (num1 zone ++ num2 address.toNat ++ ser4 arrival)
  | some n =>
    let s := s.countKnown
    let s := s.setSub n ((s.sub n).checkedIn arrival group)
    s.liveNumbers.foldl (checkInOne n) s

end Sys2Proof.Machine
end

