-- ==== Sys2Proof/Machine/Directory.lean ====
section
/-! DEFINITION. The requests of the unit directory (section 1.5). -/

namespace Sys2Proof.Machine

/-- A request refused: the state as it stands, and the status. -/
def refuse (s : State) (status : Status) : State × Answer := (s, .refuse status)

/-- The link count of an account rises by one (R30). -/
def State.raiseLinks (s : State) (n : Nat) : State := s.setAcct n { s.acct n with links := (s.acct n).links + 1 }

/-- The link count of an account falls by one (R30). -/
def State.lowerLinks (s : State) (n : Nat) : State := s.setAcct n { s.acct n with links := (s.acct n).links - 1 }

/-! ### ASSIGN SUBSCRIBER (R8): number 2, address 2, class 1, interval 1, home 1, coverage 1, account 2, trim 1 -/

/-- The settings of an ASSIGN SUBSCRIBER payload; `none` where check 3 of R8 fails. -/
def assignSettings (p : List Byte) : Option Subscriber :=
  match PagerClass.ofCode (get1 p 4), groupSetOfCode (get1 p 6), groupSetOfCode (get1 p 7) with
  | some pager, some home, some coverage =>
    if get2 p 2 ≠ 0 ∧ intervalDefined (get1 p 5) = true ∧ home ≠ 0 ∧ groupSubset home coverage = true then
      some { service := .active, address := BitVec.ofNat 16 (get2 p 2), pager := pager, interval := get1 p 5,
             home := home, coverage := coverage, account := get2 p 8, trim := get1 p 10, live := 0, heard := none,
             checkIns := 0, receipts := 0 }
    else none
  | _, _, _ => none

/-- R8: the checks in order, then the record, the map entry and the link count. -/
def serveAssignSubscriber (p : List Byte) (s : State) : State × Answer :=
  if p.length ≠ 11 then refuse s .badRequest
  else if Config.subscribers ≤ get2 p 0 then refuse s .noSuch
  else
    match assignSettings p with
    | none => refuse s .outOfRange
    | some u =>
      if (s.sub (get2 p 0)).inUse = true then refuse s .wrongState
      else if Config.accounts ≤ u.account ∨ (s.acct u.account).state = .closed then refuse s .noSuch
      else if (s.acct u.account).state = .locked then refuse s .wrongState
      else if (s.lookup u.address).isSome = true then refuse s .duplicateAddress
      else
        (((s.setSub (get2 p 0) u).bindAddress u.address (some (get2 p 0))).raiseLinks u.account, .accept [])

/-- ASSIGN SUBSCRIBER, R8. -/
def execAssignSubscriber (tag : Byte) (payload : List Byte) (s : State) : Host.Outcome State Fault Refusal :=
  request 0x10 tag payload serveAssignSubscriber s

/-! ### MODIFY SUBSCRIBER (R9, R10): number 2, selection 1, then the seven values: address 2, class 1, interval 1, home 1,
coverage 1, account 2, trim 1 -/

/-- The change selection names the setting of a bit (R194). -/
def namesSetting (p : List Byte) (bit : Nat) : Bool := (p.getD 2 0).getLsbD bit

/-- The record with the named settings written, `none` where check 3 of R9 fails. Values of settings not named are ignored. -/
def modifiedSettings (p : List Byte) (u : Subscriber) : Option Subscriber :=
  let pager := if namesSetting p 1 then PagerClass.ofCode (get1 p 5) else some u.pager
  let home := if namesSetting p 3 then groupSetOfCode (get1 p 7) else some u.home
  let coverage := if namesSetting p 4 then groupSetOfCode (get1 p 8) else some u.coverage
  match pager, home, coverage with
  | some pager, some home, some coverage =>
    if (namesSetting p 0 = true → get2 p 3 ≠ 0) ∧ (namesSetting p 2 = true → intervalDefined (get1 p 6) = true) ∧
        home ≠ 0 ∧ groupSubset home coverage = true then
      some { u with
        address := if namesSetting p 0 then BitVec.ofNat 16 (get2 p 3) else u.address,
        pager := pager,
        interval := if namesSetting p 2 then get1 p 6 else u.interval,
        home := home, coverage := coverage,
        account := if namesSetting p 5 then get2 p 9 else u.account,
        trim := if namesSetting p 6 then get1 p 11 else u.trim }
    else none
  | _, _, _ => none

/-- The effects of an accepted MODIFY SUBSCRIBER on the map and last heard when the address changes (R4, R10). -/
def State.rekey (s : State) (n : Nat) (old new : Subscriber) : State :=
  if new.address = old.address then s.setSub n new
  else ((s.setSub n { new with heard := none }).bindAddress old.address none).bindAddress new.address (some n)

/-- The effects of an accepted MODIFY SUBSCRIBER on the link counts (R10, R30). -/
def State.relink (s : State) (old new : Nat) : State :=
  if new = old then s else (s.lowerLinks old).raiseLinks new

/-- R9: the checks in order, then the effects of R10. -/
def serveModifySubscriber (p : List Byte) (s : State) : State × Answer :=
  if p.length ≠ 12 then refuse s .badRequest
  else if Config.subscribers ≤ get2 p 0 then refuse s .noSuch
  else
    let u := s.sub (get2 p 0)
    match modifiedSettings p u with
    | none => refuse s .outOfRange
    | some new =>
      if u.inUse = false then refuse s .wrongState
      else if new.address ≠ u.address ∧ 0 < u.live then refuse s .busy
      else if new.address ≠ u.address ∧ (s.lookup new.address).isSome = true then refuse s .duplicateAddress
      else if new.account ≠ u.account ∧ (Config.accounts ≤ new.account ∨ (s.acct new.account).state = .closed) then
        refuse s .noSuch
      else if new.account ≠ u.account ∧ (s.acct new.account).state = .locked then refuse s .wrongState
      else ((s.rekey (get2 p 0) u new).relink u.account new.account, .accept [])

/-- MODIFY SUBSCRIBER, R9 and R10. -/
def execModifySubscriber (tag : Byte) (payload : List Byte) (s : State) : Host.Outcome State Fault Refusal :=
  request 0x11 tag payload serveModifySubscriber s

/-! ### SUSPEND and RESUME (R11): number 2 -/

/-- R11: ACTIVE to SUSPENDED. R11 gives no order of its refusals for a malformed payload;
the length of the payload is tested before the number: DESIGN CHOICE (log 28). -/
def serveSuspend (p : List Byte) (s : State) : State × Answer :=
  if p.length ≠ 2 then refuse s .badRequest
  else if Config.subscribers ≤ get2 p 0 then refuse s .noSuch
  else if (s.sub (get2 p 0)).service = .active then
    (s.setSub (get2 p 0) { s.sub (get2 p 0) with service := .suspended }, .accept [])
  else refuse s .wrongState

/-- SUSPEND, R11. -/
def execSuspend (tag : Byte) (payload : List Byte) (s : State) : Host.Outcome State Fault Refusal :=
  request 0x12 tag payload serveSuspend s

/-- R11: SUSPENDED to ACTIVE. R11 gives no order of its refusals for a malformed payload;
the length of the payload is tested before the number: DESIGN CHOICE (log 28). -/
def serveResume (p : List Byte) (s : State) : State × Answer :=
  if p.length ≠ 2 then refuse s .badRequest
  else if Config.subscribers ≤ get2 p 0 then refuse s .noSuch
  else if (s.sub (get2 p 0)).service = .suspended then
    (s.setSub (get2 p 0) { s.sub (get2 p 0) with service := .active }, .accept [])
  else refuse s .wrongState

/-- RESUME, R11. -/
def execResume (tag : Byte) (payload : List Byte) (s : State) : Host.Outcome State Fault Refusal :=
  request 0x13 tag payload serveResume s

/-! ### RELEASE (R12): number 2 -/

/-- R12: the map entry leaves, the link count falls, and the record takes the UNASSIGNED values of R2. -/
def serveRelease (p : List Byte) (s : State) : State × Answer :=
  if p.length ≠ 2 then refuse s .badRequest
  else if Config.subscribers ≤ get2 p 0 then refuse s .noSuch
  else
    let u := s.sub (get2 p 0)
    if u.inUse = false then refuse s .wrongState
    else if 0 < u.live then refuse s .busy
    else (((s.setSub (get2 p 0) .unassigned).bindAddress u.address none).lowerLinks u.account, .accept [])

/-- RELEASE, R12. -/
def execRelease (tag : Byte) (payload : List Byte) (s : State) : Host.Outcome State Fault Refusal :=
  request 0x14 tag payload serveRelease s

/-! ### QUERY SUBSCRIBER (R13): selector 1 (0 by number, 1 by unit address), then number 2 or address 2 -/

/-- R13: one record, by number or by address. R13 gives no order of its refusals for a malformed payload;
the length of the payload is tested before the number or address: DESIGN CHOICE (log 28). -/
def serveQuerySubscriber (p : List Byte) (s : State) : State × Answer :=
  if p.length ≠ 3 then refuse s .badRequest
  else if get1 p 0 = 0 then
    if Config.subscribers ≤ get2 p 1 then refuse s .noSuch
    else (s, .accept (Subscriber.bytes (get2 p 1) (s.sub (get2 p 1))))
  else if get1 p 0 = 1 then
    match s.lookup (BitVec.ofNat 16 (get2 p 1)) with
    | none => refuse s .noSuch
    | some n => (s, .accept (Subscriber.bytes n (s.sub n)))
  else refuse s .badRequest

/-- QUERY SUBSCRIBER, R13. -/
def execQuerySubscriber (tag : Byte) (payload : List Byte) (s : State) : Host.Outcome State Fault Refusal :=
  request 0x15 tag payload serveQuerySubscriber s

end Sys2Proof.Machine
end

