-- ==== Sys2Proof/Machine/Accounts.lean ====
section
/-! DEFINITION. The requests of the account unit (sections 2.3 to 2.5). -/

namespace Sys2Proof.Machine

/-! ### OPEN ACCOUNT (R23): number 2, tariff class 1, balance 4, credit limit 4 -/

/-- The balance lies in its range (R20). -/
def balanceInRange (b : Int) : Bool := Config.balanceMin ≤ b && b ≤ Config.balanceMax

/-- R23: the checks in order; the credit limit is clamped. -/
def serveOpenAccount (p : List Byte) (s : State) : State × Answer :=
  if p.length ≠ 11 then refuse s .badRequest
  else if Config.accounts ≤ get2 p 0 then refuse s .noSuch
  else if Config.tariffClasses ≤ get1 p 2 ∨ balanceInRange (getInt p 3) = false then refuse s .outOfRange
  else if (s.acct (get2 p 0)).state ≠ .closed then refuse s .wrongState
  else
    let a := { s.acct (get2 p 0) with
      state := .opened, tariff := get1 p 2, balance := getInt p 3, credit := min (get4 p 7) Config.creditMax,
      settled := 0, charged := 0 }
    (s.setAcct (get2 p 0) a,
      { status := .ok, clamped := Config.creditMax < get4 p 7, saturated := false, data := int4 a.available })

/-- OPEN ACCOUNT, R23. -/
def execOpenAccount (tag : Byte) (payload : List Byte) (s : State) : Host.Outcome State Fault Refusal :=
  request 0x20 tag payload serveOpenAccount s

/-! ### ADJUST ACCOUNT (R24): number 2, signed amount 4 -/

/-- A balance held at the ends of its range (R24). -/
def clampBalance (b : Int) : Int := max Config.balanceMin (min b Config.balanceMax)

/-- R24: the exact sum, saturating at the balance range. -/
def serveAdjustAccount (p : List Byte) (s : State) : State × Answer :=
  if p.length ≠ 6 then refuse s .badRequest
  else if Config.accounts ≤ get2 p 0 then refuse s .noSuch
  else if (s.acct (get2 p 0)).state = .closed then refuse s .wrongState
  else
    let sum := (s.acct (get2 p 0)).balance + getInt p 2
    let a := { s.acct (get2 p 0) with balance := clampBalance sum }
    (s.setAcct (get2 p 0) a,
      { status := .ok, clamped := false, saturated := !balanceInRange sum, data := int4 a.balance ++ int4 a.available })

/-- ADJUST ACCOUNT, R24. -/
def execAdjustAccount (tag : Byte) (payload : List Byte) (s : State) : Host.Outcome State Fault Refusal :=
  request 0x21 tag payload serveAdjustAccount s

/-! ### SET CREDIT (R25): number 2, credit limit 4 -/

/-- R25: the new limit, clamped. -/
def serveSetCredit (p : List Byte) (s : State) : State × Answer :=
  if p.length ≠ 6 then refuse s .badRequest
  else if Config.accounts ≤ get2 p 0 then refuse s .noSuch
  else if (s.acct (get2 p 0)).state = .closed then refuse s .wrongState
  else
    let a := { s.acct (get2 p 0) with credit := min (get4 p 2) Config.creditMax }
    (s.setAcct (get2 p 0) a,
      { status := .ok, clamped := Config.creditMax < get4 p 2, saturated := false, data := int4 a.available })

/-- SET CREDIT, R25. -/
def execSetCredit (tag : Byte) (payload : List Byte) (s : State) : Host.Outcome State Fault Refusal :=
  request 0x22 tag payload serveSetCredit s

/-! ### SET TARIFF CLASS (R26): number 2, class 1 -/

/-- R26: the new class of an OPEN or LOCKED account. The rule gives no order of its checks of the class and of the account's
state; they are made as it names them: DESIGN CHOICE (log 28). -/
def serveSetTariffClass (p : List Byte) (s : State) : State × Answer :=
  if p.length ≠ 3 then refuse s .badRequest
  else if Config.accounts ≤ get2 p 0 then refuse s .noSuch
  else if Config.tariffClasses ≤ get1 p 2 then refuse s .outOfRange
  else if (s.acct (get2 p 0)).state = .closed then refuse s .wrongState
  else (s.setAcct (get2 p 0) { s.acct (get2 p 0) with tariff := get1 p 2 }, .accept [])

/-- SET TARIFF CLASS, R26. -/
def execSetTariffClass (tag : Byte) (payload : List Byte) (s : State) : Host.Outcome State Fault Refusal :=
  request 0x23 tag payload serveSetTariffClass s

/-! ### LOCK and UNLOCK (R27): number 2 -/

/-- R27: OPEN to LOCKED. -/
def serveLock (p : List Byte) (s : State) : State × Answer :=
  if p.length ≠ 2 then refuse s .badRequest
  else if Config.accounts ≤ get2 p 0 then refuse s .noSuch
  else if (s.acct (get2 p 0)).state = .opened then
    (s.setAcct (get2 p 0) { s.acct (get2 p 0) with state := .locked }, .accept [])
  else refuse s .wrongState

/-- LOCK, R27. -/
def execLock (tag : Byte) (payload : List Byte) (s : State) : Host.Outcome State Fault Refusal :=
  request 0x24 tag payload serveLock s

/-- R27: LOCKED to OPEN. -/
def serveUnlock (p : List Byte) (s : State) : State × Answer :=
  if p.length ≠ 2 then refuse s .badRequest
  else if Config.accounts ≤ get2 p 0 then refuse s .noSuch
  else if (s.acct (get2 p 0)).state = .locked then
    (s.setAcct (get2 p 0) { s.acct (get2 p 0) with state := .opened }, .accept [])
  else refuse s .wrongState

/-- UNLOCK, R27. -/
def execUnlock (tag : Byte) (payload : List Byte) (s : State) : Host.Outcome State Fault Refusal :=
  request 0x25 tag payload serveUnlock s

/-! ### CLOSE (R28): number 2 -/

/-- R28: the final values are reported, and the record takes the CLOSED values of R20. -/
def serveClose (p : List Byte) (s : State) : State × Answer :=
  if p.length ≠ 2 then refuse s .badRequest
  else if Config.accounts ≤ get2 p 0 then refuse s .noSuch
  else
    let a := s.acct (get2 p 0)
    if a.state = .closed then refuse s .wrongState
    else if 0 < a.links ∨ 0 < a.reserved then refuse s .busy
    else
      (s.setAcct (get2 p 0) .closed,
        .accept (int4 a.balance ++ num4 a.credit ++ num4 a.settled ++ num4 a.charged))

/-- CLOSE, R28. -/
def execClose (tag : Byte) (payload : List Byte) (s : State) : Host.Outcome State Fault Refusal :=
  request 0x26 tag payload serveClose s

/-! ### QUERY ACCOUNT (R29): number 2 -/

/-- R29: the record and the available funds. -/
def serveQueryAccount (p : List Byte) (s : State) : State × Answer :=
  if p.length ≠ 2 then refuse s .badRequest
  else if Config.accounts ≤ get2 p 0 then refuse s .noSuch
  else (s, .accept (Account.bytes (get2 p 0) (s.acct (get2 p 0))))

/-- QUERY ACCOUNT, R29. -/
def execQueryAccount (tag : Byte) (payload : List Byte) (s : State) : Host.Outcome State Fault Refusal :=
  request 0x27 tag payload serveQueryAccount s

/-! ### LOAD TARIFF (R32): class 1, B 2, K 2, F1 1, F2 1, F3 1, F4 1, U 1, L 1, Mn 2, E 2 -/

/-- The entry that a LOAD TARIFF payload carries. -/
def tariffOf (p : List Byte) : Tariff :=
  { base := get2 p 1, perWord := get2 p 3, f1 := get1 p 5, f2 := get1 p 6, f3 := get1 p 7, f4 := get1 p 8,
    urgent := get1 p 9, low := get1 p 10, minimum := get2 p 11, expiry := get2 p 13 }

/-- Every field lies in its range of R31 and the span factors do not decrease (R31, checks 3 and 4 of R32). -/
def Tariff.inRange (e : Tariff) : Bool :=
  e.base ≤ 4095 && e.perWord ≤ 4095 && 16 ≤ e.f1 && e.f1 ≤ e.f2 && e.f2 ≤ e.f3 && e.f3 ≤ e.f4 && e.f4 ≤ 64 &&
    8 ≤ e.urgent && e.urgent ≤ 32 && 4 ≤ e.low && e.low ≤ 8 && e.minimum ≤ 4095 && e.expiry ≤ 4095

/-- R32: all ten fields replaced together, or none. -/
def serveLoadTariff (p : List Byte) (s : State) : State × Answer :=
  if p.length ≠ 15 then refuse s .badRequest
  else if Config.tariffClasses ≤ get1 p 0 then refuse s .outOfRange
  else if (tariffOf p).inRange = false then refuse s .outOfRange
  else (s.setTariff (get1 p 0) (tariffOf p), .accept [])

/-- LOAD TARIFF, R32. -/
def execLoadTariff (tag : Byte) (payload : List Byte) (s : State) : Host.Outcome State Fault Refusal :=
  request 0x28 tag payload serveLoadTariff s

/-! ### QUERY TARIFF and QUERY PROFILE (R33): class 1; priority 1 -/

/-- R33: the ten fields of an entry. The rule gives no order of OUT OF RANGE and BAD REQUEST; the length of the payload is
tested first: DESIGN CHOICE (log 28). -/
def serveQueryTariff (p : List Byte) (s : State) : State × Answer :=
  if p.length ≠ 1 then refuse s .badRequest
  else if Config.tariffClasses ≤ get1 p 0 then refuse s .outOfRange
  else (s, .accept (s.tariff (get1 p 0)).bytes)

/-- QUERY TARIFF, R33. -/
def execQueryTariff (tag : Byte) (payload : List Byte) (s : State) : Host.Outcome State Fault Refusal :=
  request 0x29 tag payload serveQueryTariff s

/-- R33: the four fields of a profile. The length of the payload is tested first: DESIGN CHOICE (log 28). -/
def serveQueryProfile (p : List Byte) (s : State) : State × Answer :=
  if p.length ≠ 1 then refuse s .badRequest
  else
    match Priority.ofCode (get1 p 0) with
    | none => refuse s .outOfRange
    | some pr => (s, .accept (s.profile pr).bytes)

/-- QUERY PROFILE, R33. -/
def execQueryProfile (tag : Byte) (payload : List Byte) (s : State) : Host.Outcome State Fault Refusal :=
  request 0x2B tag payload serveQueryProfile s

/-! ### SET PRIORITY PROFILE (R35): priority 1, N 1, R 1, base 1, lifetime 1 -/

/-- The profile that the payload gives, before clamping. -/
def profileOf (p : List Byte) : Profile :=
  { allowance := get1 p 1, repeats := get1 p 2, base := get1 p 3, lifetime := get1 p 4 }

/-- Each field clamped into its range (R35). -/
def Profile.clamp (f : Profile) : Profile :=
  { allowance := max 1 (min f.allowance 15), repeats := max 1 (min f.repeats 4), base := max 1 (min f.base 64),
    lifetime := max 1 (min f.lifetime 255) }

/-- R35: the four stored values replace the profile together. R35 gives a malformed payload and a first byte that is no
priority no order; the length of the payload is tested first: DESIGN CHOICE (log 28). -/
def serveSetPriorityProfile (p : List Byte) (s : State) : State × Answer :=
  if p.length ≠ 5 then refuse s .badRequest
  else
    match Priority.ofCode (get1 p 0) with
    | none => refuse s .outOfRange
    | some pr =>
      let f := (profileOf p).clamp
      (s.setProfile pr f, { status := .ok, clamped := f ≠ profileOf p, saturated := false, data := f.bytes })

/-- SET PRIORITY PROFILE, R35. -/
def execSetPriorityProfile (tag : Byte) (payload : List Byte) (s : State) : Host.Outcome State Fault Refusal :=
  request 0x2A tag payload serveSetPriorityProfile s

end Sys2Proof.Machine
end

