-- ==== Sys2Proof/Machine/Intake.lean ====
section
/-! DEFINITION. The intake unit: submissions of one page and of a group page (chapter 3). -/

namespace Sys2Proof.Machine

/-! ### What a submission carries (R44, R60) -/

/-- The fields that a submission shares between its members. -/
structure Submission where
  priority : Priority
  encoding : Encoding
  noticeMode : NoticeMode
  lifetime : Nat
  text : List Byte
deriving DecidableEq, Repr

/-- W of a submission: 2 and its body words (R46). -/
def Submission.words (x : Submission) : Nat := 2 + bodyWordsOf x.encoding x.text.length

/-- The coded fields of a submission, at offsets of a payload, with its text; `none` for an undefined code (R44). -/
def submissionOf (p : List Byte) (i : Nat) (text : List Byte) : Option Submission :=
  match Priority.ofCode (get1 p i), Encoding.ofCode (get1 p (i + 1)), NoticeMode.ofCode (get1 p (i + 2)) with
  | some pr, some e, some m =>
    some { priority := pr, encoding := e, noticeMode := m, lifetime := get1 p (i + 3), text := text }
  | _, _, _ => none

/-- A SUBMIT PAGE payload (11.1.1): subscriber number and submission; `none` when it is malformed (R44). -/
def readPage (p : List Byte) : Option (Nat × Submission) :=
  if 7 ≤ p.length ∧ p.length = 7 + get1 p 6 then (submissionOf p 2 (p.drop 7)).map (fun x => (get2 p 0, x)) else none

/-- The member list of a SUBMIT GROUP PAGE payload (11.1.2). -/
def memberList (p : List Byte) : List Nat := (List.range (get1 p 5)).map (fun k => get2 p (6 + 2 * k))

/-- A SUBMIT GROUP PAGE payload (11.1.2): members and submission; `none` when it is refused as a whole (R60). -/
def readGroupPage (p : List Byte) : Option (List Nat × Submission) :=
  let count := get1 p 5
  if 6 ≤ p.length ∧ 1 ≤ count ∧ count ≤ 64 ∧ p.length = 6 + 2 * count + get1 p 4 then
    (submissionOf p 0 (p.drop (6 + 2 * count))).map (fun x => (memberList p, x))
  else none

/-! ### The checks (R45, R48 to R51) -/

/-- The encodings that a pager class accepts (R5). -/
def PagerClass.accepts : PagerClass → Encoding → Bool
  | .tone, e => e = .tone
  | .numeric, e => e = .tone || e = .numeric
  | .alpha, _ => true
  | .twoWay, _ => true

/-- The class kind of the deliveries of a pager class (R5). -/
def PagerClass.kind : PagerClass → ClassKind
  | .twoWay => .twoWay
  | .tone | .numeric | .alpha => .oneWay

/-- The hold span of a new delivery: the number of groups in the coverage set (R39, R53). -/
def Subscriber.holdSpan (u : Subscriber) : Nat := memberCount 4 u.coverage

/-- The hold that a delivery would carry (R39, R51). -/
def State.holdFor (s : State) (u : Subscriber) (x : Submission) : Nat :=
  (s.tariff (s.acct u.account).tariff).hold x.words u.holdSpan x.priority u.trim

/-- The number of the lowest free delivery record (R52, R70, R87). -/
def State.freeDelivery (s : State) : Option Nat :=
  lowestFree (fun n => (s.live n).isSome) Config.deliveries 0

/-- The first of checks 2 to 11 of R45 that a submission to subscriber `n` fails; `none` when it passes them all. Check 10 is
made only while no body exists for the submission (R61). -/
def State.intakeCheck (s : State) (n : Nat) (x : Submission) (bodyExists : Bool) : Option Status :=
  let u := s.sub n
  let a := s.acct u.account
  if Config.subscribers ≤ n ∨ u.service = .unassigned then some .noSuch
  else if u.service = .suspended then some .suspended
  else if u.pager.accepts x.encoding = false then some .wrongClass
  else if textOk x.encoding x.text = false then some .badText
  else if u.live = Config.liveLimit then some .subscriberFull
  else if a.state = .locked then some .locked
  else if s.jnl.records.length + s.jnl.reservation = Config.journalPlaces then some .journalFull
  else if s.freeDelivery = none then some .tableFull
  else if bodyExists = false ∧ s.storeRoom x.text.length = false then some .storeFull
  else if a.available < (s.holdFor u x : Int) then some .credit
  else none

/-! ### Acceptance (R52 to R56) -/

/-- The lifetime of a submission in cycles: its own, or the profile's when it gives 0 (R56). -/
def State.lifetimeOf (s : State) (x : Submission) : Nat :=
  if x.lifetime = 0 then (s.profile x.priority).lifetime else x.lifetime

/-- The delivery record that intake creates (R53, R55, R56). -/
def State.newDelivery (s : State) (n : Nat) (x : Submission) (body : Nat) : Delivery :=
  let u := s.sub n
  let f := s.profile x.priority
  { subscriber := n, account := u.account, body := body, priority := x.priority, encoding := x.encoding,
    words := x.words, orderKey := s.dlv.sequence, state := .queued, kind := u.pager.kind,
    allowance := match u.pager.kind with | .twoWay => f.allowance | .oneWay => 0,
    attemptsLeft := match u.pager.kind with | .twoWay => f.allowance | .oneWay => 0,
    repeatsLeft := match u.pager.kind with | .twoWay => 0 | .oneWay => f.repeats,
    attemptsMade := 0, deferrals := 0, intake := s.clk.serial, due := u.nextEligible s.clk.earliestUnbuilt,
    deadline := s.clk.serial + BitVec.ofNat 32 (64 * s.lifetimeOf x),
    hold := s.holdFor u x, holdSpan := u.holdSpan, noticeMode := x.noticeMode, nextMark := .first, last := none,
    replyCode := none, heardGroup := none }

/-- Steps 2 to 7 of R52 for a delivery in record `n`: issue, record, order key, hold, live count, reservation, filing. -/
def State.enroll (s : State) (n : Nat) (d : Delivery) : State :=
  let s := s.setRecord n { issue := (s.record n).issue + 1, live := none }
  let s := s.withDlv { s.dlv with sequence := s.dlv.sequence + 1 }
  let s := s.setAcct d.account { s.acct d.account with reserved := (s.acct d.account).reserved + d.hold }
  let s := s.setSub d.subscriber { s.sub d.subscriber with live := (s.sub d.subscriber).live + 1 }
  let s := s.withJnl { s.jnl with reservation := s.jnl.reservation + 1 }
  s.file n d

/-- Step 1 of R52, or the sharing of R61: the body of a submission, and its number. -/
def State.takeBody (s : State) (x : Submission) (body : Option Nat) : State × Nat :=
  match body with
  | some b => (s.shareBody b, b)
  | none =>
    let b := s.freeBody.getD 0
    (s.createBody b x.encoding x.text, b)

/-- What an accepted submission yields: the state, the record taken, its delivery, and the body. -/
structure Accepted where
  state : State
  number : Nat
  delivery : Delivery
  body : Nat
deriving DecidableEq, Repr

/-- Accept a submission for a subscriber, whose checks have passed (R52, R61). -/
def State.accept (s : State) (n : Nat) (x : Submission) (body : Option Nat) : Accepted :=
  let number := s.freeDelivery.getD 0
  let taken := s.takeBody x body
  let d := s.newDelivery n x taken.2
  { state := taken.1.enroll number d, number := number, delivery := d, body := taken.2 }

/-- Ticket, hold and due serial of an accepted delivery (11.1.1, 11.1.2). -/
def Accepted.bytes (a : Accepted) : List Byte :=
  ticket3 (a.state.ticket a.number) ++ num2 a.delivery.hold ++ ser4 a.delivery.due

/-! ### SUBMIT PAGE (R45, R57) -/

/-- R45: the checks in order, then acceptance (R52); CLAMPED when the lifetime came from the profile (R56, R57). -/
def serveSubmitPage (p : List Byte) (s : State) : State × Answer :=
  match readPage p with
  | none => refuse s .badRequest
  | some (n, x) =>
    match s.intakeCheck n x false with
    | some status => refuse s status
    | none =>
      let a := s.accept n x none
      (a.state, { status := .ok, clamped := x.lifetime = 0, saturated := false, data := a.bytes })

/-- SUBMIT PAGE, R45. -/
def execSubmitPage (tag : Byte) (payload : List Byte) (s : State) : Host.Outcome State Fault Refusal :=
  request 0x30 tag payload serveSubmitPage s

/-! ### SUBMIT GROUP PAGE (R60 to R62) -/

/-- The progress of a group page: the state, the body once it exists, the count of members accepted, the entries so far. -/
structure GroupProgress where
  state : State
  body : Option Nat
  accepted : Nat
  entries : List Byte
deriving DecidableEq, Repr

/-- One member, with the changes made by the members before it (R61, R62). -/
def takeMember (x : Submission) (g : GroupProgress) (n : Nat) : GroupProgress :=
  match g.state.intakeCheck n x g.body.isSome with
  | some status => { g with entries := g.entries ++ num1 status.code ++ zeros 9 }
  | none =>
    let a := g.state.accept n x g.body
    { state := a.state, body := some a.body, accepted := g.accepted + 1,
      entries := g.entries ++ num1 Status.ok.code ++ a.bytes }

/-- R60 to R62: refused as a whole, or each member on its own in list order. -/
def serveSubmitGroupPage (p : List Byte) (s : State) : State × Answer :=
  match readGroupPage p with
  | none => refuse s .badRequest
  | some (list, x) =>
    let g := list.foldl (takeMember x) { state := s, body := none, accepted := 0, entries := [] }
    (g.state, { status := .ok, clamped := x.lifetime = 0 && 0 < g.accepted, saturated := false,
                data := num1 g.accepted ++ g.entries })

/-- SUBMIT GROUP PAGE, R61. -/
def execSubmitGroupPage (tag : Byte) (payload : List Byte) (s : State) : Host.Outcome State Fault Refusal :=
  request 0x31 tag payload serveSubmitGroupPage s

/-! ### QUERY STORE (R67): selector 1 (0 summary, 1 body), then body number 2 -/

/-- R67: the summary, or one body entry with its characters. R67 gives no order of its refusals for a malformed payload;
the length of the payload is tested before the number: DESIGN CHOICE (log 28). -/
def serveQueryStore (p : List Byte) (s : State) : State × Answer :=
  if p.length = 1 ∧ get1 p 0 = 0 then
    (s, .accept (num2 s.bodiesInUse ++ num2 s.blocksInUse ++ num2 (Config.blocks - s.blocksInUse)))
  else if p.length = 3 ∧ get1 p 0 = 1 then
    if Config.bodies ≤ get2 p 1 then refuse s .noSuch
    else (s, .accept (Body.bytes (s.body (get2 p 1)) (s.bodyText (get2 p 1))))
  else refuse s .badRequest

/-- QUERY STORE, R67. -/
def execQueryStore (tag : Byte) (payload : List Byte) (s : State) : Host.Outcome State Fault Refusal :=
  request 0x32 tag payload serveQueryStore s

end Sys2Proof.Machine
end

