-- ==== Sys2Proof/Machine/Deliveries.lean ====
section
/-! DEFINITION. The requests of the delivery table (section 4.8). -/

namespace Sys2Proof.Machine

/-! ### CANCEL (R86): ticket 3 -/

/-- R86: NO SUCH, IN FLIGHT, or the delivery ends CANCELLED REQUEST and is settled. -/
def serveCancel (p : List Byte) (s : State) : State × Answer :=
  if p.length ≠ 3 then refuse s .badRequest
  else
    let t := getTicket p 0
    match s.named t with
    | none => refuse s .noSuch
    | some d =>
      if d.state.waiting = true then
        (s.endDelivery t.number d .cancelled .request,
          .accept (ticket3 t ++ num1 d.attemptsMade ++ num1 d.deferrals))
      else refuse s .inFlight

/-- CANCEL, R86. -/
def execCancel (tag : Byte) (payload : List Byte) (s : State) : Host.Outcome State Fault Refusal :=
  request 0x33 tag payload serveCancel s

/-! ### QUERY DELIVERY (R87): selector 1 (0 by ticket, 1 summary), then ticket 3 -/

/-- The number of live deliveries in a state (R87). -/
def State.countState (s : State) (x : DeliveryState) : Nat := (s.liveWhere (fun d => d.state = x)).length

/-- The summary of the delivery table (R87). -/
def State.deliverySummary (s : State) : List Byte :=
  num2 s.liveTotal ++ num2 (s.countState .queued) ++ num2 (s.countState .placed) ++ num2 (s.countState .onAir) ++
    num2 (s.countState .awaitReceipt) ++ num2 (s.countState .retryWait) ++
    num2 (s.freeDelivery.getD Config.deliveries) ++ ser4 s.dlv.sequence

/-- R87: one delivery by ticket, or the summary. R87 gives no order of its refusals for a malformed payload;
the length of the payload is tested before the ticket: DESIGN CHOICE (log 28). -/
def serveQueryDelivery (p : List Byte) (s : State) : State × Answer :=
  if p.length = 4 ∧ get1 p 0 = 0 then
    let t := getTicket p 1
    match s.named t with
    | none => refuse s .noSuch
    | some d => (s, .accept (d.bytes t))
  else if p.length = 1 ∧ get1 p 0 = 1 then (s, .accept s.deliverySummary)
  else refuse s .badRequest

/-- QUERY DELIVERY, R87. -/
def execQueryDelivery (tag : Byte) (payload : List Byte) (s : State) : Host.Outcome State Fault Refusal :=
  request 0x34 tag payload serveQueryDelivery s

end Sys2Proof.Machine
end

