-- ==== Sys2Proof/Machine/ClockRequests.lean ====
section
/-! DEFINITION. The frame clock: its requests (section 5.6) and its events (R92 to R95). -/

namespace Sys2Proof.Machine

/-! ### QUERY CLOCK (R100): no field -/

/-- The clock as QUERY CLOCK reports it (R100). -/
def Clock.bytes (c : Clock) : List Byte :=
  num1 c.state.code ++ ser4 c.serial ++ num1 (frameNumber c.serial) ++ num1 c.trim ++ num1 c.pendingTrim ++
    num2 c.position ++ flag1 c.buildPassed ++
    (match c.latestMark with | some m => 1 :: ser4 m.serial ++ num2 m.offset | none => zeros 7) ++ ser4 c.markCount

/-- R100: the clock, unchanged. -/
def serveQueryClock (p : List Byte) (s : State) : State × Answer :=
  if p.length ≠ 0 then refuse s .badRequest else (s, .accept s.clk.bytes)

/-- QUERY CLOCK, R100. -/
def execQueryClock (tag : Byte) (payload : List Byte) (s : State) : Host.Outcome State Fault Refusal :=
  request 0x40 tag payload serveQueryClock s

/-! ### SET CLOCK (R96): serial 4 -/

/-- R96: the serial is written while STOPPED. Section 5.6 and R96 give a malformed payload and a RUNNING clock no order; the
payload is tested first: DESIGN CHOICE (log 28). -/
def serveSetClock (p : List Byte) (s : State) : State × Answer :=
  if p.length ≠ 4 then refuse s .badRequest
  else if s.clk.state = .running then refuse s .clockRunning
  else (s.withClk { s.clk with serial := getSer p 0 }, .accept (ser4 (getSer p 0)))

/-- SET CLOCK, R96. -/
def execSetClock (tag : Byte) (payload : List Byte) (s : State) : Host.Outcome State Fault Refusal :=
  request 0x41 tag payload serveSetClock s

/-! ### START CLOCK (R97): no field -/

/-- The clock as START CLOCK leaves it: the held serial begins (R97). -/
def Clock.start (c : Clock) : Clock :=
  { c with state := .running, trim := c.pendingTrim, position := 0, buildPassed := false }

/-- R97: RUNNING, and the first boundary at the held serial. No delivery can end at this boundary, since none is on air or
placed and no map is held while the clock is STOPPED (R98, R145); the order of its groups of endings shows nothing (log 5).
Section 5.6 and R97 give a malformed payload and a RUNNING clock no order; the payload is tested first: DESIGN CHOICE
(log 28). -/
def serveStartClock (p : List Byte) (s : State) : State × Answer :=
  if p.length ≠ 0 then refuse s .badRequest
  else if s.clk.state = .running then refuse s .wrongState
  else ((s.withClk s.clk.start).boundaryEvent .endedMissedDropped, .accept (ser4 s.clk.serial))

/-- START CLOCK, R97. -/
def execStartClock (tag : Byte) (payload : List Byte) (s : State) : Host.Outcome State Fault Refusal :=
  request 0x42 tag payload serveStartClock s

/-! ### STOP CLOCK (R98): no field -/

/-- The clock as STOP CLOCK leaves it: the frame is abandoned and the serial rises (R98). -/
def Clock.stop (c : Clock) : Clock :=
  { c with state := .stopped, serial := c.serial + 1, position := 0, buildPassed := false }

/-- Some live delivery is ON AIR or AWAIT RECEIPT (R98, check 3). -/
def State.deliveriesNeedClock (s : State) : Bool :=
  !(s.liveWhere (fun d => d.state = .onAir || d.state = .awaitReceipt)).isEmpty

/-- Every map of every group becomes absent (R145). -/
def dropMaps (s : State) (g : Nat) : State := s.setMaps g .absent

/-- R98: the checks in order; then the clock stops, and plans and maps become absent (R112, R145). -/
def serveStopClock (p : List Byte) (s : State) : State × Answer :=
  if p.length ≠ 0 then refuse s .badRequest
  else if s.clk.state = .stopped then refuse s .wrongState
  else if s.bld.air ≠ .halted ∨ s.deliveriesNeedClock = true then refuse s .airActive
  else
    let s := s.withClk s.clk.stop
    let s := groupNumbers.foldl State.dropPlans s
    let s := groupNumbers.foldl dropMaps s
    (s, .accept (ser4 s.clk.serial))

/-- STOP CLOCK, R98. -/
def execStopClock (tag : Byte) (payload : List Byte) (s : State) : Host.Outcome State Fault Refusal :=
  request 0x43 tag payload serveStopClock s

/-! ### SET TRIM (R99): trim 1 -/

/-- R99: the pending trim, clamped to 127. -/
def serveSetTrim (p : List Byte) (s : State) : State × Answer :=
  if p.length ≠ 1 then refuse s .badRequest
  else
    let t := min (get1 p 0) 127
    (s.withClk { s.clk with pendingTrim := t },
      { status := .ok, clamped := 127 < get1 p 0, saturated := false, data := num1 t })

/-- SET TRIM, R99. -/
def execSetTrim (tag : Byte) (payload : List Byte) (s : State) : Host.Outcome State Fault Refusal :=
  request 0x44 tag payload serveSetTrim s

/-! ### Events of the clock (R92 to R95; log 3) -/

/-- An event is due at the present position and has not been taken (R92, R93, R94, R114; log 3). -/
def State.eventDue (s : State) : Bool := s.nextMoment ≤ s.clk.position

/-- TICK, R92: the frame position of a RUNNING clock rises by one. The tick that would pass an event that is due waits for that
event's own command (log 3). -/
def execTick (s : State) : Host.Outcome State Fault Refusal :=
  if s.clk.state = .running ∧ s.eventDue = false then
    event (s.withClk { s.clk with position := s.clk.position + 1 })
  else event s

/-- BOUNDARY, R93: the tick after the last position, with which the frame position reaches the frame length. The serial rises,
the pending trim takes force, the position returns to 0, and the traffic blocks act on the new frame. It can come only once
every event of the frame has been taken (R92; logs 2, 3). -/
def execBoundary (order : EndingOrder) (s : State) : Host.Outcome State Fault Refusal :=
  match s.atMoment s.clk.lastPosition with
  | some s => event ((s.withClk s.clk.nextFrame).boundaryEvent order)
  | none => event s

/-- BUILD_POINT, R94: the frame position reaches 40,000, once in each frame of a RUNNING clock (logs 2, 3). -/
def execBuildPoint (s : State) : Host.Outcome State Fault Refusal :=
  match s.atMoment Config.buildPosition with
  | some t =>
    if s.clk.buildPassed then event s else event (t.withClk { t.clk with buildPassed := true }).buildPointEvent
  | none => event s

/-- The clock at a rising edge on MARK (R95). -/
def Clock.mark (c : Clock) : Clock :=
  match c.state with
  | .running => { c with markCount := c.markCount + 1, latestMark := some { serial := c.serial, offset := c.position } }
  | .stopped => { c with markCount := c.markCount + 1 }

/-- MARK_EDGE, R95. -/
def execMarkEdge (s : State) : Host.Outcome State Fault Refusal := event (s.withClk s.clk.mark)

end Sys2Proof.Machine
end

