-- ==== Sys2Proof/Machine/Zones.lean ====
section
/-! DEFINITION. The zone controller: its requests (chapter 6) and the events of the sites (R106, R113, R114, R135). -/

namespace Sys2Proof.Machine

/-! ### SET ZONE (R104): zone 1, enabled 1, group 1, settle 1, polarity 1, notice edge 1, auto-remove 1, notice enable 1 -/

/-- The coded settings of a SET ZONE payload but for the group; `none` where a code is undefined (check 1 of R104). -/
def zoneSettingsOf (p : List Byte) : Option ZoneSettings :=
  match boolOfCode (get1 p 1), Polarity.ofCode (get1 p 4), NoticeEdge.ofCode (get1 p 5), boolOfCode (get1 p 6),
      boolOfCode (get1 p 7) with
  | some enabled, some polarity, some edge, some autoRemove, some noticeEnable =>
    some { enabled := enabled, group := none, settle := min (get1 p 3) 127, polarity := polarity, edge := edge,
           autoRemove := autoRemove, noticeEnable := noticeEnable }
  | _, _, _, _, _ => none

/-- R104: the checks in order; the seven values become the pending settings. -/
def serveSetZone (p : List Byte) (s : State) : State × Answer :=
  if p.length ≠ 8 then refuse s .badRequest
  else
    match zoneSettingsOf p with
    | none => refuse s .badRequest
    | some z =>
      if 8 ≤ get1 p 0 then refuse s .noSuch
      else
        match zoneGroupOfCode (get1 p 2) with
        | none => refuse s .outOfRange
        | some g =>
          let z := { z with group := g }
          (s.setZone (get1 p 0) { s.zone (get1 p 0) with pending := z, pendingFlag := true },
            { status := .ok, clamped := 127 < get1 p 3, saturated := false, data := z.bytes })

/-- SET ZONE, R104. -/
def execSetZone (tag : Byte) (payload : List Byte) (s : State) : Host.Outcome State Fault Refusal :=
  request 0x50 tag payload serveSetZone s

/-! ### SET GROUP (R109): group 1, B 1, order mode 1, G 1, A 1, slot mask 2 -/

/-- A defined interleave depth (R109). -/
def depthDefined (n : Nat) : Bool := n = 1 || n = 2 || n = 4 || n = 8

/-- R109: the checks in order; G and A are clamped and the five values become the pending settings. -/
def serveSetGroup (p : List Byte) (s : State) : State × Answer :=
  if p.length ≠ 7 then refuse s .badRequest
  else
    match OrderMode.ofCode (get1 p 2) with
    | none => refuse s .badRequest
    | some order =>
      if 4 ≤ get1 p 0 then refuse s .noSuch
      else if depthDefined (get1 p 1) = false then refuse s .outOfRange
      else
        let g : GroupSettings :=
          { depth := get1 p 1, order := order, guard := max 1 (min (get1 p 3) 8), slotCount := min (get1 p 4) 16,
            mask := BitVec.ofNat 16 (get2 p 5) }
        (s.setGroup (get1 p 0) { s.group (get1 p 0) with pending := g, pendingFlag := true },
          { status := .ok, clamped := g.guard ≠ get1 p 3 || g.slotCount ≠ get1 p 4, saturated := false, data := g.bytes })

/-- SET GROUP, R109. -/
def execSetGroup (tag : Byte) (payload : List Byte) (s : State) : Host.Outcome State Fault Refusal :=
  request 0x51 tag payload serveSetGroup s

/-! ### CLEAR ZONE FLAGS (R116): zone 1, set of flags 1 -/

/-- R116: the named flags leave the set; bits 7..3 are ignored (R192, R194). R116 gives no order of its refusals
for a malformed payload; the length of the payload is tested before the number: DESIGN CHOICE (log 28). -/
def serveClearZoneFlags (p : List Byte) (s : State) : State × Answer :=
  if p.length ≠ 2 then refuse s .badRequest
  else if 8 ≤ get1 p 0 then refuse s .noSuch
  else
    let z := s.zone (get1 p 0)
    let after := z.flags &&& ~~~((p.getD 1 0).setWidth 3)
    (s.setZone (get1 p 0) { z with flags := after }, .accept (flags1 z.flags ++ flags1 after))

/-- CLEAR ZONE FLAGS, R116. -/
def execClearZoneFlags (tag : Byte) (payload : List Byte) (s : State) : Host.Outcome State Fault Refusal :=
  request 0x52 tag payload serveClearZoneFlags s

/-! ### QUERY ZONE (R118): selector 1 (0 zone, 1 group), then the number 1 -/

/-- Every field of R102, then in service now and the group of the current plan (R118). -/
def Zone.bytes (n : Nat) (z : Zone) (planGroup : Option Nat) : List Byte :=
  num1 n ++ z.settings.bytes ++ z.pending.bytes ++ flag1 z.pendingFlag ++ flag1 z.faulted ++ num1 z.alarm.code ++
    num1 z.recorded.code ++ flag1 z.keyed ++ flags1 z.flags ++ num2 z.wordsTaken ++ ser4 z.wordsSerial ++
    num2 z.alignFaults ++ num2 z.receiptsHeard ++ num2 z.strayReceipts ++ num2 z.checkIns ++ num2 z.overruns ++
    num2 z.recordErrors ++ flag1 z.inService ++ zoneGroup1 planGroup

/-- The settings, the pending settings and the two plans of a group (R118). -/
def Group.bytes (g : Group) : List Byte :=
  g.settings.bytes ++ g.pending.bytes ++ flag1 g.pendingFlag ++ Plan.bytes g.next ++ Plan.bytes g.current

/-- R118: one zone record or one group record. R118 gives no order of its refusals for a malformed payload;
the length of the payload is tested before the number: DESIGN CHOICE (log 28). -/
def serveQueryZone (p : List Byte) (s : State) : State × Answer :=
  if p.length ≠ 2 then refuse s .badRequest
  else if get1 p 0 = 0 then
    if 8 ≤ get1 p 1 then refuse s .noSuch
    else (s, .accept (Zone.bytes (get1 p 1) (s.zone (get1 p 1)) (s.planGroup (get1 p 1))))
  else if get1 p 0 = 1 then
    if 4 ≤ get1 p 1 then refuse s .noSuch else (s, .accept (s.group (get1 p 1)).bytes)
  else refuse s .badRequest

/-- QUERY ZONE, R118. -/
def execQueryZone (tag : Byte) (payload : List Byte) (s : State) : Host.Outcome State Fault Refusal :=
  request 0x53 tag payload serveQueryZone s

/-! ### Events of the sites -/

/-- ALARM_EDGE, R106: the ZA input of a zone goes to a level; a change of alarm state is an alarm edge. -/
def execAlarmEdge (zone : Fin 8) (high : Bool) (s : State) : Host.Outcome State Fault Refusal :=
  event (s.followAlarm zone.val { s.zone zone.val with input := high })

/-- WORD_OFFER, R135: a word-time of the frame begins; the port of each keyed zone in its data field offers the next image
word (R92; logs 2, 3). -/
def execWordOffer (wordTime : Nat) (s : State) : Host.Outcome State Fault Refusal :=
  if wordTime < Config.frameWords then
    match s.atMoment (Config.wordTicks * wordTime) with
    | some s => event (zoneNumbers.foldl (offerAt wordTime) s)
    | none => event s
  else event s

/-- WORD_TAKEN, R113: a keyed zone's site takes an offered word. A site takes at most the words offered (log 2). -/
def execWordTaken (zone : Fin 8) (s : State) : Host.Outcome State Fault Refusal :=
  let z := s.zone zone.val
  if z.keyed = true ∧ z.wordsTaken < z.offered then event (s.setZone zone.val { z with wordsTaken := z.wordsTaken + 1 })
  else event s

/-- DATA_FIELD_END, R114: a word-time of the frame begins; every zone still keyed whose plan's data field ends there is unkeyed
and judged, in ascending zone number (R92; logs 2, 3). -/
def execDataFieldEnd (wordTime : Nat) (s : State) : Host.Outcome State Fault Refusal :=
  if wordTime < Config.frameWords then
    match s.atMoment (Config.wordTicks * wordTime) with
    | some s => event (zoneNumbers.foldl (judgeAt wordTime) s)
    | none => event s
  else event s

end Sys2Proof.Machine
end

