-- ==== Sys2Proof/Machine/Air.lean ====
section
/-! DEFINITION. The requests of the frame builder (sections 7.2 and 7.7). -/

namespace Sys2Proof.Machine

/-! ### AIR ON (R123): no field -/

/-- R123: ON when HALTED with the clock RUNNING; the reply names the first serial that will be built. R122 gives a malformed
payload and a state that refuses no order; the payload is tested first: DESIGN CHOICE (log 28). -/
def serveAirOn (p : List Byte) (s : State) : State × Answer :=
  if p.length ≠ 0 then refuse s .badRequest
  else
    match s.bld.air with
    | .on => refuse s .wrongState
    | .stopping => refuse s .busy
    | .halted =>
      if s.clk.state = .stopped then refuse s .wrongState
      else (s.withBld { s.bld with air := .on }, .accept (ser4 s.clk.earliestUnbuilt))

/-- AIR ON, R123. -/
def execAirOn (tag : Byte) (payload : List Byte) (s : State) : Host.Outcome State Fault Refusal :=
  request 0x60 tag payload serveAirOn s

/-! ### AIR OFF (R124): no field -/

/-- Revert one delivery of the discarded next images (R79, R124). -/
def revertOne (s : State) (n : Nat) : State :=
  match s.live n with
  | some d => if d.state = .placed then s.revert n d else s
  | none => s

/-- A group's next image and BUILDING map become absent (R124, R144). -/
def discardNext (s : State) (g : Nat) : State :=
  (s.setImages g { s.images g with next := none }).setMaps g { s.maps g with building := none }

/-- The number of next images held (R124). -/
def State.nextImages (s : State) : Nat := (groupNumbers.filter (fun g => (s.images g).next.isSome)).length

/-- R124: STOPPING; the deliveries of the next images are reverted in ascending number, and the images discarded.
R122 gives a malformed payload and a state that refuses no order; the payload is tested first: DESIGN CHOICE (log 28). -/
def serveAirOff (p : List Byte) (s : State) : State × Answer :=
  if p.length ≠ 0 then refuse s .badRequest
  else
    match s.bld.air with
    | .halted => refuse s .wrongState
    | .stopping => refuse s .busy
    | .on =>
      let placed := s.placedNumbers
      let after := placed.foldl revertOne (s.withBld { s.bld with air := .stopping })
      let live := (placed.filter (fun n => (after.live n).isSome)).length
      (groupNumbers.foldl discardNext after,
        .accept (num1 s.nextImages ++ num2 live ++ num2 (placed.length - live)))

/-- AIR OFF, R124. -/
def execAirOff (tag : Byte) (payload : List Byte) (s : State) : Host.Outcome State Fault Refusal :=
  request 0x61 tag payload serveAirOff s

/-! ### QUERY AIR (R139): selector 1 (0 summary, 1 image), then group 1, choice 1 (0 next, 1 current), starting index 1 -/

/-- The summary of the frame builder (R139). -/
def State.airSummary (s : State) : List Byte :=
  num1 s.bld.air.code ++
    (groupNumbers.map (fun g => Image.summary (s.images g).next ++ Image.summary (s.images g).current)).flatten ++
    (groupNumbers.map (fun g =>
      ser4 (s.images g).built ++ ser4 (s.images g).launched ++ ser4 (s.images g).dropped ++
        ser4 (s.images g).pagesLaunched)).flatten

/-- The page list of an image from a starting index, at most 100 entries (R139). -/
def Image.listing : Option Image → Nat → List Byte
  | none, _ => [0, 0, 0]
  | some i, start =>
    let entries := (i.pages.drop start).take 100
    1 :: num1 i.p ++ num1 entries.length ++ (entries.map PageEntry.bytes).flatten

/-- R139: the summary, or part of one image's page list. R139 gives a malformed payload, the undefined choice and the
group above 3 no order; the length of the payload and then the choice are tested first: DESIGN CHOICE (log 28). -/
def serveQueryAir (p : List Byte) (s : State) : State × Answer :=
  if p.length = 1 ∧ get1 p 0 = 0 then (s, .accept s.airSummary)
  else if p.length = 4 ∧ get1 p 0 = 1 then
    if 2 ≤ get1 p 2 then refuse s .badRequest
    else if 4 ≤ get1 p 1 then refuse s .noSuch
    else
      let r := s.images (get1 p 1)
      (s, .accept (Image.listing (if get1 p 2 = 0 then r.next else r.current) (get1 p 3)))
  else refuse s .badRequest

/-- QUERY AIR, R139. -/
def execQueryAir (tag : Byte) (payload : List Byte) (s : State) : Host.Outcome State Fault Refusal :=
  request 0x62 tag payload serveQueryAir s

end Sys2Proof.Machine
end

