-- ==== Sys2Proof/Machine/Receipts.lean ====
section
/-! DEFINITION. The receipt unit: the arrival and the taking of return records (R141, R142), and its request (R161). -/

namespace Sys2Proof.Machine

/-! ### Arrival (R141) -/

/-- A record as it is queued: a CHECK-IN with the stamps of its arrival (R141). -/
def State.stamp (s : State) (zone : Nat) : ReturnFields → ReturnRecord
  | .receipt frame slot reply check => .receipt frame slot reply check
  | .checkIn address => .checkIn address s.clk.serial (s.planGroup zone)

/-- RETURN_RECORD_ARRIVAL, R141: discarded as bad, discarded on a full queue, or queued. R141 gives a bad record that meets a
full queue no order of the two; it is tested for bad first, and raises return record errors alone: DESIGN CHOICE (log 30). -/
def execReturnRecordArrival (zone : Fin 8) (bytes : List Byte) (s : State) : Host.Outcome State Fault Refusal :=
  let n := zone.val
  let z := s.zone n
  match readReturn bytes with
  | none => event (s.setZone n { z with recordErrors := satAdd Config.count16Max z.recordErrors 1 })
  | some fields =>
    if (s.queue n).length < Config.returnPlaces then event (s.setQueue n (s.queue n ++ [s.stamp n fields]))
    else event (s.setZone n { z with overruns := satAdd Config.count16Max z.overruns 1 })

/-! ### Taking (R142) -/

/-- RECEIPT_TAKEN, R146: the oldest record of a port, a RECEIPT, is taken and judged. Where the oldest record is no RECEIPT, or
none waits, there is none to take (log 2). -/
def execReceiptTaken (zone : Fin 8) (s : State) : Host.Outcome State Fault Refusal :=
  match s.queue zone.val with
  | .receipt frame slot reply check :: rest =>
    event ((s.setQueue zone.val rest).takeReceipt zone.val frame slot reply check)
  | _ => event s

/-- CHECK_IN_TAKEN, R158: the oldest record of a port, a CHECK-IN, is taken and applied (log 2). -/
def execCheckInTaken (zone : Fin 8) (s : State) : Host.Outcome State Fault Refusal :=
  match s.queue zone.val with
  | .checkIn address arrival group :: rest =>
    event ((s.setQueue zone.val rest).takeCheckIn zone.val address arrival group)
  | _ => event s

/-! ### QUERY RECEIPTS (R161): selector 1 (0 summary, 1 map), then group 1, role 1 (0 BUILDING, 1 CURRENT, 2 PREVIOUS) -/

/-- The eight counters in the order of R160. -/
def ReceiptCounters.bytes (c : ReceiptCounters) : List Byte :=
  ser4 c.delivered ++ ser4 c.duplicate ++ ser4 c.mismatch ++ ser4 c.stray ++ ser4 c.known ++ ser4 c.unknown ++
    ser4 c.misses ++ ser4 c.expired

/-- The presence of each map of a group with its frame serial (R161). -/
def GroupMaps.presence (r : GroupMaps) : List Byte :=
  optionalSer (r.building.map (·.serial)) ++ optionalSer (r.current.map (·.serial)) ++
    optionalSer (r.previous.map (·.serial))

/-- The summary of the receipt unit (R161). -/
def State.receiptSummary (s : State) : List Byte :=
  s.rcp.counters.bytes ++ (zoneNumbers.map (fun z => num1 (s.queue z).length)).flatten ++
    (groupNumbers.map (fun g => (s.maps g).presence)).flatten

/-- The map of a group in a role, by its code (R161). -/
def GroupMaps.role (r : GroupMaps) (code : Nat) : Option ReceiptMap :=
  if code = 0 then r.building else if code = 1 then r.current else r.previous

/-- R161: the summary, or one map. R161 gives a malformed payload, the undefined role and the group above 3 no order;
the length of the payload and then the role are tested first: DESIGN CHOICE (log 28). -/
def serveQueryReceipts (p : List Byte) (s : State) : State × Answer :=
  if p.length = 1 ∧ get1 p 0 = 0 then (s, .accept s.receiptSummary)
  else if p.length = 3 ∧ get1 p 0 = 1 then
    if 3 ≤ get1 p 2 then refuse s .badRequest
    else if 4 ≤ get1 p 1 then refuse s .noSuch
    else (s, .accept (ReceiptMap.bytes ((s.maps (get1 p 1)).role (get1 p 2))))
  else refuse s .badRequest

/-- QUERY RECEIPTS, R161. -/
def execQueryReceipts (tag : Byte) (payload : List Byte) (s : State) : Host.Outcome State Fault Refusal :=
  request 0x63 tag payload serveQueryReceipts s

end Sys2Proof.Machine
end

