-- ==== Sys2Proof/Machine/JournalRequests.lean ====
section
/-! DEFINITION. The requests of the usage journal, and TRAFFIC RESET (sections 9.6 and 9.7). -/

namespace Sys2Proof.Machine

/-! ### TAKE USAGE (R172): count 1 -/

/-- A count held within 1..32 (R172). -/
def clampTake (n : Nat) : Nat := max 1 (min n 32)

/-- R172: the oldest records are returned and removed. -/
def serveTakeUsage (p : List Byte) (s : State) : State × Answer :=
  if p.length ≠ 1 then refuse s .badRequest
  else
    let count := clampTake (get1 p 0)
    let taken := s.jnl.records.take count
    let j := { s.jnl with records := s.jnl.records.drop count }
    (s.withJnl j,
      { status := .ok, clamped := count ≠ get1 p 0, saturated := false,
        data := num1 taken.length ++ num2 j.records.length ++ num2 j.reservation ++
          (taken.map UsageRecord.bytes).flatten })

/-- TAKE USAGE, R172. -/
def execTakeUsage (tag : Byte) (payload : List Byte) (s : State) : Host.Outcome State Fault Refusal :=
  request 0x70 tag payload serveTakeUsage s

/-! ### SET WATERMARK (R173): watermark 2 -/

/-- A watermark held within 1..8,192 (R173). -/
def clampWatermark (n : Nat) : Nat := max 1 (min n Config.journalPlaces)

/-- R173: the new watermark, clamped. -/
def serveSetWatermark (p : List Byte) (s : State) : State × Answer :=
  if p.length ≠ 2 then refuse s .badRequest
  else
    let w := clampWatermark (get2 p 0)
    (s.withJnl { s.jnl with watermark := w },
      { status := .ok, clamped := w ≠ get2 p 0, saturated := false, data := num2 w ++ num2 s.jnl.records.length })

/-- SET WATERMARK, R173. -/
def execSetWatermark (tag : Byte) (payload : List Byte) (s : State) : Host.Outcome State Fault Refusal :=
  request 0x71 tag payload serveSetWatermark s

/-! ### QUERY JOURNAL (R174): no field -/

/-- The journal as QUERY JOURNAL reports it (R174). -/
def Journal.bytes (j : Journal) : List Byte :=
  num2 j.records.length ++ num2 j.reservation ++ num2 (Config.journalPlaces - j.records.length - j.reservation) ++
    ser4 j.sequence ++ optionalSer (j.records.head?.map (·.sequence)) ++ num2 j.watermark

/-- R174: the journal, unchanged. -/
def serveQueryJournal (p : List Byte) (s : State) : State × Answer :=
  if p.length ≠ 0 then refuse s .badRequest else (s, .accept s.jnl.bytes)

/-- QUERY JOURNAL, R174. -/
def execQueryJournal (tag : Byte) (payload : List Byte) (s : State) : Host.Outcome State Fault Refusal :=
  request 0x72 tag payload serveQueryJournal s

/-! ### TRAFFIC RESET (R175): no field -/

/-- End one live delivery CANCELLED RESET (R88). -/
def cancelOne (s : State) (n : Nat) : State :=
  match s.live n with
  | some d => s.endDelivery n d .cancelled .reset
  | none => s

/-- Every slot of a map becomes EMPTY (R162). -/
def ReceiptMap.emptied (m : ReceiptMap) : ReceiptMap := { m with slots := [] }

def emptyMaps (s : State) (g : Nat) : State :=
  s.setMaps g { building := (s.maps g).building.map ReceiptMap.emptied,
                current := (s.maps g).current.map ReceiptMap.emptied,
                previous := (s.maps g).previous.map ReceiptMap.emptied }

/-- An empty image for the same group and serial, with the same plan values (R132). -/
def Image.emptied (i : Image) : Image :=
  let i := { i with pages := [] }
  { i with words := i.layout (fun _ => []) }

def emptyNext (s : State) (g : Nat) : State :=
  s.setImages g { s.images g with next := (s.images g).next.map Image.emptied }

/-- R175: every live delivery ends CANCELLED RESET in ascending number, the maps are emptied, the next images replaced. -/
def serveTrafficReset (p : List Byte) (s : State) : State × Answer :=
  if p.length ≠ 0 then refuse s .badRequest
  else
    let live := s.liveNumbers
    let after := live.foldl cancelOne s
    let after := groupNumbers.foldl emptyMaps after
    let after := groupNumbers.foldl emptyNext after
    (after, .accept (num2 live.length ++ ser4 s.jnl.sequence ++ num2 after.jnl.records.length))

/-- TRAFFIC RESET, R175. -/
def execTrafficReset (tag : Byte) (payload : List Byte) (s : State) : Host.Outcome State Fault Refusal :=
  request 0x73 tag payload serveTrafficReset s

end Sys2Proof.Machine
end

