-- ==== Sys2Proof/Machine/LinkEvents.lean ====
section
/-! DEFINITION. The control link: its requests, its line events, and the resets (chapter 10). -/

namespace Sys2Proof.Machine

/-! ### QUERY LINK (R189): no field -/

/-- The bit rate of a value of RATE[1:0] (R178). -/
def bitRate (rate : BitVec 2) : Nat :=
  if rate = 0 then 9600 else if rate = 1 then 19200 else if rate = 2 then 57600 else 115200

/-- The link as QUERY LINK reports it (R189; log 14). -/
def Link.bytes (l : Link) : List Byte :=
  num4 (bitRate l.rate) ++ num1 l.receiver.code ++
    (match l.signature with | some g => 1 :: g.bytes | none => zeros 13) ++
    num2 l.linkErrors ++ num2 l.droppedNotices ++ num2 l.overflows ++ num2 l.lostAnswers ++ ser4 l.requestsTaken ++
    num1 l.requests.length ++ num1 l.replies.length ++ num1 l.notices.length ++ num2 l.noticeSequence.toNat

/-- R189: the link is read, and then the signature, the link error count and the dropped notice count are cleared. -/
def serveQueryLink (p : List Byte) (s : State) : State × Answer :=
  if p.length ≠ 0 then refuse s .badRequest
  else
    (s.withLnk { s.lnk with signature := none, linkErrors := 0, droppedNotices := 0 }, .accept s.lnk.bytes)

/-- QUERY LINK, R189. -/
def execQueryLink (tag : Byte) (payload : List Byte) (s : State) : Host.Outcome State Fault Refusal :=
  request 0x7E tag payload serveQueryLink s

/-! ### The resets (R19, R43, R68, R89, R101, R119, R120, R140, R163, R177, R190, R191) -/

/-- The zones after power-on: each alarm state is taken anew from its ZA input with NORMAL polarity (R119). -/
def powerOnZones (s : State) : Table Zone :=
  zoneNumbers.foldl (fun t n => Table.put (.powerOn false) t n (.powerOn (s.zone n).input)) []

/-- Every block other than the control link takes its power-on values; the pins keep their levels (R190; log 6). -/
def State.resetBlocks (s : State) : State :=
  { State.reset with zon := { zones := powerOnZones s, groups := [] }, lnk := s.lnk, pending := s.pending }

/-- R190: every block other than the control link is reset, and the reply is OK with no data. -/
def serveFullReset (p : List Byte) (s : State) : State × Answer :=
  if p.length ≠ 0 then refuse s .badRequest else (s.resetBlocks, .accept [])

/-- FULL RESET, R190. -/
def execFullReset (tag : Byte) (payload : List Byte) (s : State) : Host.Outcome State Fault Refusal :=
  request 0x7F tag payload serveFullReset s

/-- POWER_ON, R178 and R191: every block and the link take their power-on values, and the rate pins are sampled. -/
def execPowerOn (rate : BitVec 2) (s : State) : Host.Outcome State Fault Refusal :=
  event (s.resetBlocks.withLnk (.powerOn rate))

/-! ### A record of an unknown kind (R185) -/

/-- UNKNOWN_KIND_REQUEST, R185: answered BAD REQUEST with no data. A record of a request kind is executed by its own command
(log 2). -/
def execUnknownKindRequest (kind tag : Byte) (payload : List Byte) (s : State) : Host.Outcome State Fault Refusal :=
  if requestKinds.contains kind then event s
  else request kind tag payload (fun _ s => refuse s .badRequest) s

/-! ### The line events (R179, R181 to R183, R187) -/

/-- INBOUND_BYTE, R181. -/
def execInboundByte (byte : Byte) (s : State) : Host.Outcome State Fault Refusal := event (s.receive byte)

/-- FRAMING_ERROR, R181 and R182. -/
def execFramingError (s : State) : Host.Outcome State Fault Refusal :=
  match s.lnk.receiver with
  | .hunt => event (s.enterLinkError .framing .hunt [])
  | .receiving => event (s.enterLinkError .framing .receiving s.lnk.assembling)
  | .linkError => event s

/-- BREAK, R183: the receiver returns to HUNT and a partial record is discarded. -/
def execBreakLine (s : State) : Host.Outcome State Fault Refusal :=
  event (s.withLnk { s.lnk with receiver := .hunt, assembling := [] })

/-- RECORD_TRANSMISSION_END, R187: the line finishes its record and chooses the next. -/
def execRecordTransmissionEnd (s : State) : Host.Outcome State Fault Refusal :=
  event (s.withLnk { s.lnk with sending := none })

end Sys2Proof.Machine
end

