-- ==== Sys2Proof/Machine/Dispatch.lean ====
section
/-! DEFINITION. One arm for each command: one direct call of its meaning. -/

namespace Sys2Proof.Machine

def exec (i : Instr) (s : State) : Host.Outcome State Fault Refusal :=
  match i with
  | .assignSubscriber tag payload => Sys2Proof.Machine.execAssignSubscriber tag payload s
  | .modifySubscriber tag payload => Sys2Proof.Machine.execModifySubscriber tag payload s
  | .suspend tag payload => Sys2Proof.Machine.execSuspend tag payload s
  | .resume tag payload => Sys2Proof.Machine.execResume tag payload s
  | .release tag payload => Sys2Proof.Machine.execRelease tag payload s
  | .querySubscriber tag payload => Sys2Proof.Machine.execQuerySubscriber tag payload s
  | .openAccount tag payload => Sys2Proof.Machine.execOpenAccount tag payload s
  | .adjustAccount tag payload => Sys2Proof.Machine.execAdjustAccount tag payload s
  | .setCredit tag payload => Sys2Proof.Machine.execSetCredit tag payload s
  | .setTariffClass tag payload => Sys2Proof.Machine.execSetTariffClass tag payload s
  | .lock tag payload => Sys2Proof.Machine.execLock tag payload s
  | .unlock tag payload => Sys2Proof.Machine.execUnlock tag payload s
  | .close tag payload => Sys2Proof.Machine.execClose tag payload s
  | .queryAccount tag payload => Sys2Proof.Machine.execQueryAccount tag payload s
  | .loadTariff tag payload => Sys2Proof.Machine.execLoadTariff tag payload s
  | .queryTariff tag payload => Sys2Proof.Machine.execQueryTariff tag payload s
  | .setPriorityProfile tag payload => Sys2Proof.Machine.execSetPriorityProfile tag payload s
  | .queryProfile tag payload => Sys2Proof.Machine.execQueryProfile tag payload s
  | .submitPage tag payload => Sys2Proof.Machine.execSubmitPage tag payload s
  | .submitGroupPage tag payload => Sys2Proof.Machine.execSubmitGroupPage tag payload s
  | .queryStore tag payload => Sys2Proof.Machine.execQueryStore tag payload s
  | .cancel tag payload => Sys2Proof.Machine.execCancel tag payload s
  | .queryDelivery tag payload => Sys2Proof.Machine.execQueryDelivery tag payload s
  | .queryClock tag payload => Sys2Proof.Machine.execQueryClock tag payload s
  | .setClock tag payload => Sys2Proof.Machine.execSetClock tag payload s
  | .startClock tag payload => Sys2Proof.Machine.execStartClock tag payload s
  | .stopClock tag payload => Sys2Proof.Machine.execStopClock tag payload s
  | .setTrim tag payload => Sys2Proof.Machine.execSetTrim tag payload s
  | .setZone tag payload => Sys2Proof.Machine.execSetZone tag payload s
  | .setGroup tag payload => Sys2Proof.Machine.execSetGroup tag payload s
  | .clearZoneFlags tag payload => Sys2Proof.Machine.execClearZoneFlags tag payload s
  | .queryZone tag payload => Sys2Proof.Machine.execQueryZone tag payload s
  | .airOn tag payload => Sys2Proof.Machine.execAirOn tag payload s
  | .airOff tag payload => Sys2Proof.Machine.execAirOff tag payload s
  | .queryAir tag payload => Sys2Proof.Machine.execQueryAir tag payload s
  | .queryReceipts tag payload => Sys2Proof.Machine.execQueryReceipts tag payload s
  | .takeUsage tag payload => Sys2Proof.Machine.execTakeUsage tag payload s
  | .setWatermark tag payload => Sys2Proof.Machine.execSetWatermark tag payload s
  | .queryJournal tag payload => Sys2Proof.Machine.execQueryJournal tag payload s
  | .trafficReset tag payload => Sys2Proof.Machine.execTrafficReset tag payload s
  | .queryLink tag payload => Sys2Proof.Machine.execQueryLink tag payload s
  | .fullReset tag payload => Sys2Proof.Machine.execFullReset tag payload s
  | .unknownKindRequest kind tag payload => Sys2Proof.Machine.execUnknownKindRequest kind tag payload s
  | .powerOn rate => Sys2Proof.Machine.execPowerOn rate s
  | .inboundByte byte => Sys2Proof.Machine.execInboundByte byte s
  | .framingError => Sys2Proof.Machine.execFramingError s
  | .breakLine => Sys2Proof.Machine.execBreakLine s
  | .recordTransmissionEnd => Sys2Proof.Machine.execRecordTransmissionEnd s
  | .boundary order => Sys2Proof.Machine.execBoundary order s
  | .buildPoint => Sys2Proof.Machine.execBuildPoint s
  | .markEdge => Sys2Proof.Machine.execMarkEdge s
  | .alarmEdge zone high => Sys2Proof.Machine.execAlarmEdge zone high s
  | .wordOffer wordTime => Sys2Proof.Machine.execWordOffer wordTime s
  | .wordTaken zone => Sys2Proof.Machine.execWordTaken zone s
  | .dataFieldEnd wordTime => Sys2Proof.Machine.execDataFieldEnd wordTime s
  | .returnRecordArrival zone bytes => Sys2Proof.Machine.execReturnRecordArrival zone bytes s
  | .receiptTaken zone => Sys2Proof.Machine.execReceiptTaken zone s
  | .checkInTaken zone => Sys2Proof.Machine.execCheckInTaken zone s
  | .tick => Sys2Proof.Machine.execTick s

end Sys2Proof.Machine
end

