-- ==== Sys2Proof/Safety.lean ====
section
/-! DEFINITION. The terms in which statements about the part are made: when a request is ready and what its answer does to
the link, and the invariants that the spec's rules lay on the state. -/

namespace Sys2Proof

/-- The link record that a request command executes (log 1); an event has none. -/
def Instr.record : Instr → Option Machine.LinkRecord
  | .assignSubscriber tag payload => some { kind := 0x10, tag := tag, payload := payload }
  | .modifySubscriber tag payload => some { kind := 0x11, tag := tag, payload := payload }
  | .suspend tag payload => some { kind := 0x12, tag := tag, payload := payload }
  | .resume tag payload => some { kind := 0x13, tag := tag, payload := payload }
  | .release tag payload => some { kind := 0x14, tag := tag, payload := payload }
  | .querySubscriber tag payload => some { kind := 0x15, tag := tag, payload := payload }
  | .openAccount tag payload => some { kind := 0x20, tag := tag, payload := payload }
  | .adjustAccount tag payload => some { kind := 0x21, tag := tag, payload := payload }
  | .setCredit tag payload => some { kind := 0x22, tag := tag, payload := payload }
  | .setTariffClass tag payload => some { kind := 0x23, tag := tag, payload := payload }
  | .lock tag payload => some { kind := 0x24, tag := tag, payload := payload }
  | .unlock tag payload => some { kind := 0x25, tag := tag, payload := payload }
  | .close tag payload => some { kind := 0x26, tag := tag, payload := payload }
  | .queryAccount tag payload => some { kind := 0x27, tag := tag, payload := payload }
  | .loadTariff tag payload => some { kind := 0x28, tag := tag, payload := payload }
  | .queryTariff tag payload => some { kind := 0x29, tag := tag, payload := payload }
  | .setPriorityProfile tag payload => some { kind := 0x2A, tag := tag, payload := payload }
  | .queryProfile tag payload => some { kind := 0x2B, tag := tag, payload := payload }
  | .submitPage tag payload => some { kind := 0x30, tag := tag, payload := payload }
  | .submitGroupPage tag payload => some { kind := 0x31, tag := tag, payload := payload }
  | .queryStore tag payload => some { kind := 0x32, tag := tag, payload := payload }
  | .cancel tag payload => some { kind := 0x33, tag := tag, payload := payload }
  | .queryDelivery tag payload => some { kind := 0x34, tag := tag, payload := payload }
  | .queryClock tag payload => some { kind := 0x40, tag := tag, payload := payload }
  | .setClock tag payload => some { kind := 0x41, tag := tag, payload := payload }
  | .startClock tag payload => some { kind := 0x42, tag := tag, payload := payload }
  | .stopClock tag payload => some { kind := 0x43, tag := tag, payload := payload }
  | .setTrim tag payload => some { kind := 0x44, tag := tag, payload := payload }
  | .setZone tag payload => some { kind := 0x50, tag := tag, payload := payload }
  | .setGroup tag payload => some { kind := 0x51, tag := tag, payload := payload }
  | .clearZoneFlags tag payload => some { kind := 0x52, tag := tag, payload := payload }
  | .queryZone tag payload => some { kind := 0x53, tag := tag, payload := payload }
  | .airOn tag payload => some { kind := 0x60, tag := tag, payload := payload }
  | .airOff tag payload => some { kind := 0x61, tag := tag, payload := payload }
  | .queryAir tag payload => some { kind := 0x62, tag := tag, payload := payload }
  | .queryReceipts tag payload => some { kind := 0x63, tag := tag, payload := payload }
  | .takeUsage tag payload => some { kind := 0x70, tag := tag, payload := payload }
  | .setWatermark tag payload => some { kind := 0x71, tag := tag, payload := payload }
  | .queryJournal tag payload => some { kind := 0x72, tag := tag, payload := payload }
  | .trafficReset tag payload => some { kind := 0x73, tag := tag, payload := payload }
  | .queryLink tag payload => some { kind := 0x7E, tag := tag, payload := payload }
  | .fullReset tag payload => some { kind := 0x7F, tag := tag, payload := payload }
  | .unknownKindRequest kind tag payload =>
    if requestKinds.contains kind then none else some { kind := kind, tag := tag, payload := payload }
  | .powerOn _ => none
  | .inboundByte _ => none
  | .framingError => none
  | .breakLine => none
  | .recordTransmissionEnd => none
  | .boundary _ => none
  | .buildPoint => none
  | .markEdge => none
  | .alarmEdge _ _ => none
  | .wordOffer _ => none
  | .wordTaken _ => none
  | .dataFieldEnd _ => none
  | .returnRecordArrival _ _ => none
  | .receiptTaken _ => none
  | .checkInTaken _ => none
  | .tick => none

namespace Machine

/-! ### Requests and their answers (R184 to R187) -/

/-- The record stands at the head of the request queue, and the reply queue has a free entry (R185). -/
def State.ready (s : State) (r : LinkRecord) : Prop :=
  s.lnk.requests.head? = some r ∧ s.lnk.replies.length < Config.replyPlaces

/-- The head request has left the queue (R185). -/
def State.taken (s : State) : State := s.withLnk { s.lnk with requests := s.lnk.requests.drop 1 }

/-- The reply to a request has been placed, and the line, if idle, has chosen (R185, R187). -/
def State.answered (s : State) (r : LinkRecord) (a : Answer) : State :=
  (s.withLnk (s.lnk.place (a.reply r.kind r.tag))).lineChoice

/-- The link after its head request was taken and answered, where the execution raised no notice. -/
def Link.answered (l : Link) (r : LinkRecord) (a : Answer) : Link :=
  ({ l with requests := l.requests.drop 1 }.place (a.reply r.kind r.tag)).choose

/-- The command answers its request with a status other than OK and changes nothing else (R185, R186). -/
def Refuses (c : Instr) (s : State) (r : LinkRecord) (x : Status) : Prop :=
  exec c s = .next (s.taken.answered r (.refuse x))

/-- The line is sending, or nothing waits to be sent (R187). -/
def Link.lineBusy (l : Link) : Prop := l.sending = none → l.replies = [] ∧ l.notices = []

/-- The status of the first check that fails, of the checks of a request in their order (R45 and the rule of each request). -/
def firstFailing (checks : List (Bool × Status)) : Option Status := (checks.find? (fun c => c.1)).map (fun c => c.2)

/-- The link after notices were raised one after another, each given by its kind byte and its fields (R188). -/
def Link.raise (l : Link) (raised : List (Byte × List Byte)) : Link := raised.foldl (fun l m => l.notice m.1 m.2) l

/-! ### The moments of a frame (R92, R94, R114; log 3) -/

/-- The clock is RUNNING, and the frame in progress comes to a position with no event left behind: the position lies ahead in
the frame, the build point has passed if the position is beyond it, and no keyed zone's data field ends before it. -/
def State.reaches (s : State) (position : Nat) : Prop :=
  s.clk.state = .running ∧ s.clk.position ≤ position ∧ position < 49936 + s.clk.trim ∧
  (s.clk.buildPassed = false → position ≤ 40000) ∧
  ∀ z < 8, ∀ p, (s.zone z).keyed = true → s.zonePlan z = some p → position ≤ 100 * (p.settle + 4 + p.capacity)

/-- A RUNNING clock stands at a moment of its frame with no event left behind (R92, R94, R114; log 3). -/
def State.timeAgrees (s : State) : Prop := s.clk.state = .running → s.reaches s.clk.position

/-! ### Endings and receipt maps -/

/-- Between two states the delivery in record `n` has ended: its record is free, and one usage record beyond those held before
names it with the outcome and reason, ended in the frame of the later state (R72, R85, R166). -/
def State.ended (s t : State) (n : Nat) (e : Ending) (r : Reason) : Prop :=
  t.live n = none ∧ (t.record n).issue = (s.record n).issue ∧
  ∃ u ∈ t.jnl.records.drop s.jnl.records.length, u.ticket = s.ticket n ∧ u.ending = e ∧ u.reason = r ∧
    u.endSerial = t.clk.serial

/-- Between two states the delivery in record `n` was re-filed: it is `d` and stands in the list of its due serial, or, the due
serial being beyond the deadline, it has ended EXPIRED LIFETIME (R75). -/
def State.refiled (s t : State) (n : Nat) (d : Delivery) : Prop :=
  (atOrBefore d.due d.deadline = true → t.live n = some d ∧ n ∈ t.calList (frameNumber d.due)) ∧
  (atOrBefore d.due d.deadline = false → s.ended t n .expired .lifetime)

/-- A delivery as a revert leaves it, before it is filed: the placement undone (R79). -/
def Delivery.undone (d : Delivery) (due : Serial) : Delivery :=
  { d with
    last := none,
    attemptsMade := if d.kind = .twoWay then d.attemptsMade - 1 else d.attemptsMade,
    state := if d.kind = .twoWay ∧ 2 ≤ d.attemptsMade then .retryWait else .queued,
    due := due }

/-- A map after the slots that satisfy `p`, and no others, were written with one entry (R143). -/
def ReceiptMap.rewritten (m after : ReceiptMap) (p : Nat → Prop) (x : Slot) : Prop :=
  after = { m with slots := after.slots } ∧ ∀ j, (p j → after.slot j = x) ∧ (¬p j → after.slot j = m.slot j)

/-- The map in one role after such a write; `p` names the slots by the frame serial of the map and their number. -/
def rewrittenRole (p : Serial → Nat → Prop) (x : Slot) : Option ReceiptMap → Option ReceiptMap → Prop
  | none, o => o = none
  | some m, some after => m.rewritten after (p m.serial) x
  | some _, none => False

/-- The maps of a group after such a write. -/
def GroupMaps.rewritten (r after : GroupMaps) (p : Serial → Nat → Prop) (x : Slot) : Prop :=
  rewrittenRole p x r.building after.building ∧ rewrittenRole p x r.current after.current ∧
  rewrittenRole p x r.previous after.previous

/-- Between two states the alarm state of a zone changed, and the change matches the alarm notice edge in force (R106). -/
def State.alarmHit (s t : State) (z : Nat) : Bool :=
  (t.zone z).alarm ≠ (s.zone z).alarm &&
    (match (t.zone z).settings.edge with
      | .none => false
      | .rising => (t.zone z).alarm = .active
      | .falling => (t.zone z).alarm = .inactive
      | .both => true)

/-- A ZONE NOTICE, kind byte and fields: the flags added, the whole set after the event, and the alarm state and service of the
zone as the event leaves it (R115; log 25). -/
def zoneNotice (n : Nat) (added whole : BitVec 3) (z : Zone) (serial : Serial) : Byte × List Byte :=
  (0x83, num1 n ++ flags1 added ++ flags1 whole ++ num1 z.alarm.code ++ flag1 z.inService ++ ser4 serial)

/-- A placed delivery of a next image whose groups are all dropped holds a slot of a group's map of a frame (R79, R134). -/
def State.losesSlot (s : State) (kept : GroupSet) (g : Nat) (frame : Serial) (j : Nat) : Prop :=
  ∃ n d a, s.live n = some d ∧ d.state = .placed ∧ s.inNextImage n = true ∧ d.last = some a ∧ a.carried &&& kept = 0 ∧
    a.serial = frame ∧ (g, j) ∈ a.slots

/-! ### Payloads as they stand on the line (R192, R194, 11.1, R196) -/

namespace Payload

/-- The eight settings that ASSIGN SUBSCRIBER writes (R8). -/
def settings (u : Subscriber) : List Byte :=
  num2 u.address.toNat ++ num1 u.pager.code ++ num1 u.interval ++ groups1 u.home ++ groups1 u.coverage ++
    num2 u.account ++ num1 u.trim

/-- ASSIGN SUBSCRIBER (R8). -/
def assign (n : Nat) (u : Subscriber) : List Byte := num2 n ++ settings u

/-- MODIFY SUBSCRIBER (R9): number, change selection, a value for each setting. -/
def modify (n : Nat) (selection : Byte) (u : Subscriber) : List Byte := num2 n ++ selection :: settings u

/-- OPEN ACCOUNT (R23). -/
def openAccount (n tariff : Nat) (balance : Int) (credit : Nat) : List Byte :=
  num2 n ++ num1 tariff ++ int4 balance ++ num4 credit

/-- SUBMIT PAGE (11.1.1). -/
def page (n : Nat) (x : Submission) : List Byte :=
  num2 n ++ num1 x.priority.code ++ num1 x.encoding.code ++ num1 x.noticeMode.code ++ num1 x.lifetime ++
    num1 x.text.length ++ x.text

/-- SUBMIT GROUP PAGE (11.1.2). -/
def groupPage (list : List Nat) (x : Submission) : List Byte :=
  num1 x.priority.code ++ num1 x.encoding.code ++ num1 x.noticeMode.code ++ num1 x.lifetime ++
    num1 x.text.length ++ num1 list.length ++ (list.map num2).flatten ++ x.text

/-- A return record from its kind and payload, with its length byte and check byte (R196). -/
def returnRecord (kind : Byte) (payload : List Byte) : List Byte :=
  let inner := kind :: num1 payload.length ++ payload
  inner ++ [BitVec.ofNat 8 (256 - byteSum inner)]

/-- A RECEIPT (R196): frame number with the two bits below it that are ignored, slot, reply code, address check. -/
def receiptWith (frame ignored slot reply : Nat) (check : Byte) : List Byte :=
  returnRecord 0x31 (num1 (frame * 4 + ignored) ++ num1 (slot * 16 + reply) ++ [check])

/-- A RECEIPT whose ignored bits are 0 (R196). -/
def receipt (frame slot reply : Nat) (check : Byte) : List Byte := receiptWith frame 0 slot reply check

/-- A CHECK-IN (R196): unit address. -/
def checkIn (address : Word) : List Byte := returnRecord 0x32 (num2 address.toNat)

end Payload

/-! ### Ranges of settings, plans and table entries -/

/-- The seven settings of a zone lie in the ranges of R102. -/
def ZoneSettings.inRange (z : ZoneSettings) : Prop := z.settle ≤ 127 ∧ ∀ g, z.group = some g → g < 4

/-- The five settings of a group lie in the ranges of R108. -/
def GroupSettings.inRange (g : GroupSettings) : Prop :=
  (g.depth = 1 ∨ g.depth = 2 ∨ g.depth = 4 ∨ g.depth = 8) ∧ 1 ≤ g.guard ∧ g.guard ≤ 8 ∧ g.slotCount ≤ 16

/-- A plan lays out all 500 word-times of its frame, and D lies in 334..495 (R92, R111). -/
def Plan.fillsFrame (p : Plan) : Prop :=
  p.settle ≤ 26 ∧ p.settle + 4 + p.capacity + p.guard + 8 * p.slotCount = 500 ∧ 334 ≤ p.capacity ∧ p.capacity ≤ 495

/-- The fields of a priority profile lie in the ranges of R34. -/
def Profile.inRange (f : Profile) : Prop :=
  1 ≤ f.allowance ∧ f.allowance ≤ 15 ∧ 1 ≤ f.repeats ∧ f.repeats ≤ 4 ∧ 1 ≤ f.base ∧ f.base ≤ 64 ∧
  1 ≤ f.lifetime ∧ f.lifetime ≤ 255

/-! ### Invariants -/

/-- The slot table of each map of a group, BUILDING, CURRENT and PREVIOUS, is in its canonical form (R143). -/
def GroupMaps.slotsWf (r : GroupMaps) : Bool :=
  [r.building, r.current, r.previous].all (fun o => o.all (fun m => Table.wf .empty m.slots))

namespace State

/-- The live deliveries, by rising number. -/
def liveDeliveries (s : State) : List Delivery := s.liveNumbers.filterMap s.live

/-- Every table is in its canonical form, the slot tables inside the receipt maps among them. -/
def tablesCanonical (s : State) : Prop :=
  Table.wf .unassigned s.dir.subs = true ∧ Table.wf none s.dir.map = true ∧ Table.wf .closed s.act.accounts = true ∧
  Table.wf .powerOn s.act.tariffs = true ∧ Table.wf .free s.txt.bodies = true ∧ Table.wf none s.txt.blocks = true ∧
  Table.wf .fresh s.dlv.records = true ∧ Table.wf [] s.dlv.calendar = true ∧
  Table.wf (.powerOn false) s.zon.zones = true ∧ Table.wf .powerOn s.zon.groups = true ∧
  Table.wf .powerOn s.bld.images = true ∧ Table.wf [] s.rcp.queues = true ∧ Table.wf .absent s.rcp.maps = true ∧
  s.rcp.maps.all (fun e => e.2.slotsWf) = true

/-- No queue holds more than its places (R141, R184, R187, R188). -/
def queuesInRange (s : State) : Prop :=
  s.lnk.requests.length ≤ 8 ∧ s.lnk.replies.length ≤ 16 ∧ s.lnk.notices.length ≤ 64 ∧ ∀ z, (s.queue z).length ≤ 8

/-- The clock stays in its ranges (R90, R92). -/
def clockInRange (s : State) : Prop :=
  s.clk.trim ≤ 127 ∧ s.clk.pendingTrim ≤ 127 ∧ s.clk.position < s.clk.frameLength ∧
  (s.clk.state = .stopped → s.clk.position = 0 ∧ s.clk.buildPassed = false)

/-- The air leaves HALTED only while the clock is RUNNING, and next images are held only while the air is ON (R122). -/
def airFollowsClock (s : State) : Prop :=
  (s.bld.air ≠ .halted → s.clk.state = .running) ∧ (s.bld.air ≠ .on → ∀ g < 4, (s.images g).next = none)

/-- The directory map has exactly one entry for each record in use (R4). -/
def mapAgrees (s : State) : Prop :=
  (∀ n, (s.sub n).inUse = true → s.lookup (s.sub n).address = some n) ∧
  (∀ a n, s.lookup a = some n → (s.sub n).inUse = true ∧ (s.sub n).address = a)

/-- The settings of every subscriber record lie in their ranges (R2, R8). -/
def subscribersInRange (s : State) : Prop :=
  ∀ n, intervalDefined (s.sub n).interval = true ∧ (s.sub n).home ≠ 0 ∧
    groupSubset (s.sub n).home (s.sub n).coverage = true ∧ (s.sub n).account < 2048 ∧ (s.sub n).trim ≤ 255

/-- Balances, credit limits, tariff entries and profiles stay in their ranges (R20, R31, R34). -/
def fundsInRange (s : State) : Prop :=
  (∀ n, -8388608 ≤ (s.acct n).balance ∧ (s.acct n).balance ≤ 8388607 ∧ (s.acct n).credit ≤ 8388607) ∧
  (∀ k, (s.tariff k).inRange = true) ∧ ∀ p, (s.profile p).inRange

/-- The reservation count is the live total, occupancy and reservation count fit the journal, and the intake sequence is the
live total plus the journal's sequence number (R49, R169). -/
def ledgerAgrees (s : State) : Prop :=
  Table.wf .fresh s.dlv.records = true ∧ s.jnl.reservation = s.liveTotal ∧
  s.jnl.records.length + s.jnl.reservation ≤ 8192 ∧
  s.dlv.sequence = BitVec.ofNat 32 s.liveTotal + s.jnl.sequence

/-- The reserved amount of each account is the sum of the holds of the live deliveries charged to it (R20). -/
def reservedAgrees (s : State) : Prop :=
  Table.wf .fresh s.dlv.records = true ∧
  ∀ n, (s.acct n).reserved = ((s.liveDeliveries.filter (fun d => d.account = n)).map (fun d => d.hold)).sum

/-- The live count of each subscriber is the number of live deliveries naming it; it is at most 32, and 0 in an UNASSIGNED
record (R14). -/
def liveCountsAgree (s : State) : Prop :=
  Table.wf .fresh s.dlv.records = true ∧
  ∀ n, (s.sub n).live = (s.liveDeliveries.filter (fun d => d.subscriber = n)).length ∧ (s.sub n).live ≤ 32 ∧
    ((s.sub n).service = .unassigned → (s.sub n).live = 0)

/-- A body is in use exactly when its reference count is above 0, and the count is the number of live deliveries that carry the
body (R63, R66). -/
def bodiesAgree (s : State) : Prop :=
  Table.wf .fresh s.dlv.records = true ∧
  ∀ n, (s.body n).refs = (s.liveDeliveries.filter (fun d => d.body = n)).length ∧
    ((s.body n).inUse = true ↔ 0 < (s.body n).refs)

/-- A live delivery stands in a calendar list exactly when it is QUEUED or RETRY WAIT, once, and in the list of its due
serial's frame number alone (R74). -/
def calendarAgrees (s : State) : Prop :=
  ∀ k, (s.calList k).Nodup ∧
    ∀ n, n ∈ s.calList k ↔ ∃ d, s.live n = some d ∧ d.state.waiting = true ∧ frameNumber d.due = k

/-- In every image the address words and the padded message field fit the data capacity (R127); page words are at least 2
(R36). -/
def imagesFit (s : State) : Prop :=
  (∀ n d, s.live n = some d → 2 ≤ d.words) ∧
  ∀ g i, (s.images g).next = some i ∨ (s.images g).current = some i → i.used ≤ i.capacity

/-- Settings lie in their ranges and every plan fills its frame (R102, R108, R111). -/
def plansInRange (s : State) : Prop :=
  (∀ z, (s.zone z).settings.inRange ∧ (s.zone z).pending.inRange) ∧
  (∀ g, (s.group g).settings.inRange ∧ (s.group g).pending.inRange) ∧
  ∀ g p, (s.group g).next = some p ∨ (s.group g).current = some p → p.fillsFrame

/-- No zone stands in the plans of two groups for one frame (R110). -/
def plansDisjoint (s : State) : Prop :=
  ∀ g < 4, ∀ h < 4, g ≠ h → ∀ p q : Plan,
    ((s.group g).next = some p → (s.group h).next = some q → p.members &&& q.members = 0) ∧
    ((s.group g).current = some p → (s.group h).current = some q → p.members &&& q.members = 0)

/-- The usage records held carry consecutive sequence numbers, the newest just below the next one (R169). -/
def journalConsecutive (s : State) : Prop :=
  ∀ i u, s.jnl.records[i]? = some u → u.sequence = s.jnl.sequence - BitVec.ofNat 32 (s.jnl.records.length - i)

end State

end Machine

end Sys2Proof
end

