-- ==== Sys2Proof/Certificates/Slice0/Obligations.lean ====
section
/-! DEFINITION. The statements for the provers, each formalising what the rules of spec/ say of a command or of the part. -/

open Sys2Proof Sys2Proof.Machine

/-! ### The step and the control link (chapter 10) -/

/-- The command at the front of the queue runs on the state with the queue's rest (log 10). -/
def Obligations.StepRunsFrontCommand : Prop :=
  ∀ (c : Instr) (s : State) (rest : List Instr), s.pending = c :: rest → step s = exec c (s.withPending rest)

/-- Every ready request leaves the request queue and is answered with its own kind and tag; a status other than OK comes with
no flag, no data and no change outside the link (R185, R186). That the idle line chooses at the end of the command is the
model's reading (log 7). -/
def Obligations.ReadyRequestIsAnswered : Prop :=
  ∀ (c : Instr) (r : LinkRecord) (s : State), c.record = some r → s.ready r →
    ∃ (u : State) (a : Answer),
      exec c s = .next (u.answered r a) ∧ u.lnk.requests = s.lnk.requests.drop 1 ∧ u.lnk.replies = s.lnk.replies ∧
      u.lnk.sending = s.lnk.sending ∧ u.pending = s.pending ∧
      (a.status ≠ .ok → u = s.taken ∧ a = .refuse a.status)

/-- A request command whose record cannot be taken for execution is its arrival on the line: the characters of the record
come in one by one, each as an INBOUND_BYTE in whatever state the receiver is, and the record is executed at the end if it
can be taken then (R181, R184, R185; log 1). In LINK ERROR the characters are discarded, and a line that is busy or has
nothing to send (the invariant of StepKeepsQueuesAndLine) stands. In HUNT the record is offered: it
joins the tail, is executed at once in an empty queue, or is refused with OVERFLOW by a full one. -/
def Obligations.RequestWaitsForItsTurn : Prop :=
  ∀ (c : Instr) (r : LinkRecord) (s : State), c.record = some r → ¬s.ready r →
    (∃ u : State,
      Host.Core.run Sys2Proof.core r.bytes.length (s.withPending (r.bytes.map Instr.inboundByte)) =
        Host.Outcome.next (u.withPending []) ∧ u.pending = s.pending ∧
      (u.ready r → exec c s = exec c u) ∧ (¬u.ready r → exec c s = .next u)) ∧
    (s.lnk.receiver = .linkError → s.lnk.lineBusy → exec c s = .next s) ∧
    (s.lnk.receiver = .hunt → s.lnk.assembling = [] → s.lnk.lineBusy → r.payload.length ≤ 1022 →
      (s.lnk.requests = [] → s.lnk.replies.length < 16 →
        exec c s = exec c (s.withLnk { s.lnk with requests := [r], requestsTaken := s.lnk.requestsTaken + 1 })) ∧
      (s.lnk.requests.length < 8 → s.lnk.requests ≠ [] ∨ 16 ≤ s.lnk.replies.length →
        exec c s = .next (s.withLnk { s.lnk with requests := s.lnk.requests ++ [r],
                                                 requestsTaken := s.lnk.requestsTaken + 1 })) ∧
      (8 ≤ s.lnk.requests.length → s.lnk.replies.length < 16 →
        exec c s = .next (s.withLnk { s.lnk with
          overflows := min (s.lnk.overflows + 1) 65535,
          replies := s.lnk.replies ++ [{ kind := 0x80, tag := r.tag, payload := [r.kind, 19, 0] }] }).lineChoice) ∧
      (8 ≤ s.lnk.requests.length → 16 ≤ s.lnk.replies.length →
        exec c s = .next (s.withLnk { s.lnk with
          overflows := min (s.lnk.overflows + 1) 65535,
          lostAnswers := min (s.lnk.lostAnswers + 1) 65535 })))

/-- The bytes of any record that fits its frame, fed from HUNT one by one, offer that record to the request queue and leave
the receiver in HUNT (R180, R181, R184). -/
def Obligations.FramedRecordIsOffered : Prop :=
  ∀ (s : State) (r : LinkRecord), s.lnk.receiver = .hunt → s.lnk.assembling = [] → s.pending = [] →
    r.payload.length ≤ 1022 →
    Host.Core.run Sys2Proof.core r.bytes.length (s.withPending (r.bytes.map Instr.inboundByte)) =
      Host.Outcome.next (s.lineChoice.withLnk (s.lineChoice.lnk.offer r)).lineChoice

/-- Where no test of R181 ends the record, each byte is dealt with by the receiver's table. -/
def Obligations.ReceiverFollowsItsTable : Prop :=
  ∀ (s : State) (b : Byte),
    (s.lnk.receiver = .hunt → b = 0xA5 →
      exec (.inboundByte b) s = .next (s.withLnk { s.lnk with receiver := .receiving, assembling := [b] }).lineChoice) ∧
    (s.lnk.receiver = .hunt → b ≠ 0xA5 → exec (.inboundByte b) s = .next s.lineChoice) ∧
    (s.lnk.receiver = .linkError →
      exec (.inboundByte b) s = .next s.lineChoice ∧ exec .framingError s = .next s.lineChoice) ∧
    (s.lnk.receiver = .receiving →
      (s.lnk.assembling.length < 2 ∨
        (s.lnk.assembling.length = 2 ∧ 2 ≤ get2 (s.lnk.assembling ++ [b]) 1 ∧ get2 (s.lnk.assembling ++ [b]) 1 ≤ 1024) ∨
        (3 ≤ s.lnk.assembling.length ∧ s.lnk.assembling.length + 1 ≠ get2 s.lnk.assembling 1 + 4)) →
      exec (.inboundByte b) s = .next (s.withLnk { s.lnk with assembling := s.lnk.assembling ++ [b] }).lineChoice)

/-- The entry to LINK ERROR: from a framing error, a bad length and a bad check the record is discarded, the signature
replaced, the error counted and a LINK NOTICE raised (R182). -/
def Obligations.LinkErrorEntry : Prop :=
  ∀ (s : State) (c : Instr) (g : Signature),
    g.serial = s.clk.serial →
    ((c = .framingError ∧ s.lnk.receiver = .hunt ∧ g.cause = .framing ∧ g.taken = .hunt ∧ g.count = 0 ∧ g.length = 0 ∧
        g.kind = 0 ∧ g.tag = 0) ∨
      (c = .framingError ∧ s.lnk.receiver = .receiving ∧ g.cause = .framing ∧ g.taken = .receiving ∧
        g.count = s.lnk.assembling.length ∧
        g.length = (if 3 ≤ s.lnk.assembling.length then get2 s.lnk.assembling 1 else 0) ∧
        g.kind = s.lnk.assembling.getD 3 0 ∧ g.tag = s.lnk.assembling.getD 4 0) ∨
      (∃ high low : Byte, s.lnk.receiver = .receiving ∧ s.lnk.assembling = [0xA5, high] ∧ c = .inboundByte low ∧
        (high.toNat * 256 + low.toNat < 2 ∨ 1024 < high.toNat * 256 + low.toNat) ∧ g.cause = .badLength ∧
        g.taken = .receiving ∧ g.count = 3 ∧ g.length = high.toNat * 256 + low.toNat ∧ g.kind = 0 ∧ g.tag = 0) ∨
      (∃ check : Byte, s.lnk.receiver = .receiving ∧ c = .inboundByte check ∧ 5 ≤ s.lnk.assembling.length ∧
        s.lnk.assembling.length + 1 = get2 s.lnk.assembling 1 + 4 ∧
        (byteSum (s.lnk.assembling.drop 1) + check.toNat) % 256 ≠ 0 ∧ g.cause = .badCheck ∧ g.taken = .receiving ∧
        g.count = s.lnk.assembling.length + 1 ∧ g.length = get2 s.lnk.assembling 1 ∧
        g.kind = s.lnk.assembling.getD 3 0 ∧ g.tag = s.lnk.assembling.getD 4 0)) →
    exec c s = .next
      ((s.withLnk { s.lnk with receiver := .linkError, assembling := [], signature := some g,
                               linkErrors := min (s.lnk.linkErrors + 1) 65535 }).notice 0x85
        (g.bytes ++ num2 (min (s.lnk.linkErrors + 1) 65535))).lineChoice

/-- A BREAK returns the receiver to HUNT and discards a partial record; queues, signature, counters and the line stand, the
next 0xA5 starts a record, and in HUNT nothing changes (R183). -/
def Obligations.BreakReturnsToHunt : Prop :=
  ∀ s : State, s.lnk.lineBusy →
    exec .breakLine s = .next (s.withLnk { s.lnk with receiver := .hunt, assembling := [] }) ∧
    (s.lnk.receiver = .hunt → s.lnk.assembling = [] → exec .breakLine s = .next s) ∧
    (∀ t, exec .breakLine s = .next t →
      exec (.inboundByte 0xA5) t = .next (s.withLnk { s.lnk with receiver := .receiving, assembling := [0xA5] }))

/-- When the line finishes a record it sends the oldest reply, else the oldest notice, else it idles (R187). That the line
chooses at the end of each command is the model's reading (log 7). -/
def Obligations.LineSendsRepliesFirst : Prop :=
  ∀ s : State,
    (∀ r rest, s.lnk.replies = r :: rest →
      exec .recordTransmissionEnd s = .next (s.withLnk { s.lnk with sending := some r.bytes, replies := rest })) ∧
    (∀ r rest, s.lnk.replies = [] → s.lnk.notices = r :: rest →
      exec .recordTransmissionEnd s = .next (s.withLnk { s.lnk with sending := some r.bytes, notices := rest })) ∧
    (s.lnk.replies = [] → s.lnk.notices = [] →
      exec .recordTransmissionEnd s = .next (s.withLnk { s.lnk with sending := none }))

/-- QUERY LINK reports the link and clears the signature and two counts, and nothing else, and is refused when malformed
(R189); a record of an unknown kind is taken and answered BAD REQUEST (R185). The layout of the reply is the model's reading
where the rules leave it open (logs 14, 23). -/
def Obligations.LinkServesItsOwnRequests : Prop :=
  (∀ (s : State) (tag : Byte), s.ready { kind := 0x7E, tag := tag, payload := [] } →
    exec (.queryLink tag []) s =
      .next ((s.taken.withLnk { s.taken.lnk with signature := none, linkErrors := 0, droppedNotices := 0 }).answered
        { kind := 0x7E, tag := tag, payload := [] } (.accept s.taken.lnk.bytes))) ∧
  (∀ (s : State) (tag : Byte) (p : List Byte), s.ready { kind := 0x7E, tag := tag, payload := p } → p.length ≠ 0 →
    Refuses (.queryLink tag p) s { kind := 0x7E, tag := tag, payload := p } .badRequest) ∧
  (∀ (s : State) (kind tag : Byte) (payload : List Byte), kind ∉ requestKinds →
    s.ready { kind := kind, tag := tag, payload := payload } →
    Refuses (.unknownKindRequest kind tag payload) s { kind := kind, tag := tag, payload := payload } .badRequest)

/-- FULL RESET returns every block but the link to its power-on values after its OK reply; POWER ON returns the link too and
samples the rate (R190, R191, and the reset rule of each chapter), and every delivery record then holds the free values of
R69 (R89; log 20). The ZA inputs keep their levels (log 6), and a port that offers no word holds none (log 8). A malformed
FULL RESET resets nothing (R190). -/
def Obligations.ResetsReturnPowerOnValues : Prop :=
  ∀ s : State,
    (∀ tag, s.ready { kind := 0x7F, tag := tag, payload := [] } →
      ∃ t : State, exec (.fullReset tag []) s = .next t ∧ t.dir = State.reset.dir ∧ t.act = State.reset.act ∧
        t.txt = State.reset.txt ∧ t.dlv = State.reset.dlv ∧ t.clk = State.reset.clk ∧ t.bld = State.reset.bld ∧
        t.rcp = State.reset.rcp ∧ t.jnl = State.reset.jnl ∧ (∀ g, t.group g = .powerOn) ∧
        (∀ z < 8, t.zone z = .powerOn (s.zone z).input) ∧ (∀ n, t.fields n = .free ∧ (t.record n).issue = 0) ∧
        t.pending = s.pending ∧ t.lnk = s.lnk.answered { kind := 0x7F, tag := tag, payload := [] } (.accept [])) ∧
    (∀ rate, ∃ t : State, exec (.powerOn rate) s = .next t ∧ t.dir = State.reset.dir ∧ t.act = State.reset.act ∧
        t.txt = State.reset.txt ∧ t.dlv = State.reset.dlv ∧ t.clk = State.reset.clk ∧ t.bld = State.reset.bld ∧
        t.rcp = State.reset.rcp ∧ t.jnl = State.reset.jnl ∧ (∀ g, t.group g = .powerOn) ∧
        (∀ z < 8, t.zone z = .powerOn (s.zone z).input) ∧ (∀ n, t.fields n = .free ∧ (t.record n).issue = 0) ∧
        t.pending = s.pending ∧ t.lnk = .powerOn rate) ∧
    (∀ tag p, s.ready { kind := 0x7F, tag := tag, payload := p } → p.length ≠ 0 →
      Refuses (.fullReset tag p) s { kind := 0x7F, tag := tag, payload := p } .badRequest)

/-! ### Unit directory (chapter 1) -/

/-- ASSIGN SUBSCRIBER writes the record, the map entry and the link count, and nothing else (R8); RELEASE takes a record with
no live delivery out of use again (R12). Each refuses with the status of the first check that fails. -/
def Obligations.AssignAndReleaseMoveRecordInAndOutOfUse : Prop :=
  (∀ (s : State) (tag : Byte) (n : Nat) (u : Subscriber), n < 8192 →
    u.service = .active → u.address ≠ 0 → intervalDefined u.interval = true → u.home ≠ 0 →
    groupSubset u.home u.coverage = true → u.account < 2048 → u.trim < 256 → u.live = 0 → u.heard = none →
    u.checkIns = 0 → u.receipts = 0 →
    (s.sub n).service = .unassigned → (s.acct u.account).state = .opened → s.lookup u.address = none →
    s.ready { kind := 0x10, tag := tag, payload := Payload.assign n u } →
    ∃ t : State, exec (.assignSubscriber tag (Payload.assign n u)) s = .next t ∧
      t = ((s.withDir t.dir).withAct { s.act with accounts := t.act.accounts }).withLnk t.lnk ∧
      t.lnk = s.lnk.answered { kind := 0x10, tag := tag, payload := Payload.assign n u } (.accept []) ∧
      (∀ m, t.sub m = if m = n then u else s.sub m) ∧
      (∀ a, t.lookup a = if a = u.address then some n else s.lookup a) ∧
      (∀ k, t.acct k = if k = u.account then { s.acct k with links := (s.acct k).links + 1 } else s.acct k)) ∧
  (∀ (s : State) (tag : Byte) (n : Nat), n < 8192 → (s.sub n).inUse = true → (s.sub n).live = 0 →
    s.ready { kind := 0x14, tag := tag, payload := num2 n } →
    ∃ t : State, exec (.release tag (num2 n)) s = .next t ∧
      t = ((s.withDir t.dir).withAct { s.act with accounts := t.act.accounts }).withLnk t.lnk ∧
      t.lnk = s.lnk.answered { kind := 0x14, tag := tag, payload := num2 n } (.accept []) ∧
      (∀ m, t.sub m = if m = n then .unassigned else s.sub m) ∧
      (∀ a, t.lookup a = if a = (s.sub n).address then none else s.lookup a) ∧
      (∀ k, t.acct k =
        if k = (s.sub n).account then { s.acct k with links := (s.acct k).links - 1 } else s.acct k)) ∧
  (∀ (s : State) (tag : Byte) (p : List Byte) (st : Status),
    (s.ready { kind := 0x10, tag := tag, payload := p } →
      firstFailing [
        (p.length ≠ 11, .badRequest),
        (8192 ≤ get2 p 0, .noSuch),
        (decide (get2 p 2 = 0) || 4 ≤ get1 p 4 || !intervalDefined (get1 p 5) || 16 ≤ get1 p 6 || decide (get1 p 6 = 0) ||
          16 ≤ get1 p 7 || !groupSubset (BitVec.ofNat 4 (get1 p 6)) (BitVec.ofNat 4 (get1 p 7)), .outOfRange),
        ((s.sub (get2 p 0)).inUse, .wrongState),
        (2048 ≤ get2 p 8 || decide ((s.acct (get2 p 8)).state = .closed), .noSuch),
        (decide ((s.acct (get2 p 8)).state = .locked), .wrongState),
        ((s.lookup (BitVec.ofNat 16 (get2 p 2))).isSome, .duplicateAddress) ] = some st →
      Refuses (.assignSubscriber tag p) s { kind := 0x10, tag := tag, payload := p } st) ∧
    (s.ready { kind := 0x14, tag := tag, payload := p } →
      firstFailing [
        (p.length ≠ 2, .badRequest),
        (8192 ≤ get2 p 0, .noSuch),
        (!(s.sub (get2 p 0)).inUse, .wrongState),
        (0 < (s.sub (get2 p 0)).live, .busy) ] = some st →
      Refuses (.release tag p) s { kind := 0x14, tag := tag, payload := p } st))

/-- MODIFY SUBSCRIBER writes the settings its selection names, re-keys the map and moves the link count (R9, R10), or
refuses with the status of the first check that fails (R9). -/
def Obligations.ModifyWritesNamedSettings : Prop :=
  (∀ (s : State) (tag : Byte) (n : Nat) (selection : Byte) (v new : Subscriber), n < 8192 →
    v.interval < 256 → v.account < 65536 → v.trim < 256 →
    new = { s.sub n with
      address := if selection.getLsbD 0 then v.address else (s.sub n).address,
      pager := if selection.getLsbD 1 then v.pager else (s.sub n).pager,
      interval := if selection.getLsbD 2 then v.interval else (s.sub n).interval,
      home := if selection.getLsbD 3 then v.home else (s.sub n).home,
      coverage := if selection.getLsbD 4 then v.coverage else (s.sub n).coverage,
      account := if selection.getLsbD 5 then v.account else (s.sub n).account,
      trim := if selection.getLsbD 6 then v.trim else (s.sub n).trim } →
    (s.sub n).inUse = true → (selection.getLsbD 0 = true → v.address ≠ 0) →
    (selection.getLsbD 2 = true → intervalDefined v.interval = true) → new.home ≠ 0 →
    groupSubset new.home new.coverage = true →
    (new.address ≠ (s.sub n).address → (s.sub n).live = 0 ∧ s.lookup new.address = none) →
    (new.account ≠ (s.sub n).account → new.account < 2048 ∧ (s.acct new.account).state = .opened) →
    s.ready { kind := 0x11, tag := tag, payload := Payload.modify n selection v } →
    ∃ t : State, exec (.modifySubscriber tag (Payload.modify n selection v)) s = .next t ∧
      t = ((s.withDir t.dir).withAct { s.act with accounts := t.act.accounts }).withLnk t.lnk ∧
      t.lnk = s.lnk.answered { kind := 0x11, tag := tag, payload := Payload.modify n selection v } (.accept []) ∧
      (∀ m, t.sub m =
        if m = n then (if new.address = (s.sub n).address then new else { new with heard := none }) else s.sub m) ∧
      (∀ a, t.lookup a =
        if new.address = (s.sub n).address then s.lookup a
        else if a = new.address then some n else if a = (s.sub n).address then none else s.lookup a) ∧
      (∀ k, t.acct k =
        if new.account = (s.sub n).account then s.acct k
        else if k = new.account then { s.acct k with links := (s.acct k).links + 1 }
        else if k = (s.sub n).account then { s.acct k with links := (s.acct k).links - 1 } else s.acct k)) ∧
  (∀ (s : State) (tag selection : Byte) (p : List Byte) (u : Subscriber) (address : Word) (home coverage : GroupSet)
    (account : Nat) (st : Status),
    selection = p.getD 2 0 → u = s.sub (get2 p 0) →
    address = (if selection.getLsbD 0 then BitVec.ofNat 16 (get2 p 3) else u.address) →
    home = (if selection.getLsbD 3 then BitVec.ofNat 4 (get1 p 7) else u.home) →
    coverage = (if selection.getLsbD 4 then BitVec.ofNat 4 (get1 p 8) else u.coverage) →
    account = (if selection.getLsbD 5 then get2 p 9 else u.account) →
    s.ready { kind := 0x11, tag := tag, payload := p } →
    firstFailing [
      (p.length ≠ 12, .badRequest),
      (8192 ≤ get2 p 0, .noSuch),
      ((selection.getLsbD 0 && decide (get2 p 3 = 0)) || (selection.getLsbD 1 && 4 ≤ get1 p 5) ||
        (selection.getLsbD 2 && !intervalDefined (get1 p 6)) || (selection.getLsbD 3 && 16 ≤ get1 p 7) ||
        (selection.getLsbD 4 && 16 ≤ get1 p 8) || decide (home = 0) || !groupSubset home coverage, .outOfRange),
      (!u.inUse, .wrongState),
      (decide (address ≠ u.address) && 0 < u.live, .busy),
      (decide (address ≠ u.address) && (s.lookup address).isSome, .duplicateAddress),
      (decide (account ≠ u.account) && (2048 ≤ account || decide ((s.acct account).state = .closed)), .noSuch),
      (decide (account ≠ u.account) && decide ((s.acct account).state = .locked), .wrongState) ] = some st →
    Refuses (.modifySubscriber tag p) s { kind := 0x11, tag := tag, payload := p } st)

/-- SUSPEND and RESUME: the one move each, with every refusal (R11);
that a payload's length is judged before the number in it is the model's choice (log 28). -/
def Obligations.SuspendAndResumeMoveService : Prop :=
  ∀ (s : State) (tag : Byte) (p : List Byte),
    (s.ready { kind := 0x12, tag := tag, payload := p } →
      (p.length ≠ 2 → Refuses (.suspend tag p) s { kind := 0x12, tag := tag, payload := p } .badRequest) ∧
      (p.length = 2 → 8192 ≤ get2 p 0 →
        Refuses (.suspend tag p) s { kind := 0x12, tag := tag, payload := p } .noSuch) ∧
      (p.length = 2 → get2 p 0 < 8192 → (s.sub (get2 p 0)).service ≠ .active →
        Refuses (.suspend tag p) s { kind := 0x12, tag := tag, payload := p } .wrongState) ∧
      (p.length = 2 → get2 p 0 < 8192 → (s.sub (get2 p 0)).service = .active →
        ∃ t : State, exec (.suspend tag p) s = .next t ∧
          t = (s.withDir { s.dir with subs := t.dir.subs }).withLnk t.lnk ∧
          t.lnk = s.lnk.answered { kind := 0x12, tag := tag, payload := p } (.accept []) ∧
          ∀ m, t.sub m = if m = get2 p 0 then { s.sub m with service := .suspended } else s.sub m)) ∧
    (s.ready { kind := 0x13, tag := tag, payload := p } →
      (p.length ≠ 2 → Refuses (.resume tag p) s { kind := 0x13, tag := tag, payload := p } .badRequest) ∧
      (p.length = 2 → 8192 ≤ get2 p 0 →
        Refuses (.resume tag p) s { kind := 0x13, tag := tag, payload := p } .noSuch) ∧
      (p.length = 2 → get2 p 0 < 8192 → (s.sub (get2 p 0)).service ≠ .suspended →
        Refuses (.resume tag p) s { kind := 0x13, tag := tag, payload := p } .wrongState) ∧
      (p.length = 2 → get2 p 0 < 8192 → (s.sub (get2 p 0)).service = .suspended →
        ∃ t : State, exec (.resume tag p) s = .next t ∧
          t = (s.withDir { s.dir with subs := t.dir.subs }).withLnk t.lnk ∧
          t.lnk = s.lnk.answered { kind := 0x13, tag := tag, payload := p } (.accept []) ∧
          ∀ m, t.sub m = if m = get2 p 0 then { s.sub m with service := .active } else s.sub m))

/-- The next eligible serial is the first one at or after the start in which the unit is awake (R7). -/
def Obligations.NextEligibleIsFirstEligible : Prop :=
  ∀ (u : Subscriber) (x : Serial), intervalDefined u.interval = true →
    u.nextEligible x = x + BitVec.ofInt 32
      ((((u.address.toNat % 64 % u.interval : Nat) : Int) - (x.toNat % u.interval : Nat)) % (u.interval : Int)) ∧
    u.eligible (u.nextEligible x) = true ∧
    (u.eligible x = true → u.nextEligible x = x) ∧
    (u.nextEligible x - x).toNat < u.interval ∧
    ∀ k, k < (u.nextEligible x - x).toNat → u.eligible (x + BitVec.ofNat 32 k) = false

/-! ### Accounts, tariffs and charges (chapter 2) -/

/-- OPEN ACCOUNT brings a CLOSED account into use with its credit limit clamped (R23); ADJUST ACCOUNT adds exactly and
saturates at the ends of the balance range (R24); SET CREDIT and SET TARIFF CLASS write the one field (R25, R26).
Each refuses with the status of the first check that fails;
that SET TARIFF CLASS judges its class before the account's state is the model's choice (log 28). -/
def Obligations.AccountRequestsWriteTheirFields : Prop :=
  (∀ (s : State) (tag : Byte) (n tariff credit : Nat) (balance : Int), n < 2048 → tariff < 8 →
    -8388608 ≤ balance → balance ≤ 8388607 → credit < 2 ^ 32 → (s.acct n).state = .closed →
    s.ready { kind := 0x20, tag := tag, payload := Payload.openAccount n tariff balance credit } →
    ∃ t : State, exec (.openAccount tag (Payload.openAccount n tariff balance credit)) s = .next t ∧
      t = (s.withAct { s.act with accounts := t.act.accounts }).withLnk t.lnk ∧
      t.lnk = s.lnk.answered { kind := 0x20, tag := tag, payload := Payload.openAccount n tariff balance credit }
        { status := .ok, clamped := 8388607 < credit, saturated := false,
          data := int4 (balance + (min credit 8388607 : Nat) - ((s.acct n).reserved : Nat)) } ∧
      ∀ k, t.acct k =
        if k = n then
          { state := .opened, tariff := tariff, balance := balance, credit := min credit 8388607,
            reserved := (s.acct n).reserved, links := (s.acct n).links, settled := 0, charged := 0 }
        else s.acct k) ∧
  (∀ (s : State) (tag : Byte) (n : Nat) (amount sum balance : Int), n < 2048 →
    -2147483648 ≤ amount → amount ≤ 2147483647 → (s.acct n).state ≠ .closed →
    sum = (s.acct n).balance + amount →
    balance = (if 8388607 < sum then 8388607 else if sum < -8388608 then -8388608 else sum) →
    s.ready { kind := 0x21, tag := tag, payload := num2 n ++ int4 amount } →
    ∃ t : State, exec (.adjustAccount tag (num2 n ++ int4 amount)) s = .next t ∧
      t = (s.withAct { s.act with accounts := t.act.accounts }).withLnk t.lnk ∧
      t.lnk = s.lnk.answered { kind := 0x21, tag := tag, payload := num2 n ++ int4 amount }
        { status := .ok, clamped := false, saturated := 8388607 < sum || sum < -8388608,
          data := int4 balance ++ int4 (balance + (s.acct n).credit - (s.acct n).reserved) } ∧
      ∀ k, t.acct k = if k = n then { s.acct n with balance := balance } else s.acct k) ∧
  (∀ (s : State) (tag : Byte) (n : Nat), n < 2048 → (s.acct n).state ≠ .closed →
    (∀ credit, credit < 2 ^ 32 → s.ready { kind := 0x22, tag := tag, payload := num2 n ++ num4 credit } →
      ∃ t : State, exec (.setCredit tag (num2 n ++ num4 credit)) s = .next t ∧
        t = (s.withAct { s.act with accounts := t.act.accounts }).withLnk t.lnk ∧
        t.lnk = s.lnk.answered { kind := 0x22, tag := tag, payload := num2 n ++ num4 credit }
          { status := .ok, clamped := 8388607 < credit, saturated := false,
            data := int4 ((s.acct n).balance + (min credit 8388607 : Nat) - ((s.acct n).reserved : Nat)) } ∧
        ∀ k, t.acct k = if k = n then { s.acct n with credit := min credit 8388607 } else s.acct k) ∧
    (∀ tariff, tariff < 8 → s.ready { kind := 0x23, tag := tag, payload := num2 n ++ num1 tariff } →
      ∃ t : State, exec (.setTariffClass tag (num2 n ++ num1 tariff)) s = .next t ∧
        t = (s.withAct { s.act with accounts := t.act.accounts }).withLnk t.lnk ∧
        t.lnk = s.lnk.answered { kind := 0x23, tag := tag, payload := num2 n ++ num1 tariff } (.accept []) ∧
        ∀ k, t.acct k = if k = n then { s.acct n with tariff := tariff } else s.acct k)) ∧
  (∀ (s : State) (tag : Byte) (p : List Byte) (st : Status),
    (s.ready { kind := 0x20, tag := tag, payload := p } →
      firstFailing [
        (p.length ≠ 11, .badRequest),
        (2048 ≤ get2 p 0, .noSuch),
        (8 ≤ get1 p 2 || decide (getInt p 3 < -8388608) || decide (8388607 < getInt p 3), .outOfRange),
        (decide ((s.acct (get2 p 0)).state ≠ .closed), .wrongState) ] = some st →
      Refuses (.openAccount tag p) s { kind := 0x20, tag := tag, payload := p } st) ∧
    (s.ready { kind := 0x21, tag := tag, payload := p } →
      firstFailing [
        (p.length ≠ 6, .badRequest),
        (2048 ≤ get2 p 0, .noSuch),
        (decide ((s.acct (get2 p 0)).state = .closed), .wrongState) ] = some st →
      Refuses (.adjustAccount tag p) s { kind := 0x21, tag := tag, payload := p } st) ∧
    (s.ready { kind := 0x22, tag := tag, payload := p } →
      firstFailing [
        (p.length ≠ 6, .badRequest),
        (2048 ≤ get2 p 0, .noSuch),
        (decide ((s.acct (get2 p 0)).state = .closed), .wrongState) ] = some st →
      Refuses (.setCredit tag p) s { kind := 0x22, tag := tag, payload := p } st) ∧
    (s.ready { kind := 0x23, tag := tag, payload := p } →
      firstFailing [
        (p.length ≠ 3, .badRequest),
        (2048 ≤ get2 p 0, .noSuch),
        (8 ≤ get1 p 2, .outOfRange),
        (decide ((s.acct (get2 p 0)).state = .closed), .wrongState) ] = some st →
      Refuses (.setTariffClass tag p) s { kind := 0x23, tag := tag, payload := p } st))

/-- LOCK and UNLOCK: the one move each, with every refusal (R27). -/
def Obligations.LockAndUnlockMoveState : Prop :=
  ∀ (s : State) (tag : Byte) (p : List Byte),
    (s.ready { kind := 0x24, tag := tag, payload := p } →
      (p.length ≠ 2 → Refuses (.lock tag p) s { kind := 0x24, tag := tag, payload := p } .badRequest) ∧
      (p.length = 2 → 2048 ≤ get2 p 0 →
        Refuses (.lock tag p) s { kind := 0x24, tag := tag, payload := p } .noSuch) ∧
      (p.length = 2 → get2 p 0 < 2048 → (s.acct (get2 p 0)).state ≠ .opened →
        Refuses (.lock tag p) s { kind := 0x24, tag := tag, payload := p } .wrongState) ∧
      (p.length = 2 → get2 p 0 < 2048 → (s.acct (get2 p 0)).state = .opened →
        ∃ t : State, exec (.lock tag p) s = .next t ∧
          t = (s.withAct { s.act with accounts := t.act.accounts }).withLnk t.lnk ∧
          t.lnk = s.lnk.answered { kind := 0x24, tag := tag, payload := p } (.accept []) ∧
          ∀ k, t.acct k = if k = get2 p 0 then { s.acct k with state := .locked } else s.acct k)) ∧
    (s.ready { kind := 0x25, tag := tag, payload := p } →
      (p.length ≠ 2 → Refuses (.unlock tag p) s { kind := 0x25, tag := tag, payload := p } .badRequest) ∧
      (p.length = 2 → 2048 ≤ get2 p 0 →
        Refuses (.unlock tag p) s { kind := 0x25, tag := tag, payload := p } .noSuch) ∧
      (p.length = 2 → get2 p 0 < 2048 → (s.acct (get2 p 0)).state ≠ .locked →
        Refuses (.unlock tag p) s { kind := 0x25, tag := tag, payload := p } .wrongState) ∧
      (p.length = 2 → get2 p 0 < 2048 → (s.acct (get2 p 0)).state = .locked →
        ∃ t : State, exec (.unlock tag p) s = .next t ∧
          t = (s.withAct { s.act with accounts := t.act.accounts }).withLnk t.lnk ∧
          t.lnk = s.lnk.answered { kind := 0x25, tag := tag, payload := p } (.accept []) ∧
          ∀ k, t.acct k = if k = get2 p 0 then { s.acct k with state := .opened } else s.acct k))

/-- CLOSE reports the final values and takes the account out of use, when nothing links to it or is held on it; every
refusal (R28). -/
def Obligations.CloseReportsAndClears : Prop :=
  (∀ (s : State) (tag : Byte) (n : Nat), n < 2048 → (s.acct n).state ≠ .closed →
    s.ready { kind := 0x26, tag := tag, payload := num2 n } →
    (0 < (s.acct n).links ∨ 0 < (s.acct n).reserved →
      Refuses (.close tag (num2 n)) s { kind := 0x26, tag := tag, payload := num2 n } .busy) ∧
    ((s.acct n).links = 0 → (s.acct n).reserved = 0 →
      ∃ t : State, exec (.close tag (num2 n)) s = .next t ∧
        t = (s.withAct { s.act with accounts := t.act.accounts }).withLnk t.lnk ∧
        t.lnk = s.lnk.answered { kind := 0x26, tag := tag, payload := num2 n }
          (.accept (int4 (s.acct n).balance ++ num4 (s.acct n).credit ++ num4 (s.acct n).settled ++
            num4 (s.acct n).charged)) ∧
        ∀ k, t.acct k = if k = n then .closed else s.acct k)) ∧
  (∀ (s : State) (tag : Byte) (p : List Byte) (st : Status), s.ready { kind := 0x26, tag := tag, payload := p } →
    firstFailing [
      (p.length ≠ 2, .badRequest),
      (2048 ≤ get2 p 0, .noSuch),
      (decide ((s.acct (get2 p 0)).state = .closed), .wrongState),
      (0 < (s.acct (get2 p 0)).links || 0 < (s.acct (get2 p 0)).reserved, .busy) ] = some st →
    Refuses (.close tag p) s { kind := 0x26, tag := tag, payload := p } st)

/-- LOAD TARIFF replaces one whole entry, or none of it; every refusal (R32). -/
def Obligations.LoadTariffReplacesWholeEntry : Prop :=
  (∀ (s : State) (tag : Byte) (k : Nat) (e : Tariff), k < 256 →
    e.base < 65536 → e.perWord < 65536 → e.f1 < 256 → e.f2 < 256 → e.f3 < 256 → e.f4 < 256 → e.urgent < 256 →
    e.low < 256 → e.minimum < 65536 → e.expiry < 65536 →
    s.ready { kind := 0x28, tag := tag, payload := num1 k ++ e.bytes } →
    (8 ≤ k ∨ ¬(e.base ≤ 4095 ∧ e.perWord ≤ 4095 ∧ 16 ≤ e.f1 ∧ e.f1 ≤ e.f2 ∧ e.f2 ≤ e.f3 ∧ e.f3 ≤ e.f4 ∧ e.f4 ≤ 64 ∧
        8 ≤ e.urgent ∧ e.urgent ≤ 32 ∧ 4 ≤ e.low ∧ e.low ≤ 8 ∧ e.minimum ≤ 4095 ∧ e.expiry ≤ 4095) →
      Refuses (.loadTariff tag (num1 k ++ e.bytes)) s { kind := 0x28, tag := tag, payload := num1 k ++ e.bytes }
        .outOfRange) ∧
    (k < 8 → e.inRange = true →
      ∃ t : State, exec (.loadTariff tag (num1 k ++ e.bytes)) s = .next t ∧
        t = (s.withAct { s.act with tariffs := t.act.tariffs }).withLnk t.lnk ∧
        t.lnk = s.lnk.answered { kind := 0x28, tag := tag, payload := num1 k ++ e.bytes } (.accept []) ∧
        ∀ j, t.tariff j = if j = k then e else s.tariff j)) ∧
  (∀ (s : State) (tag : Byte) (p : List Byte), s.ready { kind := 0x28, tag := tag, payload := p } → p.length ≠ 15 →
    Refuses (.loadTariff tag p) s { kind := 0x28, tag := tag, payload := p } .badRequest)

/-- SET PRIORITY PROFILE stores four clamped values together, with every refusal (R35); that the length of its payload
is judged before the priority in it is the model's choice (log 28). -/
def Obligations.SetProfileClampsEachField : Prop :=
  ∀ (s : State) (tag : Byte) (p : List Byte), s.ready { kind := 0x2A, tag := tag, payload := p } →
    (p.length ≠ 5 →
      Refuses (.setPriorityProfile tag p) s { kind := 0x2A, tag := tag, payload := p } .badRequest) ∧
    (p.length = 5 → 3 ≤ get1 p 0 →
      Refuses (.setPriorityProfile tag p) s { kind := 0x2A, tag := tag, payload := p } .outOfRange) ∧
    (∀ (pr : Priority) (f : Profile), p = num1 pr.code ++ f.bytes → f.allowance < 256 → f.repeats < 256 →
      f.base < 256 → f.lifetime < 256 →
      ∀ g : Profile,
        g.allowance = (if f.allowance = 0 then 1 else if 15 < f.allowance then 15 else f.allowance) →
        g.repeats = (if f.repeats = 0 then 1 else if 4 < f.repeats then 4 else f.repeats) →
        g.base = (if f.base = 0 then 1 else if 64 < f.base then 64 else f.base) →
        g.lifetime = (if f.lifetime = 0 then 1 else f.lifetime) →
        ∃ t : State, exec (.setPriorityProfile tag p) s = .next t ∧
          t = (s.withAct t.act).withLnk t.lnk ∧ t.act.accounts = s.act.accounts ∧ t.act.tariffs = s.act.tariffs ∧
          t.lnk = s.lnk.answered { kind := 0x2A, tag := tag, payload := p }
            { status := .ok, clamped := g ≠ f, saturated := false, data := g.bytes } ∧
          ∀ q, t.profile q = if q = pr then g else s.profile q)

/-- The queries other than QUERY LINK answer with what the part holds and change nothing but the link (R13, R29, R33, R67,
R87, R100, R118, R139, R161, R174), or refuse with the status of the first check that fails; the order of the checks of
QUERY SUBSCRIBER, QUERY TARIFF, QUERY PROFILE, QUERY STORE, QUERY DELIVERY, QUERY ZONE, QUERY AIR and QUERY RECEIPTS is the
model's choice (log 28). The layouts of the replies are the
model's readings where the rules leave them open (logs 11 to 16, 23). -/
def Obligations.QueriesReadOnly : Prop :=
  (∀ (s : State) (tag : Byte),
    (∀ n, n < 8192 → s.ready { kind := 0x15, tag := tag, payload := 0 :: num2 n } →
      exec (.querySubscriber tag (0 :: num2 n)) s =
        .next (s.taken.answered { kind := 0x15, tag := tag, payload := 0 :: num2 n }
          (.accept (Subscriber.bytes n (s.sub n))))) ∧
    (∀ (a : Word) n, s.lookup a = some n → s.ready { kind := 0x15, tag := tag, payload := 1 :: num2 a.toNat } →
      exec (.querySubscriber tag (1 :: num2 a.toNat)) s =
        .next (s.taken.answered { kind := 0x15, tag := tag, payload := 1 :: num2 a.toNat }
          (.accept (Subscriber.bytes n (s.sub n))))) ∧
    (∀ n, n < 2048 → s.ready { kind := 0x27, tag := tag, payload := num2 n } →
      exec (.queryAccount tag (num2 n)) s =
        .next (s.taken.answered { kind := 0x27, tag := tag, payload := num2 n }
          (.accept (Account.bytes n (s.acct n))))) ∧
    (∀ k, k < 8 → s.ready { kind := 0x29, tag := tag, payload := num1 k } →
      exec (.queryTariff tag (num1 k)) s =
        .next (s.taken.answered { kind := 0x29, tag := tag, payload := num1 k } (.accept (s.tariff k).bytes))) ∧
    (∀ p : Priority, s.ready { kind := 0x2B, tag := tag, payload := num1 p.code } →
      exec (.queryProfile tag (num1 p.code)) s =
        .next (s.taken.answered { kind := 0x2B, tag := tag, payload := num1 p.code }
          (.accept (s.profile p).bytes)))) ∧
  (∀ (s : State) (tag : Byte),
    (s.ready { kind := 0x32, tag := tag, payload := [0] } →
      exec (.queryStore tag [0]) s = .next (s.taken.answered { kind := 0x32, tag := tag, payload := [0] }
        (.accept (num2 s.bodiesInUse ++ num2 s.blocksInUse ++ num2 (8192 - s.blocksInUse))))) ∧
    (∀ b, b < 6144 → s.ready { kind := 0x32, tag := tag, payload := 1 :: num2 b } →
      exec (.queryStore tag (1 :: num2 b)) s = .next (s.taken.answered { kind := 0x32, tag := tag, payload := 1 :: num2 b }
        (.accept (Body.bytes (s.body b) (s.bodyText b))))) ∧
    (∀ (k : Ticket) d, k.number < 6144 → s.named k = some d →
      s.ready { kind := 0x34, tag := tag, payload := 0 :: ticket3 k } →
      exec (.queryDelivery tag (0 :: ticket3 k)) s =
        .next (s.taken.answered { kind := 0x34, tag := tag, payload := 0 :: ticket3 k } (.accept (d.bytes k)))) ∧
    (s.ready { kind := 0x34, tag := tag, payload := [1] } →
      exec (.queryDelivery tag [1]) s =
        .next (s.taken.answered { kind := 0x34, tag := tag, payload := [1] } (.accept s.deliverySummary))) ∧
    (s.ready { kind := 0x40, tag := tag, payload := [] } →
      exec (.queryClock tag []) s =
        .next (s.taken.answered { kind := 0x40, tag := tag, payload := [] } (.accept s.clk.bytes))) ∧
    (∀ z, z < 8 → s.ready { kind := 0x53, tag := tag, payload := 0 :: num1 z } →
      exec (.queryZone tag (0 :: num1 z)) s = .next (s.taken.answered { kind := 0x53, tag := tag, payload := 0 :: num1 z }
        (.accept (Zone.bytes z (s.zone z) (s.planGroup z))))) ∧
    (∀ g, g < 4 → s.ready { kind := 0x53, tag := tag, payload := 1 :: num1 g } →
      exec (.queryZone tag (1 :: num1 g)) s = .next (s.taken.answered { kind := 0x53, tag := tag, payload := 1 :: num1 g }
        (.accept (s.group g).bytes)))) ∧
  (∀ (s : State) (tag : Byte),
    (s.ready { kind := 0x62, tag := tag, payload := [0] } →
      exec (.queryAir tag [0]) s =
        .next (s.taken.answered { kind := 0x62, tag := tag, payload := [0] } (.accept s.airSummary))) ∧
    (∀ (g : Nat) (first : Byte), g < 4 →
      (s.ready { kind := 0x62, tag := tag, payload := [1, BitVec.ofNat 8 g, 0, first] } →
        exec (.queryAir tag [1, BitVec.ofNat 8 g, 0, first]) s =
          .next (s.taken.answered { kind := 0x62, tag := tag, payload := [1, BitVec.ofNat 8 g, 0, first] }
            (.accept (Image.listing (s.images g).next first.toNat)))) ∧
      (s.ready { kind := 0x62, tag := tag, payload := [1, BitVec.ofNat 8 g, 1, first] } →
        exec (.queryAir tag [1, BitVec.ofNat 8 g, 1, first]) s =
          .next (s.taken.answered { kind := 0x62, tag := tag, payload := [1, BitVec.ofNat 8 g, 1, first] }
            (.accept (Image.listing (s.images g).current first.toNat))))) ∧
    (s.ready { kind := 0x63, tag := tag, payload := [0] } →
      exec (.queryReceipts tag [0]) s =
        .next (s.taken.answered { kind := 0x63, tag := tag, payload := [0] } (.accept s.receiptSummary))) ∧
    (∀ g role, g < 4 → role < 3 →
      s.ready { kind := 0x63, tag := tag, payload := [1, BitVec.ofNat 8 g, BitVec.ofNat 8 role] } →
      exec (.queryReceipts tag [1, BitVec.ofNat 8 g, BitVec.ofNat 8 role]) s =
        .next (s.taken.answered { kind := 0x63, tag := tag, payload := [1, BitVec.ofNat 8 g, BitVec.ofNat 8 role] }
          (.accept (ReceiptMap.bytes (if role = 0 then (s.maps g).building else if role = 1 then (s.maps g).current
            else (s.maps g).previous))))) ∧
    (s.ready { kind := 0x72, tag := tag, payload := [] } →
      exec (.queryJournal tag []) s =
        .next (s.taken.answered { kind := 0x72, tag := tag, payload := [] } (.accept s.jnl.bytes)))) ∧
  (∀ (s : State) (tag : Byte) (p : List Byte) (st : Status),
    (s.ready { kind := 0x15, tag := tag, payload := p } →
      firstFailing [
        (p.length ≠ 3, .badRequest),
        (2 ≤ get1 p 0, .badRequest),
        (decide (get1 p 0 = 0) && 8192 ≤ get2 p 1, .noSuch),
        (decide (get1 p 0 = 1) && (s.lookup (BitVec.ofNat 16 (get2 p 1))).isNone, .noSuch) ] = some st →
      Refuses (.querySubscriber tag p) s { kind := 0x15, tag := tag, payload := p } st) ∧
    (s.ready { kind := 0x27, tag := tag, payload := p } →
      firstFailing [
        (p.length ≠ 2, .badRequest),
        (2048 ≤ get2 p 0, .noSuch) ] = some st →
      Refuses (.queryAccount tag p) s { kind := 0x27, tag := tag, payload := p } st) ∧
    (s.ready { kind := 0x29, tag := tag, payload := p } →
      firstFailing [
        (p.length ≠ 1, .badRequest),
        (8 ≤ get1 p 0, .outOfRange) ] = some st →
      Refuses (.queryTariff tag p) s { kind := 0x29, tag := tag, payload := p } st) ∧
    (s.ready { kind := 0x2B, tag := tag, payload := p } →
      firstFailing [
        (p.length ≠ 1, .badRequest),
        (3 ≤ get1 p 0, .outOfRange) ] = some st →
      Refuses (.queryProfile tag p) s { kind := 0x2B, tag := tag, payload := p } st) ∧
    (s.ready { kind := 0x32, tag := tag, payload := p } →
      firstFailing [
        (2 ≤ get1 p 0 || p.length ≠ (if get1 p 0 = 0 then 1 else 3), .badRequest),
        (decide (get1 p 0 = 1) && 6144 ≤ get2 p 1, .noSuch) ] = some st →
      Refuses (.queryStore tag p) s { kind := 0x32, tag := tag, payload := p } st) ∧
    (s.ready { kind := 0x34, tag := tag, payload := p } →
      firstFailing [
        (2 ≤ get1 p 0 || p.length ≠ (if get1 p 0 = 0 then 4 else 1), .badRequest),
        (decide (get1 p 0 = 0) && (s.named (getTicket p 1)).isNone, .noSuch) ] = some st →
      Refuses (.queryDelivery tag p) s { kind := 0x34, tag := tag, payload := p } st) ∧
    (s.ready { kind := 0x40, tag := tag, payload := p } →
      firstFailing [
        (p.length ≠ 0, .badRequest) ] = some st →
      Refuses (.queryClock tag p) s { kind := 0x40, tag := tag, payload := p } st) ∧
    (s.ready { kind := 0x53, tag := tag, payload := p } →
      firstFailing [
        (2 ≤ get1 p 0 || p.length ≠ 2, .badRequest),
        (decide (get1 p 0 = 0) && 8 ≤ get1 p 1, .noSuch),
        (decide (get1 p 0 = 1) && 4 ≤ get1 p 1, .noSuch) ] = some st →
      Refuses (.queryZone tag p) s { kind := 0x53, tag := tag, payload := p } st) ∧
    (s.ready { kind := 0x62, tag := tag, payload := p } →
      firstFailing [
        (2 ≤ get1 p 0 || p.length ≠ (if get1 p 0 = 0 then 1 else 4), .badRequest),
        (decide (get1 p 0 = 1) && 2 ≤ get1 p 2, .badRequest),
        (decide (get1 p 0 = 1) && 4 ≤ get1 p 1, .noSuch) ] = some st →
      Refuses (.queryAir tag p) s { kind := 0x62, tag := tag, payload := p } st) ∧
    (s.ready { kind := 0x63, tag := tag, payload := p } →
      firstFailing [
        (2 ≤ get1 p 0 || p.length ≠ (if get1 p 0 = 0 then 1 else 3), .badRequest),
        (decide (get1 p 0 = 1) && 3 ≤ get1 p 2, .badRequest),
        (decide (get1 p 0 = 1) && 4 ≤ get1 p 1, .noSuch) ] = some st →
      Refuses (.queryReceipts tag p) s { kind := 0x63, tag := tag, payload := p } st) ∧
    (s.ready { kind := 0x72, tag := tag, payload := p } →
      firstFailing [
        (p.length ≠ 0, .badRequest) ] = some st →
      Refuses (.queryJournal tag p) s { kind := 0x72, tag := tag, payload := p } st))

/-- The five stages, computed on unsigned 32-bit numbers with truncating division, give the staged result, and no product
passes 3,462,994,080 (R37). It is reached with every input at its maximum. -/
def Obligations.StagedChargeNeverWraps : Prop :=
  (∀ (e : Tariff) (words span : Nat) (p : Priority) (trim : Nat), e.inRange = true → 2 ≤ words → words ≤ 122 →
    1 ≤ span → span ≤ 4 → trim ≤ 255 →
    ∀ x1 x2 x3 x4 c : BitVec 32,
      x1 = 16 * BitVec.ofNat 32 e.base + BitVec.ofNat 32 e.perWord * BitVec.ofNat 32 words →
      x2 = x1 * BitVec.ofNat 32 (if span = 1 then e.f1 else if span = 2 then e.f2 else if span = 3 then e.f3 else e.f4)
        / 16 →
      x3 = x2 * BitVec.ofNat 32 (match p with | .urgent => e.urgent | .normal => 8 | .low => e.low) / 8 →
      x4 = x3 * (128 + BitVec.ofNat 32 trim) / 256 →
      c = (x4 + 8) / 16 →
      e.staged words span p trim = c.toNat ∧ x3.toNat * (128 + trim) ≤ 3462994080) ∧
  (∃ (e : Tariff) (x3 : Nat), e.inRange = true ∧ x3 = (16 * e.base + e.perWord * 122) * e.f4 / 16 * e.urgent / 8 ∧
    x3 * (128 + 255) = 3462994080)

/-- The two limits after stage 5, with their flags, which never stand together (R38). -/
def Obligations.ChargeLimitsInOrder : Prop :=
  ∀ (e : Tariff) (words span : Nat) (p : Priority) (trim : Nat), e.inRange = true →
    (e.staged words span p trim < e.minimum →
      e.computed words span p trim = (e.minimum, { minimum := true, saturated := false, capped := false })) ∧
    (65535 < e.staged words span p trim →
      e.computed words span p trim = (65535, { minimum := false, saturated := true, capped := false })) ∧
    (e.minimum ≤ e.staged words span p trim → e.staged words span p trim ≤ 65535 →
      e.computed words span p trim =
        (e.staged words span p trim, { minimum := false, saturated := false, capped := false }))

/-- The hold is the greater of the staged charge for the hold span and the expiry fee (R39). The charge of a DELIVERED or
SENT delivery is the smaller of the staged charge for its span and the hold, with the flags of R38 and CAPPED where the hold
is smaller; of an EXPIRED one the smaller of the expiry fee and the hold, with CAPPED alone; a CANCELLED one is free (R40).
So no charge exceeds the hold, and under the entry of intake the hold covers every smaller span and the expiry fee. -/
def Obligations.ChargeNeverExceedsHold : Prop :=
  ∀ (e : Tariff) (words span holdSpan : Nat) (p : Priority) (trim hold : Nat) (x : Ending) (c : Nat),
    c = (e.computed words span p trim).1 →
    e.hold words holdSpan p trim = max (e.computed words holdSpan p trim).1 e.expiry ∧
    (x = .delivered ∨ x = .sent → e.charge x words span p trim hold =
      (min c hold, { minimum := (e.computed words span p trim).2.minimum,
                     saturated := (e.computed words span p trim).2.saturated, capped := hold < c })) ∧
    (x = .expired → e.charge x words span p trim hold =
      (min e.expiry hold, { minimum := false, saturated := false, capped := hold < e.expiry })) ∧
    (e.charge x words span p trim hold).1 ≤ hold ∧
    ((e.charge x words span p trim hold).2.capped = true ↔
      (((x = .delivered ∨ x = .sent) ∧ hold < c) ∨ (x = .expired ∧ hold < e.expiry))) ∧
    (x = .cancelled → e.charge x words span p trim hold =
      (0, { minimum := false, saturated := false, capped := false })) ∧
    (e.inRange = true → span ≤ holdSpan → hold = e.hold words holdSpan p trim →
      (e.charge x words span p trim hold).2.capped = false)

/-! ### Intake and the text store (chapter 3) -/

/-- A submission is judged by the first of checks 1 to 11 that fails, and is then refused with that status (R45): check 1
with BAD REQUEST for a malformed payload (R44), and checks 2 to 11 over the fields carried. -/
def Obligations.SubmissionsAreCheckedInOrder : Prop :=
  (∀ (s : State) (tag : Byte) (p : List Byte), s.ready { kind := 0x30, tag := tag, payload := p } →
    p.length < 7 ∨ p.length ≠ 7 + get1 p 6 ∨ 3 ≤ get1 p 2 ∨ 3 ≤ get1 p 3 ∨ 3 ≤ get1 p 4 →
    Refuses (.submitPage tag p) s { kind := 0x30, tag := tag, payload := p } .badRequest) ∧
  (∀ (s : State) (tag : Byte) (n : Nat) (x : Submission) (st : Status), n < 65536 → x.lifetime < 256 →
    x.text.length < 256 → s.ready { kind := 0x30, tag := tag, payload := Payload.page n x } →
    ([ (8192 ≤ n || decide ((s.sub n).service = .unassigned), Status.noSuch),
       (decide ((s.sub n).service = .suspended), .suspended),
       (!(s.sub n).pager.accepts x.encoding, .wrongClass),
       (!textOk x.encoding x.text, .badText),
       (decide ((s.sub n).live = 32), .subscriberFull),
       (decide ((s.acct (s.sub n).account).state = .locked), .locked),
       (decide (s.jnl.records.length + s.jnl.reservation = 8192), .journalFull),
       ((List.range 6144).all (fun k => (s.live k).isSome), .tableFull),
       ((List.range 6144).all (fun b => (s.body b).inUse) || decide (8192 - s.blocksInUse < (x.text.length + 31) / 32),
         .storeFull),
       (decide ((s.acct (s.sub n).account).available < (s.holdFor (s.sub n) x : Int)), .credit) ].find?
        (fun c => c.1)).map (fun c => c.2) = some st →
    Refuses (.submitPage tag (Payload.page n x)) s { kind := 0x30, tag := tag, payload := Payload.page n x } st)

/-- An accepted page: the record filled as R53 gives, and every change of R52, with the reply of R57. The characters stand in
the lowest free blocks in order and no other block changes (R64); the due list gains the delivery and keeps its other
entries, where its place in the order is for FilingKeepsListOrder to say. -/
def Obligations.AcceptedPageCreatesDelivery : Prop :=
  ∀ (s : State) (tag : Byte) (n : Nat) (x : Submission) (k b : Nat), n < 8192 → x.lifetime < 256 →
    x.text.length < 256 → s.ready { kind := 0x30, tag := tag, payload := Payload.page n x } →
    s.intakeCheck n x false = none → s.freeDelivery = some k → s.freeBody = some b →
    ∃ (t : State) (d : Delivery), exec (.submitPage tag (Payload.page n x)) s = .next t ∧
      t = (((((s.withDir { s.dir with subs := t.dir.subs }).withAct { s.act with accounts := t.act.accounts }).withTxt
        t.txt).withDlv t.dlv).withJnl t.jnl).withLnk t.lnk ∧
      t.live k = some d ∧ d.subscriber = n ∧ d.account = (s.sub n).account ∧ d.body = b ∧ d.priority = x.priority ∧
      d.encoding = x.encoding ∧ d.words = 2 + bodyWordsOf x.encoding x.text.length ∧ d.orderKey = s.dlv.sequence ∧
      d.state = .queued ∧ d.kind = (s.sub n).pager.kind ∧ d.attemptsMade = 0 ∧ d.deferrals = 0 ∧
      (d.kind = .twoWay → d.allowance = (s.profile x.priority).allowance ∧ d.attemptsLeft = d.allowance ∧
        d.repeatsLeft = 0) ∧
      (d.kind = .oneWay → d.repeatsLeft = (s.profile x.priority).repeats ∧ d.allowance = 0 ∧ d.attemptsLeft = 0) ∧
      d.intake = s.clk.serial ∧ d.due = (s.sub n).nextEligible s.clk.earliestUnbuilt ∧
      d.deadline = s.clk.serial + BitVec.ofNat 32
        (64 * if x.lifetime = 0 then (s.profile x.priority).lifetime else x.lifetime) ∧
      d.hold = (s.tariff (s.acct (s.sub n).account).tariff).hold d.words (memberCount 4 (s.sub n).coverage) x.priority
        (s.sub n).trim ∧
      d.holdSpan = memberCount 4 (s.sub n).coverage ∧ d.noticeMode = x.noticeMode ∧ d.nextMark = .first ∧
      d.last = none ∧ d.replyCode = none ∧ d.heardGroup = none ∧
      (t.record k).issue = (s.record k).issue + 1 ∧ (∀ m, m ≠ k → t.record m = s.record m) ∧
      t.dlv.sequence = s.dlv.sequence + 1 ∧
      (t.calList (frameNumber d.due)).Perm (k :: s.calList (frameNumber d.due)) ∧
      (∀ j, j ≠ frameNumber d.due → t.calList j = s.calList j) ∧
      (∀ a, t.acct a =
        if a = d.account then { s.acct a with reserved := (s.acct a).reserved + d.hold } else s.acct a) ∧
      (∀ m, t.sub m = if m = n then { s.sub m with live := (s.sub m).live + 1 } else s.sub m) ∧
      t.jnl = { s.jnl with reservation := s.jnl.reservation + 1 } ∧
      (t.body b).inUse = true ∧ (t.body b).refs = 1 ∧ (t.body b).encoding = x.encoding ∧
      (t.body b).length = x.text.length ∧ (∀ m, m ≠ b → t.body m = s.body m) ∧
      t.bodyText b = x.text ∧ (t.body b).blocks.length = (x.text.length + 31) / 32 ∧
      (t.body b).blocks.Pairwise (· < ·) ∧
      (∀ c ∈ (t.body b).blocks, c < 8192 ∧ s.block c = none ∧
        ∀ e < c, s.block e = none → e ∈ (t.body b).blocks) ∧
      (∀ c, c ∉ (t.body b).blocks → t.block c = s.block c) ∧
      (∀ c, (s.block c).isSome = true → t.block c = s.block c) ∧
      t.lnk = s.lnk.answered { kind := 0x30, tag := tag, payload := Payload.page n x }
        { status := .ok, clamped := x.lifetime = 0, saturated := false,
          data := ticket3 { number := k, issue := (s.record k).issue + 1 } ++ num2 d.hold ++ ser4 d.due }

/-- A group page takes its members one by one, each in the state that the members before it left: a member that fails a
check of R45 gives its status and nine zero bytes and changes nothing; an accepted one changes what an accepted page
changes, and gives OK, ticket, hold and due serial (R61, R62). One body serves all: the first accepted member creates it,
each later one shares it, and check 10 is made only until it exists (R61). A malformed page is refused as a whole (R60). -/
def Obligations.GroupPageSharesOneBody : Prop :=
  (∀ (s : State) (tag : Byte) (list : List Nat) (x : Submission), list ≠ [] → list.length ≤ 64 →
    (∀ m ∈ list, m < 65536) → x.lifetime < 256 → x.text.length < 256 →
    s.ready { kind := 0x31, tag := tag, payload := Payload.groupPage list x } →
    ∃ (u : Nat → GroupProgress) (k : Nat) (entries : List Byte) (t : State),
      exec (.submitGroupPage tag (Payload.groupPage list x)) s =
        .next (t.answered { kind := 0x31, tag := tag, payload := Payload.groupPage list x }
          { status := .ok, clamped := x.lifetime = 0 && 0 < k, saturated := false, data := num1 k ++ entries }) ∧
      u 0 = { state := s.taken, body := none, accepted := 0, entries := [] } ∧
      t = (u list.length).state ∧ k = (u list.length).accepted ∧ entries = (u list.length).entries ∧
      (∀ i m, list[i]? = some m →
        (∀ st, (u i).state.intakeCheck m x (u i).body.isSome = some st →
          u (i + 1) = { u i with entries := (u i).entries ++ num1 st.code ++ zeros 9 }) ∧
        ((u i).state.intakeCheck m x (u i).body.isSome = none →
          ∀ (a z : State), a = (u i).state → z = (u (i + 1)).state →
          ∃ (r b : Nat) (d : Delivery), a.freeDelivery = some r ∧
            (((u i).body = none ∧ a.freeBody = some b) ∨ (u i).body = some b) ∧
            d = { subscriber := m, account := (a.sub m).account, body := b, priority := x.priority,
                  encoding := x.encoding, words := 2 + bodyWordsOf x.encoding x.text.length, orderKey := a.dlv.sequence,
                  state := .queued, kind := (a.sub m).pager.kind,
                  allowance := if (a.sub m).pager = .twoWay then (a.profile x.priority).allowance else 0,
                  attemptsLeft := if (a.sub m).pager = .twoWay then (a.profile x.priority).allowance else 0,
                  repeatsLeft := if (a.sub m).pager = .twoWay then 0 else (a.profile x.priority).repeats,
                  attemptsMade := 0, deferrals := 0, intake := a.clk.serial,
                  due := (a.sub m).nextEligible a.clk.earliestUnbuilt,
                  deadline := a.clk.serial + BitVec.ofNat 32
                    (64 * if x.lifetime = 0 then (a.profile x.priority).lifetime else x.lifetime),
                  hold := (a.tariff (a.acct (a.sub m).account).tariff).hold
                    (2 + bodyWordsOf x.encoding x.text.length) (memberCount 4 (a.sub m).coverage) x.priority (a.sub m).trim,
                  holdSpan := memberCount 4 (a.sub m).coverage, noticeMode := x.noticeMode, nextMark := .first,
                  last := none, replyCode := none, heardGroup := none } ∧
            u (i + 1) = { state := z, body := some b, accepted := (u i).accepted + 1,
                          entries := (u i).entries ++ num1 0 ++
                            (ticket3 { number := r, issue := (a.record r).issue + 1 } ++ num2 d.hold ++ ser4 d.due) } ∧
            z = ((((a.withDir { a.dir with subs := z.dir.subs }).withAct { a.act with accounts := z.act.accounts }).withTxt
              z.txt).withDlv z.dlv).withJnl { a.jnl with reservation := a.jnl.reservation + 1 } ∧
            (∀ n, z.record n = if n = r then { issue := (a.record r).issue + 1, live := some d } else a.record n) ∧
            z.dlv.sequence = a.dlv.sequence + 1 ∧
            (z.calList (frameNumber d.due)).Perm (r :: a.calList (frameNumber d.due)) ∧
            (∀ j, j ≠ frameNumber d.due → z.calList j = a.calList j) ∧
            (∀ n, z.acct n =
              if n = d.account then { a.acct n with reserved := (a.acct n).reserved + d.hold } else a.acct n) ∧
            (∀ n, z.sub n = if n = m then { a.sub n with live := (a.sub n).live + 1 } else a.sub n) ∧
            (∀ n, n ≠ b → z.body n = a.body n) ∧
            ((u i).body = none → (z.body b).inUse = true ∧ (z.body b).refs = 1 ∧ (z.body b).encoding = x.encoding ∧
              (z.body b).length = x.text.length ∧ z.bodyText b = x.text ∧
              ∀ n, (a.block n).isSome = true → z.block n = a.block n) ∧
            ((u i).body = some b → z.body b = { a.body b with refs := (a.body b).refs + 1 } ∧
              ∀ n, z.block n = a.block n))) ∧
      entries.length = 10 * list.length ∧ k ≤ list.length ∧
      (∀ m, list.head? = some m → s.intakeCheck m x false = none → 1 ≤ k) ∧
      t.dlv.sequence = s.dlv.sequence + BitVec.ofNat 32 k ∧
      t.jnl = { s.jnl with reservation := s.jnl.reservation + k } ∧
      (∀ m, m ∉ list → t.sub m = s.sub m) ∧
      (k = 0 → t = s.taken) ∧
      (0 < k → ∃ b : Nat, s.freeBody = some b ∧ (t.body b).inUse = true ∧ (t.body b).refs = k ∧
        (t.body b).encoding = x.encoding ∧ (t.body b).length = x.text.length ∧ ∀ m, m ≠ b → t.body m = s.body m)) ∧
  (∀ (s : State) (n : Nat) (x : Submission),
    s.intakeCheck n x true =
      if s.intakeCheck n x false = some .storeFull then
        (if (s.acct (s.sub n).account).available < (s.holdFor (s.sub n) x : Int) then some .credit else none)
      else s.intakeCheck n x false) ∧
  (∀ (s : State) (tag : Byte) (p : List Byte), s.ready { kind := 0x31, tag := tag, payload := p } →
    (p.length < 6 ∨ get1 p 5 = 0 ∨ 64 < get1 p 5 ∨ p.length ≠ 6 + 2 * get1 p 5 + get1 p 4 ∨ 3 ≤ get1 p 0 ∨
      3 ≤ get1 p 1 ∨ 3 ≤ get1 p 2) →
    Refuses (.submitGroupPage tag p) s { kind := 0x31, tag := tag, payload := p } .badRequest)

/-- A body that the store has room for reads back as the text stored, in blocks that were free, and leaves every block in use
as it was (R64); each encoding gives the number of words counted at intake, packed in order with its pad (R46, R65). -/
def Obligations.TextIsStoredAndPacked : Prop :=
  (∀ (s : State) (n : Nat) (e : Encoding) (text : List Byte),
    (text.length + 31) / 32 ≤ 8192 - s.blocksInUse →
    (s.createBody n e text).bodyText n = text ∧
    ((s.createBody n e text).body n).blocks.length = (text.length + 31) / 32 ∧
    ((s.createBody n e text).body n).blocks.Pairwise (· < ·) ∧
    (∀ b ∈ ((s.createBody n e text).body n).blocks, b < 8192 ∧ s.block b = none) ∧
    (∀ b, (s.block b).isSome = true → (s.createBody n e text).block b = s.block b)) ∧
  (∀ text : List Byte,
    textWords .tone text = [] ∧
    (textWords .numeric text).length = (text.length + 3) / 4 ∧ (textWords .alpha text).length = (text.length + 1) / 2 ∧
    (∀ k, k < (text.length + 3) / 4 →
      (textWords .numeric text)[k]? = some (BitVec.ofNat 16
        ((text[4 * k]?.map symbolOf).getD 0xF * 4096 + (text[4 * k + 1]?.map symbolOf).getD 0xF * 256 +
          (text[4 * k + 2]?.map symbolOf).getD 0xF * 16 + (text[4 * k + 3]?.map symbolOf).getD 0xF))) ∧
    (∀ k, k < (text.length + 1) / 2 →
      (textWords .alpha text)[k]? = some (BitVec.ofNat 16
        ((text[2 * k]?.map BitVec.toNat).getD 0 * 256 + (text[2 * k + 1]?.map BitVec.toNat).getD 0))))

/-! ### Deliveries and the calendar (chapter 4) -/

/-- CANCEL answers BAD REQUEST, NO SUCH or IN FLIGHT, or ends the waiting delivery CANCELLED REQUEST and settles it (R86). -/
def Obligations.CancelWithdrawsWaitingDelivery : Prop :=
  (∀ (s : State) (tag : Byte) (k : Ticket), k.number < 65536 →
    s.ready { kind := 0x33, tag := tag, payload := ticket3 k } →
    (s.named k = none →
      Refuses (.cancel tag (ticket3 k)) s { kind := 0x33, tag := tag, payload := ticket3 k } .noSuch) ∧
    (∀ d, s.named k = some d → d.state = .placed ∨ d.state = .onAir ∨ d.state = .awaitReceipt →
      Refuses (.cancel tag (ticket3 k)) s { kind := 0x33, tag := tag, payload := ticket3 k } .inFlight) ∧
    (∀ d, s.named k = some d → d.state = .queued ∨ d.state = .retryWait →
      exec (.cancel tag (ticket3 k)) s =
        .next ((s.taken.endDelivery k.number d .cancelled .request).answered
          { kind := 0x33, tag := tag, payload := ticket3 k }
          (.accept (ticket3 k ++ num1 d.attemptsMade ++ num1 d.deferrals))))) ∧
  (∀ (s : State) (tag : Byte) (p : List Byte), s.ready { kind := 0x33, tag := tag, payload := p } → p.length ≠ 3 →
    Refuses (.cancel tag p) s { kind := 0x33, tag := tag, payload := p } .badRequest)

/-- Filing keeps a list in its order, URGENT before NORMAL before LOW and within one priority by order key, for keys that
lie within one half of the counter (R73, R74). -/
def Obligations.FilingKeepsListOrder : Prop :=
  ∀ (s : State) (n : Nat) (d : Delivery) (base : Serial) (l : List Nat),
    l = s.calList (frameNumber d.due) → n ∉ l →
    (∀ m ∈ l, ∃ e : Delivery, s.live m = some e ∧ (e.orderKey - base).toNat < 2 ^ 31) → (d.orderKey - base).toNat < 2 ^ 31 →
    l.Pairwise (fun a b => ∀ e f, s.live a = some e → s.live b = some f →
      e.priority.code < f.priority.code ∨ (e.priority = f.priority ∧ (f.orderKey - e.orderKey).toNat < 2 ^ 31)) →
    ((s.file n d).calList (frameNumber d.due)).Perm (n :: l) ∧
    ((s.file n d).calList (frameNumber d.due)).Pairwise
      (fun a b => ∀ e f, (s.file n d).live a = some e → (s.file n d).live b = some f →
        e.priority.code < f.priority.code ∨ (e.priority = f.priority ∧ (f.orderKey - e.orderKey).toNat < 2 ^ 31)) ∧
    Priority.urgent.code < Priority.normal.code ∧ Priority.normal.code < Priority.low.code

/-- A revert frees the slots, undoes the placement and files the delivery at the earliest unbuilt serial's next eligible one,
or ends it EXPIRED LIFETIME; nothing of the clock, the zones or the images changes (R79). -/
def Obligations.RevertUndoesPlacement : Prop :=
  ∀ (s : State) (n : Nat) (d e : Delivery) (a : Attempt), s.live n = some d → d.state = .placed → d.last = some a →
    e = { d with
      last := none,
      attemptsMade := if d.kind = .twoWay then d.attemptsMade - 1 else d.attemptsMade,
      state := if d.kind = .twoWay ∧ 2 ≤ d.attemptsMade then .retryWait else .queued,
      due := (s.sub d.subscriber).nextEligible s.clk.earliestUnbuilt } →
    (s.revert n d).clk = s.clk ∧ (s.revert n d).zon = s.zon ∧ (s.revert n d).bld = s.bld ∧
    (∀ m, m ≠ n → (s.revert n d).live m = s.live m) ∧
    (∀ p ∈ a.slots, ∀ m, ((s.revert n d).maps p.1).building = some m → m.serial = a.serial → m.slot p.2 = .empty) ∧
    (atOrBefore e.due d.deadline = true →
      (s.revert n d).live n = some e ∧ n ∈ (s.revert n d).calList (frameNumber e.due) ∧ (s.revert n d).jnl = s.jnl) ∧
    (atOrBefore e.due d.deadline = false →
      (s.revert n d).live n = none ∧
      ∃ u : UsageRecord, (s.revert n d).jnl.records = s.jnl.records ++ [u] ∧ u.ending = .expired ∧ u.reason = .lifetime ∧
        u.attemptsMade = e.attemptsMade)

/-- The end of a ONE-WAY frame uses up a repeat: the last ends the delivery SENT, and any other is filed at the next eligible
serial at or after the serial of the new frame + 1, or ends EXPIRED LIFETIME (R81, R154). A resolved miss: the delivery loses
an attempt and ends EXPIRED, or is filed RETRY WAIT at the retry serial of R152 with its mark (R82, R151, R152), and in mode
EVERY ATTEMPT raises an ATTEMPT NOTICE (R153). -/
def Obligations.FrameEndsRepeatOrRetry : Prop :=
  (∀ (s : State) (n : Nat) (d : Delivery) (due : Serial), s.live n = some d → d.state = .onAir → d.kind = .oneWay →
    due = (s.sub d.subscriber).nextEligible (s.clk.serial + 1) →
    (d.repeatsLeft ≤ 1 → (endFrameOne s n).live n = none ∧
      ∃ u : UsageRecord, (endFrameOne s n).jnl.records = s.jnl.records ++ [u] ∧ u.ending = .sent ∧ u.reason = .none ∧
        u.chargeSpan = min (memberCount 4 ((d.last.map (fun a => a.carried)).getD 0)) d.holdSpan) ∧
    (2 ≤ d.repeatsLeft → atOrBefore due d.deadline = true →
      (endFrameOne s n).live n =
        some { d with repeatsLeft := d.repeatsLeft - 1, state := .queued, nextMark := .again, due := due } ∧
      n ∈ (endFrameOne s n).calList (frameNumber due) ∧ (endFrameOne s n).jnl = s.jnl) ∧
    (2 ≤ d.repeatsLeft → atOrBefore due d.deadline = false →
      (endFrameOne s n).live n = none ∧
      ∃ u : UsageRecord, (endFrameOne s n).jnl.records = s.jnl.records ++ [u] ∧ u.ending = .expired ∧ u.reason = .lifetime)) ∧
  (∀ (s : State) (n : Nat) (d : Delivery) (a : Attempt) (start due : Serial), s.live n = some d →
    d.state = .awaitReceipt → d.last = some a →
    start = (if a.checkedIn then a.serial + 3
      else a.serial + 2 + BitVec.ofNat 32 (min ((s.profile d.priority).base * 2 ^ (d.attemptsMade - 1)) 256)) →
    due = (s.sub d.subscriber).nextEligible start →
    (resolveOne s n).rcp.counters.misses = s.rcp.counters.misses + 1 ∧
    (d.attemptsLeft ≤ 1 →
      (resolveOne s n).live n = none ∧ (resolveOne s n).rcp.counters.expired = s.rcp.counters.expired + 1 ∧
      ∃ u : UsageRecord, (resolveOne s n).jnl.records = s.jnl.records ++ [u] ∧ u.ending = .expired ∧ u.reason = .attempts) ∧
    (2 ≤ d.attemptsLeft → atOrBefore due d.deadline = false →
      (resolveOne s n).live n = none ∧ (resolveOne s n).rcp.counters.expired = s.rcp.counters.expired + 1 ∧
      ∃ u : UsageRecord, (resolveOne s n).jnl.records = s.jnl.records ++ [u] ∧ u.ending = .expired ∧ u.reason = .lifetime) ∧
    (2 ≤ d.attemptsLeft → atOrBefore due d.deadline = true →
      (resolveOne s n).live n = some { d with
        attemptsLeft := d.attemptsLeft - 1, state := .retryWait, due := due,
        nextMark := if a.checkedIn then .retryAfterCheckIn else .retry } ∧
      n ∈ (resolveOne s n).calList (frameNumber due) ∧ (resolveOne s n).jnl = s.jnl ∧
      (resolveOne s n).rcp.counters.expired = s.rcp.counters.expired ∧
      (d.noticeMode ≠ .everyAttempt → (resolveOne s n).lnk = s.lnk) ∧
      (d.noticeMode = .everyAttempt → (resolveOne s n).lnk = s.lnk.notice 0x82
        (ticket3 (s.ticket n) ++ num2 d.subscriber ++ ser4 a.serial ++ groups1 a.carried ++ num1 d.attemptsMade ++
          num1 (d.attemptsLeft - 1) ++ ser4 due ++ num1 (if a.checkedIn then 3 else 2)))))

/-! ### The frame clock (chapter 5) -/

/-- SET CLOCK writes the serial while STOPPED, and only then (R96); SET TRIM stores the pending trim, clamped to 127, and
nothing else changes until a boundary (R99). Each is refused when malformed (section 5.6); that SET CLOCK judges its payload
before the clock state is the model's choice (log 28). -/
def Obligations.SerialAndTrimAreSet : Prop :=
  (∀ (s : State) (tag : Byte) (x : Serial), s.ready { kind := 0x41, tag := tag, payload := ser4 x } →
    (s.clk.state = .running →
      Refuses (.setClock tag (ser4 x)) s { kind := 0x41, tag := tag, payload := ser4 x } .clockRunning) ∧
    (s.clk.state = .stopped →
      exec (.setClock tag (ser4 x)) s = .next ((s.taken.withClk { s.clk with serial := x }).answered
        { kind := 0x41, tag := tag, payload := ser4 x } (.accept (ser4 x))))) ∧
  (∀ (s : State) (tag b : Byte), s.ready { kind := 0x44, tag := tag, payload := [b] } →
    (b.toNat ≤ 127 → exec (.setTrim tag [b]) s =
      .next ((s.taken.withClk { s.clk with pendingTrim := b.toNat }).answered
        { kind := 0x44, tag := tag, payload := [b] } (.accept [b]))) ∧
    (128 ≤ b.toNat → exec (.setTrim tag [b]) s =
      .next ((s.taken.withClk { s.clk with pendingTrim := 127 }).answered { kind := 0x44, tag := tag, payload := [b] }
        { status := .ok, clamped := true, saturated := false, data := [127] }))) ∧
  (∀ (s : State) (tag : Byte) (p : List Byte), s.ready { kind := 0x41, tag := tag, payload := p } → p.length ≠ 4 →
    Refuses (.setClock tag p) s { kind := 0x41, tag := tag, payload := p } .badRequest) ∧
  (∀ (s : State) (tag : Byte) (p : List Byte), s.ready { kind := 0x44, tag := tag, payload := p } → p.length ≠ 1 →
    Refuses (.setTrim tag p) s { kind := 0x44, tag := tag, payload := p } .badRequest)

/-- START CLOCK begins the held serial with the pending trim in force, and finds no next plan and no image where none is held
(R97, R112); STOP CLOCK abandons the frame, raises the serial and removes plans and maps, when no air and no delivery needs
the clock (R98). The order of endings at the boundary of START CLOCK is the model's choice and shows nothing (log 5). Each is
refused when malformed (section 5.6); that START CLOCK judges its payload before the clock state is the model's choice
(log 28). -/
def Obligations.ClockStartsAndStops : Prop :=
  (∀ (s : State) (tag : Byte), s.ready { kind := 0x42, tag := tag, payload := [] } →
    (s.clk.state = .running →
      Refuses (.startClock tag []) s { kind := 0x42, tag := tag, payload := [] } .wrongState) ∧
    (s.clk.state = .stopped → s.bld.air = .halted → (∀ g < 4, (s.group g).next = none ∧ (s.images g).next = none) →
      (∀ n d, s.live n = some d → d.state.waiting = true) →
      ∃ t : State, exec (.startClock tag []) s = .next t ∧
        t.clk = { s.clk with state := .running, trim := s.clk.pendingTrim, position := 0, buildPassed := false } ∧
        t.lnk = s.lnk.answered { kind := 0x42, tag := tag, payload := [] } (.accept (ser4 s.clk.serial)) ∧
        (∀ g < 4, (t.group g).current = none ∧ (t.group g).next = none ∧ (t.images g).current = none ∧
          (t.images g).next = none ∧ (t.maps g).current = none) ∧
        (∀ z < 8, (t.zone z).keyed = false) ∧ t.bld.air = .halted ∧
        t.dir = s.dir ∧ t.act = s.act ∧ t.txt = s.txt ∧ t.dlv = s.dlv ∧ t.jnl = s.jnl ∧ t.pending = s.pending)) ∧
  (∀ (s : State) (tag : Byte), s.ready { kind := 0x43, tag := tag, payload := [] } →
    (s.clk.state = .stopped →
      Refuses (.stopClock tag []) s { kind := 0x43, tag := tag, payload := [] } .wrongState) ∧
    (s.clk.state = .running → s.bld.air ≠ .halted →
      Refuses (.stopClock tag []) s { kind := 0x43, tag := tag, payload := [] } .airActive) ∧
    (s.clk.state = .running → (∃ (n : Nat) (d : Delivery), s.live n = some d ∧ (d.state = .onAir ∨ d.state = .awaitReceipt)) →
      Refuses (.stopClock tag []) s { kind := 0x43, tag := tag, payload := [] } .airActive) ∧
    (s.clk.state = .running → s.bld.air = .halted → s.deliveriesNeedClock = false →
      ∃ t : State, exec (.stopClock tag []) s = .next t ∧
        t.clk = { s.clk with state := .stopped, serial := s.clk.serial + 1, position := 0, buildPassed := false } ∧
        t.lnk = s.lnk.answered { kind := 0x43, tag := tag, payload := [] } (.accept (ser4 (s.clk.serial + 1))) ∧
        (∀ g < 4, (t.group g).current = none ∧ (t.group g).next = none ∧ t.maps g = .absent) ∧
        (∀ z, t.zone z = s.zone z ∧ t.queue z = s.queue z) ∧
        t.dir = s.dir ∧ t.act = s.act ∧ t.txt = s.txt ∧ t.dlv = s.dlv ∧ t.bld = s.bld ∧ t.jnl = s.jnl ∧
        t.rcp.counters = s.rcp.counters ∧ t.pending = s.pending)) ∧
  (∀ (s : State) (tag : Byte) (p : List Byte), s.ready { kind := 0x42, tag := tag, payload := p } → p.length ≠ 0 →
    Refuses (.startClock tag p) s { kind := 0x42, tag := tag, payload := p } .badRequest) ∧
  (∀ (s : State) (tag : Byte) (p : List Byte), s.ready { kind := 0x43, tag := tag, payload := p } → p.length ≠ 0 →
    Refuses (.stopClock tag p) s { kind := 0x43, tag := tag, payload := p } .badRequest)

/-- Each rising MARK edge is counted in both clock states, and captured while RUNNING (R95). The offset is the model's frame
position (log 3). -/
def Obligations.MarkEdgeIsCountedAndCaptured : Prop :=
  ∀ s : State,
    (s.clk.state = .running → exec .markEdge s = .next (s.withClk { s.clk with
      markCount := s.clk.markCount + 1,
      latestMark := some { serial := s.clk.serial, offset := s.clk.position } }).lineChoice) ∧
    (s.clk.state = .stopped →
      exec .markEdge s = .next (s.withClk { s.clk with markCount := s.clk.markCount + 1 }).lineChoice)

/-- A tick raises the frame position of a RUNNING clock by one, and of no other; before an event that is due it holds, which
is the model's choice (R92; log 3). The events that can be due are the build point, the end of the data field of a keyed
zone, and the boundary (R92, R94, R114). Ticks with no event between them carry the position on one by one. -/
def Obligations.TickRaisesPosition : Prop :=
  (∀ s : State,
    (s.clk.state = .running → s.eventDue = false →
      exec .tick s = .next (s.withClk { s.clk with position := s.clk.position + 1 }).lineChoice) ∧
    (s.clk.state = .stopped → exec .tick s = .next s.lineChoice) ∧
    (s.eventDue = true → exec .tick s = .next s.lineChoice) ∧
    (s.eventDue = true ↔
      (s.clk.buildPassed = false ∧ 40000 ≤ s.clk.position) ∨ 49936 + s.clk.trim ≤ s.clk.position + 1 ∨
      ∃ z < 8, ∃ p : Plan, (s.zone z).keyed = true ∧ s.zonePlan z = some p ∧
        100 * (p.settle + 4 + p.capacity) ≤ s.clk.position)) ∧
  (∀ (s : State) (n : Nat), 0 < n → s.pending = [] → s.reaches (s.clk.position + n) →
    Host.Core.run Sys2Proof.core n (s.withPending (List.replicate n .tick)) =
      Host.Outcome.next (s.withClk { s.clk with position := s.clk.position + n }).lineChoice)

/-- The boundary of a RUNNING clock, at the last position of its frame: the clock's four changes, plans moved on, members in
service keyed for the images launched, images launched or dropped, the air from STOPPING to HALTED (R92, R93, R112, R113,
R122, R133); elsewhere in the frame the command does nothing (logs 2, 3). The receipt maps move on one role, and the slots
of deliveries whose groups are all dropped are freed (R134, R145). Each delivery takes what the end of its frame, the miss
that its map shows, or the launch brings it: a TWO-WAY delivery on air becomes AWAIT RECEIPT; a ONE-WAY one uses up a
repeat; a missed one an attempt; a placed one goes on air without its dropped groups, or is reverted (R79 to R82, R151,
R152, R154). The endings reach the journal by groups, each in ascending number (R170). That a zone not keyed for the new
frame holds no key line is the model's choice (log 9). -/
def Obligations.BoundaryTurnsFrame : Prop :=
  (∀ (s : State) (o : EndingOrder), s.reaches (49935 + s.clk.trim) →
    ∃ t : State, exec (.boundary o) s = .next t ∧
      t.clk = { s.clk with serial := s.clk.serial + 1, trim := s.clk.pendingTrim, position := 0, buildPassed := false } ∧
      (∀ g < 4, (t.group g).current = (s.group g).next ∧ (t.group g).next = none ∧
        (t.group g).settings = (s.group g).settings) ∧
      (∀ z < 8, ((t.zone z).keyed = true ↔ (s.zone z).inService = true ∧
        ∃ g < 4, (s.images g).next ≠ none ∧ ∃ p : Plan, (s.group g).next = some p ∧ p.members.getLsbD z = true) ∧
        ((t.zone z).keyed = true → (t.zone z).wordsTaken = 0 ∧ (t.zone z).wordsSerial = s.clk.serial + 1) ∧
        ((t.zone z).keyed = false → (t.zone z).wordsTaken = (s.zone z).wordsTaken)) ∧
      (∀ g < 4, (t.images g).next = none ∧
        (∀ i, (s.images g).next = some i →
          ((∃ z < 8, (t.zone z).keyed = true ∧ ∃ p : Plan, (s.group g).next = some p ∧ p.members.getLsbD z = true) →
            (t.images g).current = some i ∧ (t.images g).launched = (s.images g).launched + 1 ∧
            (t.images g).dropped = (s.images g).dropped ∧
            (t.images g).pagesLaunched = (s.images g).pagesLaunched + BitVec.ofNat 32 i.p) ∧
          ((∀ z < 8, ∀ p, (s.group g).next = some p → p.members.getLsbD z = true → (t.zone z).keyed = false) →
            (t.images g).current = none ∧ (t.images g).dropped = (s.images g).dropped + 1 ∧
            (t.images g).launched = (s.images g).launched)) ∧
        ((s.images g).next = none → (t.images g).current = none)) ∧
      t.bld.air = (if s.bld.air = .stopping then .halted else s.bld.air) ∧
      t.dir.map = s.dir.map ∧ t.act.tariffs = s.act.tariffs ∧ (∀ z, t.queue z = s.queue z) ∧ t.pending = s.pending) ∧
  (∀ (s : State) (o : EndingOrder), ¬s.reaches (49935 + s.clk.trim) → exec (.boundary o) s = .next s.lineChoice) ∧
  (∀ (s t : State) (o : EndingOrder) (kept : GroupSet), Table.wf .fresh s.dlv.records = true →
    s.reaches (49935 + s.clk.trim) → exec (.boundary o) s = .next t →
    (∀ g < 4, kept.getLsbD g = true ↔ (s.images g).next ≠ none ∧
      ∃ z < 8, (s.zone z).inService = true ∧ ∃ p : Plan, (s.group g).next = some p ∧ p.members.getLsbD z = true) →
    (∀ g < 4, (t.maps g).building = none ∧
      rewrittenRole (s.losesSlot kept g) .empty (s.maps g).current (t.maps g).previous ∧
      rewrittenRole (s.losesSlot kept g) .empty (if kept.getLsbD g then (s.maps g).building else none)
        (t.maps g).current) ∧
    (∀ n d, s.live n = some d →
      (d.state.waiting = true → t.live n = some d) ∧
      (d.state = .onAir → d.kind = .twoWay → t.live n = some { d with state := .awaitReceipt }) ∧
      (d.state = .onAir → d.kind = .oneWay →
        (d.repeatsLeft ≤ 1 → s.ended t n .sent .none) ∧
        (2 ≤ d.repeatsLeft → s.refiled t n { d with
          repeatsLeft := d.repeatsLeft - 1, state := .queued, nextMark := .again,
          due := (s.sub d.subscriber).nextEligible (s.clk.serial + 2) })) ∧
      (d.state = .placed → s.inNextImage n = false → t.live n = some d) ∧
      (d.state = .placed → s.inNextImage n = true → ∀ a, d.last = some a →
        (a.carried &&& kept ≠ 0 → t.live n = some { d with
          state := .onAir,
          last := some { a with carried := a.carried &&& kept,
                                slots := a.slots.filter (fun p => kept.getLsbD p.1) } }) ∧
        (a.carried &&& kept = 0 →
          s.refiled t n (d.undone ((s.sub d.subscriber).nextEligible (s.clk.serial + 2))))) ∧
      (d.state = .awaitReceipt → ∀ a start, d.last = some a →
        start = (if a.checkedIn then a.serial + 3
          else a.serial + 2 + BitVec.ofNat 32 (min ((s.profile d.priority).base * 2 ^ (d.attemptsMade - 1)) 256)) →
        ((∀ g < 4, ∀ m, (s.maps g).previous = some m → ∀ j < 16, m.slot j ≠ .claimed (s.ticket n)) →
          t.live n = some d) ∧
        ((∃ g < 4, ∃ m : ReceiptMap, (s.maps g).previous = some m ∧ ∃ j < 16, m.slot j = .claimed (s.ticket n)) →
          (d.attemptsLeft ≤ 1 → s.ended t n .expired .attempts) ∧
          (2 ≤ d.attemptsLeft → s.refiled t n { d with
            attemptsLeft := d.attemptsLeft - 1, state := .retryWait,
            nextMark := if a.checkedIn then .retryAfterCheckIn else .retry,
            due := (s.sub d.subscriber).nextEligible start })))) ∧
    ∃ w : EndingGroup → List UsageRecord, t.jnl.records = s.jnl.records ++ ((endingGroups o).map w).flatten ∧
      ∀ e, ((w e).map (fun u => u.ticket.number)).Pairwise (· < ·) ∧
        ∀ u ∈ w e, t.live u.ticket.number = none ∧ ∃ d, s.live u.ticket.number = some d ∧
          d.state = (match e with | .ended => .onAir | .missed => .awaitReceipt | .dropped => .placed))

/-- The build point of a RUNNING clock, once in each frame and at position 40,000 (R92, R94); elsewhere the command does
nothing (logs 2, 3). It takes pending settings into force, a change of polarity computing the alarm state anew; tests each
zone for service; and makes every group's plan for the next frame, S the largest settle in whole word-times (R105, R109 to
R111). The ZONE NOTICES of alarm changes come first and those of service changes after them, each by zone number, with the
alarm state and service that the event leaves (R115; log 25). With the air not ON nothing is built (R125). -/
def Obligations.BuildPointMakesPlans : Prop :=
  (∀ s : State, ¬s.reaches 40000 ∨ s.clk.buildPassed = true → exec .buildPoint s = .next s.lineChoice) ∧
  (∀ s : State, s.reaches 40000 → s.clk.buildPassed = false → s.plansInRange →
    ∃ t : State, exec .buildPoint s = .next t ∧ t.clk = { s.clk with position := 40000, buildPassed := true } ∧
      (∀ g < 4, (t.group g).settings = (if (s.group g).pendingFlag then (s.group g).pending else (s.group g).settings) ∧
        (t.group g).pendingFlag = false ∧ (t.group g).current = (s.group g).current ∧
        ∃ p : Plan, (t.group g).next = some p ∧ p.serial = s.clk.serial + 1 ∧ p.guard = (t.group g).settings.guard ∧
          p.slotCount = (t.group g).settings.slotCount ∧ p.depth = (t.group g).settings.depth ∧
          p.order = (t.group g).settings.order ∧ p.mask = (t.group g).settings.mask ∧
          (∀ z < 8, p.members.getLsbD z = true ↔
            (t.zone z).inService = true ∧ (t.zone z).settings.group = some g) ∧
          (∀ z < 8, p.members.getLsbD z = true → (t.zone z).settings.settle ≤ 5 * p.settle) ∧
          (p.members ≠ 0 → ∃ z < 8, p.members.getLsbD z = true ∧ p.settle = ((t.zone z).settings.settle + 4) / 5) ∧
          (p.members = 0 → p.settle = 0) ∧
          p.settle + 4 + p.capacity + p.guard + 8 * p.slotCount = 500) ∧
      (∀ z < 8, ∀ (v : ZoneSettings) (a : Alarm) (recorded : ServiceStatus),
        v = (if (s.zone z).pendingFlag then (s.zone z).pending else (s.zone z).settings) →
        a = (if (s.zone z).pendingFlag = true ∧ v.polarity ≠ (s.zone z).settings.polarity then
            (if (s.zone z).input = decide (v.polarity = .normal) then .active else .inactive)
          else (s.zone z).alarm) →
        recorded = (if (t.zone z).inService then .inService else .outOfService) →
        t.zone z = { s.zone z with
          settings := v, pendingFlag := false, alarm := a, recorded := recorded,
          faulted := if (s.zone z).pendingFlag = true ∧ v.enabled = true then false else (s.zone z).faulted,
          keyed := if a ≠ (s.zone z).alarm ∧ a = .active then false else (s.zone z).keyed,
          port := if a ≠ (s.zone z).alarm ∧ a = .active then none else (s.zone z).port,
          flags := (s.zone z).flags ||| (if s.alarmHit t z then 1 else 0) |||
            (if recorded ≠ (s.zone z).recorded then 2 else 0) }) ∧
      (∃ more : List (Byte × List Byte),
        t.lnk = (s.lnk.raise (
          ((List.range 8).filter (fun z => s.alarmHit t z && !(s.zone z).flags.getLsbD 0 &&
              (t.zone z).settings.noticeEnable)).map
            (fun z => zoneNotice z 1 ((s.zone z).flags ||| 1) (t.zone z) s.clk.serial) ++
          ((List.range 8).filter (fun z => (t.zone z).recorded ≠ (s.zone z).recorded && !(s.zone z).flags.getLsbD 1 &&
              (t.zone z).settings.noticeEnable)).map
            (fun z => zoneNotice z 2 (t.zone z).flags (t.zone z) s.clk.serial) ++ more)).choose ∧
        (∀ m ∈ more, m.1 = 0x81 ∨ m.1 = 0x84) ∧ (s.bld.air ≠ .on → more = [])) ∧
      (s.bld.air ≠ .on → t.dir = s.dir ∧ t.act = s.act ∧ t.txt = s.txt ∧ t.dlv = s.dlv ∧ t.bld = s.bld ∧ t.rcp = s.rcp ∧
        t.jnl = s.jnl))

/-- With the air ON the build opens an image and a map with every slot EMPTY for each group whose plan has a member (R121,
R125, R143, R144), and visits the entries of one calendar list: an entry due later is left, one beyond its deadline ends
EXPIRED LIFETIME, one whose subscriber is not eligible is re-filed, and any other is placed or deferred (R75 to R78). At the
end every slot of such a map is EMPTY or CLAIMED by a delivery that this build placed, the page list holds deliveries that
it placed, in the order of the list visited, and the image is laid out in the words of R130 and R131, coded as R195 gives. A
due serial exactly 2^31 after the serial built counts as after it, which is the model's choice between two words of R73 (log
29). -/
def Obligations.BuildPointOpensImages : Prop :=
  (∀ (s : State) (x : Serial) (list : List Nat), s.reaches 40000 → s.clk.buildPassed = false → s.bld.air = .on →
    x = s.clk.serial + 1 → list = s.calList (frameNumber x) → list.Nodup → (∀ m, (s.sub m).interval ≤ 64) →
    ∃ t : State, exec .buildPoint s = .next t ∧
      (∀ g < 4, ∀ p, (t.group g).next = some p →
        (p.members ≠ 0 →
          (t.images g).built = (s.images g).built + 1 ∧
          (∃ i : Image, (t.images g).next = some i ∧ i.serial = x ∧ i.group = g ∧ i.settle = p.settle ∧
            i.capacity = p.capacity ∧ i.guard = p.guard ∧ i.slotCount = p.slotCount ∧ i.depth = p.depth ∧
            i.order = p.order ∧
            (∀ j < 16, i.usable.getLsbD j = true ↔ j < p.slotCount ∧ p.mask.getLsbD j = true) ∧
            (i.pages.map (fun e => e.ticket.number)).Sublist list ∧
            (∀ e ∈ i.pages, ∃ (d : Delivery) (a : Attempt), t.live e.ticket.number = some d ∧ d.state = .placed ∧
              d.last = some a ∧ a.serial = x ∧ a.carried.getLsbD g = true ∧ e.ticket = t.ticket e.ticket.number ∧
              e.address = (t.sub d.subscriber).address ∧ e.encoding = d.encoding ∧ e.bodyWords = d.words - 2 ∧
              e.mark = a.mark ∧ (d.kind = .oneWay → e.slot = none) ∧
              (d.kind = .twoWay → ∃ j, e.slot = some j ∧ (g, j) ∈ a.slots)) ∧
            i.words = [0x2DB4, 0xD24B, i.frameWord, i.fieldWord] ++ i.pages.map (fun e => e.address) ++
              (i.pages.map (fun e => e.descriptor :: (match t.live e.ticket.number with
                | some d => textWords (t.body d.body).encoding (t.bodyText d.body)
                | none => []))).flatten ++
              List.replicate (paddedTo i.depth i.m - i.m) 0xC3C3 ++
              List.replicate (i.capacity - (i.p + paddedTo i.depth i.m)) 0xC3C3) ∧
          ∃ m : ReceiptMap, (t.maps g).building = some m ∧ m.serial = x ∧ m.group = g ∧ m.members = p.members ∧
            m.slotCount = p.slotCount ∧
            (∀ j < 16, m.usable.getLsbD j = true ↔ j < p.slotCount ∧ p.mask.getLsbD j = true) ∧
            ∀ j, m.slot j = .empty ∨ ∃ (n : Nat) (d : Delivery) (a : Attempt), m.slot j = .claimed (t.ticket n) ∧
              m.usable.getLsbD j = true ∧ n ∈ list ∧ t.live n = some d ∧ d.state = .placed ∧ d.last = some a ∧
              a.serial = x ∧ (g, j) ∈ a.slots) ∧
        (p.members = 0 → (t.images g).built = (s.images g).built)) ∧
      (∀ g, (t.images g).current = (s.images g).current ∧ (t.images g).launched = (s.images g).launched) ∧
      t.bld.air = .on ∧ t.dir.map = s.dir.map ∧
      (∀ n ∈ list, ∀ d, t.live n = some d → d.state.waiting = true → beyond d.due x = true) ∧
      (∀ n d, s.live n = some d →
        (n ∉ list ∨ beyond d.due x = true → t.live n = some d) ∧
        (n ∈ list → beyond d.due x = false →
          (beyond x d.deadline = true → s.ended t n .expired .lifetime) ∧
          (beyond x d.deadline = false → (s.sub d.subscriber).eligible x = false →
            s.refiled t n { d with due := (s.sub d.subscriber).nextEligible (x + 1) }) ∧
          (beyond x d.deadline = false → (s.sub d.subscriber).eligible x = true →
            (∃ a : Attempt, a.serial = x ∧ a.carried ≠ 0 ∧ a.mark = d.nextMark ∧ a.checkedIn = false ∧
              t.live n = some { d with
                state := .placed, last := some a,
                attemptsMade := if d.kind = .twoWay then d.attemptsMade + 1 else d.attemptsMade } ∧
              ∀ g < 4, a.carried.getLsbD g = true →
                ∃ i : Image, (t.images g).next = some i ∧ ∃ e ∈ i.pages, e.ticket = s.ticket n) ∨
            s.refiled t n { d with
              deferrals := min (d.deferrals + 1) 255, due := (s.sub d.subscriber).nextEligible (x + 1) })))) ∧
  (∀ i : Image, i.depth = 1 ∨ i.depth = 2 ∨ i.depth = 4 ∨ i.depth = 8 → i.group < 4 → i.p < 256 → i.slotCount < 32 →
    i.frameWord.extractLsb' 10 6 = i.serial.setWidth 6 ∧ i.frameWord.extractLsb' 8 2 = BitVec.ofNat 2 i.group ∧
    2 ^ (i.frameWord.extractLsb' 6 2).toNat = i.depth ∧ (i.frameWord.getLsbD 5 = true ↔ i.order = .interleaved) ∧
    i.frameWord.extractLsb' 0 5 = 0 ∧
    i.fieldWord.extractLsb' 8 8 = BitVec.ofNat 8 i.p ∧ i.fieldWord.extractLsb' 3 5 = BitVec.ofNat 5 i.slotCount ∧
    i.fieldWord.extractLsb' 0 3 = 0) ∧
  (∀ e : PageEntry, e.bodyWords < 128 → (∀ j, e.slot = some j → j < 31) →
    e.descriptor.extractLsb' 14 2 = BitVec.ofNat 2 e.encoding.code ∧
    e.descriptor.extractLsb' 7 7 = BitVec.ofNat 7 e.bodyWords ∧
    e.descriptor.extractLsb' 5 2 = BitVec.ofNat 2 e.mark.code ∧
    (e.slot = none → e.descriptor.extractLsb' 0 5 = 31) ∧
    (∀ j, e.slot = some j → e.descriptor.extractLsb' 0 5 = BitVec.ofNat 5 j)) ∧
  (∀ (i : Image) (bodyWords : PageEntry → List Word), 1 ≤ i.depth → i.used ≤ i.capacity →
    (∀ e ∈ i.pages, (bodyWords e).length = e.bodyWords) → (i.layout bodyWords).length = 4 + i.capacity)

/-! ### Zones and groups (chapter 6) -/

/-- SET ZONE and SET GROUP write the pending settings, with their clamps (R104, R109); CLEAR ZONE FLAGS removes the named
flags and reports the set before and after (R116). Each refuses with the status of the first check that fails; for CLEAR ZONE FLAGS,
that a payload's length is judged before the number in it is the model's choice (log 28). -/
def Obligations.ZoneRequestsWriteTheirFields : Prop :=
  (∀ (s : State) (tag : Byte),
    (∀ (z : Nat) (v : ZoneSettings), z < 8 → (∀ g, v.group = some g → g < 4) → v.settle < 256 →
      s.ready { kind := 0x50, tag := tag, payload := num1 z ++ v.bytes } →
      ∃ t : State, exec (.setZone tag (num1 z ++ v.bytes)) s = .next t ∧
        t = (s.withZon { s.zon with zones := t.zon.zones }).withLnk t.lnk ∧
        t.lnk = s.lnk.answered { kind := 0x50, tag := tag, payload := num1 z ++ v.bytes }
          { status := .ok, clamped := 127 < v.settle, saturated := false,
            data := { v with settle := min v.settle 127 }.bytes } ∧
        ∀ y, t.zone y =
          if y = z then { s.zone y with pending := { v with settle := min v.settle 127 }, pendingFlag := true }
          else s.zone y) ∧
    (∀ (g : Nat) (v w : GroupSettings), g < 4 → v.depth = 1 ∨ v.depth = 2 ∨ v.depth = 4 ∨ v.depth = 8 →
      v.guard < 256 → v.slotCount < 256 →
      w = { v with guard := if v.guard = 0 then 1 else if 8 < v.guard then 8 else v.guard,
                   slotCount := if 16 < v.slotCount then 16 else v.slotCount } →
      s.ready { kind := 0x51, tag := tag, payload := num1 g ++ v.bytes } →
      ∃ t : State, exec (.setGroup tag (num1 g ++ v.bytes)) s = .next t ∧
        t = (s.withZon { s.zon with groups := t.zon.groups }).withLnk t.lnk ∧
        t.lnk = s.lnk.answered { kind := 0x51, tag := tag, payload := num1 g ++ v.bytes }
          { status := .ok, clamped := w ≠ v, saturated := false, data := w.bytes } ∧
        ∀ h, t.group h = if h = g then { s.group h with pending := w, pendingFlag := true } else s.group h)) ∧
  (∀ (s : State) (tag flags : Byte) (z : Nat), z < 8 →
    s.ready { kind := 0x52, tag := tag, payload := num1 z ++ [flags] } →
    ∃ t : State, exec (.clearZoneFlags tag (num1 z ++ [flags])) s = .next t ∧
      t = (s.withZon { s.zon with zones := t.zon.zones }).withLnk t.lnk ∧
      t.lnk = s.lnk.answered { kind := 0x52, tag := tag, payload := num1 z ++ [flags] }
        (.accept (flags1 (s.zone z).flags ++ flags1 (t.zone z).flags)) ∧
      (∀ i < 3, (t.zone z).flags.getLsbD i = ((s.zone z).flags.getLsbD i && !flags.getLsbD i)) ∧
      ∀ y, t.zone y = if y = z then { s.zone y with flags := (t.zone z).flags } else s.zone y) ∧
  (∀ (s : State) (tag : Byte) (p : List Byte) (st : Status),
    (s.ready { kind := 0x50, tag := tag, payload := p } →
      firstFailing [
        (p.length ≠ 8, .badRequest),
        (2 ≤ get1 p 1 || 2 ≤ get1 p 4 || 4 ≤ get1 p 5 || 2 ≤ get1 p 6 || 2 ≤ get1 p 7, .badRequest),
        (8 ≤ get1 p 0, .noSuch),
        (4 ≤ get1 p 2 && decide (get1 p 2 ≠ 255), .outOfRange) ] = some st →
      Refuses (.setZone tag p) s { kind := 0x50, tag := tag, payload := p } st) ∧
    (s.ready { kind := 0x51, tag := tag, payload := p } →
      firstFailing [
        (p.length ≠ 7, .badRequest),
        (2 ≤ get1 p 2, .badRequest),
        (4 ≤ get1 p 0, .noSuch),
        (!decide (get1 p 1 ∈ [1, 2, 4, 8]), .outOfRange) ] = some st →
      Refuses (.setGroup tag p) s { kind := 0x51, tag := tag, payload := p } st) ∧
    (s.ready { kind := 0x52, tag := tag, payload := p } →
      firstFailing [
        (p.length ≠ 2, .badRequest),
        (8 ≤ get1 p 0, .noSuch) ] = some st →
      Refuses (.clearZoneFlags tag p) s { kind := 0x52, tag := tag, payload := p } st))

/-- A site alarm input: the alarm state follows it through the polarity; a change unkeys a zone that goes ACTIVE, adds ALARM
CHANGE where the notice edge matches, and raises a ZONE NOTICE for a new flag (R106, R107, R115). That
the notice reports the alarm state and service as the event leaves them is the model's reading (log 25). -/
def Obligations.AlarmEdgeUnkeysAndFlags : Prop :=
  ∀ (s : State) (z : Fin 8) (high : Bool) (a : Alarm) (hit : Bool) (after : Zone),
    a = (if high = ((s.zone z.val).settings.polarity = .normal) then .active else .inactive) →
    hit = (match (s.zone z.val).settings.edge with
      | .none => false | .rising => decide (a = .active) | .falling => decide (a = .inactive) | .both => true) →
    after = { s.zone z.val with
      input := high, alarm := a,
      keyed := if a = .active then false else (s.zone z.val).keyed,
      port := if a = .active then none else (s.zone z.val).port,
      flags := if hit then (s.zone z.val).flags ||| 1 else (s.zone z.val).flags } →
    (a = (s.zone z.val).alarm →
      exec (.alarmEdge z high) s = .next (s.setZone z.val { s.zone z.val with input := high }).lineChoice) ∧
    (a ≠ (s.zone z.val).alarm →
      (hit = true → (s.zone z.val).flags.getLsbD 0 = false → after.settings.noticeEnable = true →
        exec (.alarmEdge z high) s = .next ((s.setZone z.val after).notice 0x83
          (num1 z.val ++ flags1 1 ++ flags1 after.flags ++ num1 a.code ++ flag1 after.inService ++
            ser4 s.clk.serial)).lineChoice) ∧
      (hit = false ∨ (s.zone z.val).flags.getLsbD 0 = true ∨ after.settings.noticeEnable = false →
        exec (.alarmEdge z high) s = .next (s.setZone z.val after).lineChoice))

/-- A word-time of the frame: the port of each keyed zone in its data field offers the next word of its group's current
image (R113, R135). A keyed zone outside its data field, in the settle or at or past S + 4 + D, and every other zone are
left as they are. That a zone in no current plan offers nothing is the model's reading (log 24); the count of words offered
and the port register are its choices (log 8); so is that the command stands at its own moment of the frame, and does
nothing elsewhere (logs 2, 3). -/
def Obligations.WordOfferDrivesKeyedPorts : Prop :=
  (∀ (s : State) (k : Nat), k < 500 → s.reaches (100 * k) →
    ∃ t : State, exec (.wordOffer k) s = .next t ∧
      t = ((s.withClk { s.clk with position := 100 * k }).withZon { s.zon with zones := t.zon.zones }).withLnk
        s.lnk.choose ∧
      (∀ z < 8, ∀ g p i, s.planGroup z = some g → (s.group g).current = some p → (s.images g).current = some i →
        (s.zone z).keyed = true → p.settle ≤ k → k < p.settle + 4 + p.capacity →
        t.zone z = { s.zone z with offered := k - p.settle + 1,
                                   port := i.words[i.offeredIndex (k - p.settle)]? }) ∧
      (∀ z, (s.zone z).keyed = false → t.zone z = s.zone z) ∧
      (∀ z, s.planGroup z = none → t.zone z = s.zone z) ∧
      (∀ z g p, s.planGroup z = some g → (s.group g).current = some p →
        k < p.settle ∨ p.settle + 4 + p.capacity ≤ k ∨ (s.images g).current = none → t.zone z = s.zone z)) ∧
  (∀ (s : State) (k : Nat), 500 ≤ k ∨ ¬s.reaches (100 * k) → exec (.wordOffer k) s = .next s.lineChoice)

/-- The reordering of the message field sends each image word exactly once, and the header, address words and trailing fill
in their places (R135). -/
def Obligations.OfferOrderIsPermutation : Prop :=
  ∀ i : Image, i.depth = 1 ∨ i.depth = 2 ∨ i.depth = 4 ∨ i.depth = 8 →
    Function.Injective i.offeredIndex ∧
    (∀ k, k < 4 + i.p → i.offeredIndex k = k) ∧ (∀ k, 4 + i.used ≤ k → i.offeredIndex k = k) ∧
    (∀ k, 4 + i.p ≤ k → k < 4 + i.used →
      4 + i.p ≤ i.offeredIndex k ∧ i.offeredIndex k < 4 + i.used ∧
      (i.offeredIndex k - (4 + i.p)) / i.depth = (k - (4 + i.p)) / i.depth ∧
      (i.offeredIndex k - (4 + i.p)) % i.depth =
        (match i.order with
          | .sequential => (i.serial.toNat % 64 % i.depth + (k - (4 + i.p)) % i.depth) % i.depth
          | .interleaved => (i.serial.toNat % 64 % i.depth) ^^^ ((k - (4 + i.p)) % i.depth)))

/-- A site that takes an offered word raises the zone's words taken, and a site takes at most the words offered (R113); at
the end of its data field each zone still keyed is unkeyed and judged on its words taken, a fault raising ALIGN FAULT with
its ZONE NOTICE in ascending zone number, and no other zone changes (R114, R115). The bound by the words offered is the
model's choice (logs 2, 8), and so is that the command stands at its own moment of the frame, and does nothing elsewhere
(logs 2, 3). That the notice reports the service as the event leaves it is the model's reading (log 25). -/
def Obligations.WordsTakenAreCountedAndJudged : Prop :=
  (∀ (s : State) (z : Fin 8),
    ((s.zone z.val).keyed = true → (s.zone z.val).wordsTaken < (s.zone z.val).offered →
      exec (.wordTaken z) s =
        .next (s.setZone z.val { s.zone z.val with wordsTaken := (s.zone z.val).wordsTaken + 1 }).lineChoice) ∧
    ((s.zone z.val).keyed = false ∨ (s.zone z.val).offered ≤ (s.zone z.val).wordsTaken →
      exec (.wordTaken z) s = .next s.lineChoice)) ∧
  (∀ (s : State) (k : Nat), k < 500 → s.reaches (100 * k) →
    ∃ t : State, exec (.dataFieldEnd k) s = .next t ∧
      t = ((s.withClk { s.clk with position := 100 * k }).withZon { s.zon with zones := t.zon.zones }).withLnk t.lnk ∧
      (∀ z < 8, ∀ p, s.zonePlan z = some p → (s.zone z).keyed = true → p.settle + 4 + p.capacity = k →
        t.zone z = { s.zone z with
          keyed := false, port := none,
          alignFaults := if (s.zone z).wordsTaken = 4 + p.capacity then (s.zone z).alignFaults
            else min ((s.zone z).alignFaults + 1) 65535,
          flags := if (s.zone z).wordsTaken = 4 + p.capacity then (s.zone z).flags else (s.zone z).flags ||| 4,
          faulted := if (s.zone z).wordsTaken ≠ 4 + p.capacity ∧ (s.zone z).settings.autoRemove = true then true
            else (s.zone z).faulted }) ∧
      (∀ z, (s.zone z).keyed = false → t.zone z = s.zone z) ∧
      (∀ z p, s.zonePlan z = some p → p.settle + 4 + p.capacity ≠ k → t.zone z = s.zone z) ∧
      (∀ z, s.zonePlan z = none → t.zone z = s.zone z) ∧
      t.lnk = (s.lnk.raise (((List.range 8).filter (fun z =>
          !(s.zone z).flags.getLsbD 2 && (t.zone z).flags.getLsbD 2 && (s.zone z).settings.noticeEnable)).map
        (fun z => zoneNotice z 4 ((s.zone z).flags ||| 4) (t.zone z) s.clk.serial))).choose) ∧
  (∀ (s : State) (k : Nat), 500 ≤ k ∨ ¬s.reaches (100 * k) → exec (.dataFieldEnd k) s = .next s.lineChoice)

/-! ### The frame builder (chapter 7) -/

/-- AIR ON from HALTED with the clock RUNNING, and the refusals of the other states (R122, R123). AIR OFF: STOPPING, every
next image and BUILDING map discarded, the current images and counters untouched; each placed delivery of them is reverted,
and filed or EXPIRED LIFETIME; the reply counts the images, the deliveries reverted that stay live, and those that expired
(R79, R124), in 1, 2 and 2 bytes, widths that are the model's reading (log 23). Each is refused when malformed (section
7.2); that the payload is judged before the air and clock states is the model's choice (log 28). -/
def Obligations.AirTurnsOnAndOff : Prop :=
  (∀ (s : State) (tag : Byte), s.ready { kind := 0x60, tag := tag, payload := [] } →
    (s.bld.air = .on ∨ (s.bld.air = .halted ∧ s.clk.state = .stopped) →
      Refuses (.airOn tag []) s { kind := 0x60, tag := tag, payload := [] } .wrongState) ∧
    (s.bld.air = .stopping → Refuses (.airOn tag []) s { kind := 0x60, tag := tag, payload := [] } .busy) ∧
    (s.bld.air = .halted → s.clk.state = .running →
      exec (.airOn tag []) s = .next ((s.taken.withBld { s.bld with air := .on }).answered
        { kind := 0x60, tag := tag, payload := [] }
        (.accept (ser4 (if s.clk.buildPassed then s.clk.serial + 2 else s.clk.serial + 1)))))) ∧
  (∀ (s : State) (tag : Byte), s.ready { kind := 0x61, tag := tag, payload := [] } →
    (s.bld.air = .halted → Refuses (.airOff tag []) s { kind := 0x61, tag := tag, payload := [] } .wrongState) ∧
    (s.bld.air = .stopping → Refuses (.airOff tag []) s { kind := 0x61, tag := tag, payload := [] } .busy) ∧
    (s.bld.air = .on →
      ∃ t : State, exec (.airOff tag []) s = .next t ∧ t.bld.air = .stopping ∧
        (∀ g < 4, (t.images g).next = none ∧ (t.maps g).building = none ∧
          (t.images g).current = (s.images g).current ∧ (t.images g).built = (s.images g).built ∧
          (t.images g).launched = (s.images g).launched ∧ (t.images g).dropped = (s.images g).dropped ∧
          (t.images g).pagesLaunched = (s.images g).pagesLaunched) ∧
        (∀ n, s.inNextImage n = true → ∀ d, t.live n = some d → d.state ≠ .placed) ∧
        (∀ n, s.inNextImage n = false → t.live n = s.live n) ∧
        t.clk = s.clk ∧ t.zon = s.zon ∧ t.dir.map = s.dir.map ∧ t.act.tariffs = s.act.tariffs ∧ t.pending = s.pending)) ∧
  (∀ (s t : State) (tag : Byte) (placed : List Nat), s.ready { kind := 0x61, tag := tag, payload := [] } →
    s.bld.air = .on → Table.wf .fresh s.dlv.records = true → exec (.airOff tag []) s = .next t →
    placed.Pairwise (· < ·) →
    (∀ n, n ∈ placed ↔ s.inNextImage n = true ∧ ∃ d, s.live n = some d ∧ d.state = .placed) →
    (∀ n d, s.live n = some d →
      (n ∉ placed → t.live n = some d) ∧
      (n ∈ placed → s.refiled t n (d.undone ((s.sub d.subscriber).nextEligible s.clk.earliestUnbuilt)))) ∧
    (∀ g < 4, rewrittenRole (s.losesSlot 0 g) .empty (s.maps g).current (t.maps g).current ∧
      rewrittenRole (s.losesSlot 0 g) .empty (s.maps g).previous (t.maps g).previous) ∧
    t.jnl.records.length = s.jnl.records.length + (placed.filter (fun n => (t.live n).isNone)).length ∧
    ∃ u : State, u.lnk.requests = s.lnk.requests.drop 1 ∧ u.lnk.replies = s.lnk.replies ∧
      t = u.answered { kind := 0x61, tag := tag, payload := [] }
        (.accept (num1 ((List.range 4).filter (fun g => (s.images g).next.isSome)).length ++
          num2 (placed.filter (fun n => (t.live n).isSome)).length ++
          num2 (placed.filter (fun n => (t.live n).isNone)).length))) ∧
  (∀ (s : State) (tag : Byte) (p : List Byte), s.ready { kind := 0x60, tag := tag, payload := p } → p.length ≠ 0 →
    Refuses (.airOn tag p) s { kind := 0x60, tag := tag, payload := p } .badRequest) ∧
  (∀ (s : State) (tag : Byte) (p : List Byte), s.ready { kind := 0x61, tag := tag, payload := p } → p.length ≠ 0 →
    Refuses (.airOff tag p) s { kind := 0x61, tag := tag, payload := p } .badRequest)

/-- An entry is placed in every group of its candidate set, or in none (R129). The candidates are the groups of the target
set that have an image open (R126); the target set is home for a ONE-WAY delivery, and for attempt 1, 2 and later of a
TWO-WAY one the fresh group of last heard or home, home with the fresh group, and coverage (R155), last heard being fresh
for 1,024 frames and within coverage (R16). A group passes with room for the entry and, for a TWO-WAY one, a free usable
slot, the lowest of which is taken (R127, R128). A placement appends one entry to each of those images and to no other,
claims each slot in the map of the frame built and changes no other slot, and takes the delivery out of its calendar list
(R78, R130, R144). A deferral leaves every image and map as it was, and re-files the delivery (R75, R77). -/
def Obligations.PlacementIsAllOrNothing : Prop :=
  (∀ (s : State) (n : Nat) (d : Delivery) (x : Serial) (cand : GroupSet), s.live n = some d →
    cand = s.candidates d x →
    (cand ≠ 0 → (∀ g ∈ members 4 cand, s.groupPasses d g = true) →
      (∃ a : Attempt, (s.tryPlace n d x).live n = some { d with
          state := .placed, last := some a,
          attemptsMade := if d.kind = .twoWay then d.attemptsMade + 1 else d.attemptsMade } ∧
        a.serial = x ∧ a.carried = cand ∧ a.mark = d.nextMark ∧ a.checkedIn = false ∧
        (d.kind = .oneWay → a.slots = []) ∧
        (d.kind = .twoWay → a.slots.map (fun p => p.1) = members 4 cand ∧
          ∀ p ∈ a.slots, s.slotFor p.1 = some p.2) ∧
        (∀ g, (s.maps g).rewritten ((s.tryPlace n d x).maps g) (fun frame j => frame = x ∧ (g, j) ∈ a.slots)
          (.claimed (s.ticket n)))) ∧
      (∀ g ∈ members 4 cand, ∀ i, (s.images g).next = some i →
        (s.tryPlace n d x).images g = { s.images g with next := some { i with pages := i.pages ++
          [{ ticket := s.ticket n, address := (s.sub d.subscriber).address, encoding := d.encoding,
             bodyWords := d.words - 2, mark := d.nextMark,
             slot := if d.kind = .twoWay then s.slotFor g else none }] } }) ∧
      (∀ g, g ∉ members 4 cand → (s.tryPlace n d x).images g = s.images g) ∧
      (∀ k, (s.tryPlace n d x).calList k =
        if d.state.waiting = true ∧ k = frameNumber d.due then (s.calList k).filter (fun m => m ≠ n) else s.calList k) ∧
      (∀ m, m ≠ n → (s.tryPlace n d x).record m = s.record m) ∧
      s.tryPlace n d x = ((s.withDlv (s.tryPlace n d x).dlv).withBld { s.bld with
        images := (s.tryPlace n d x).bld.images }).withRcp { s.rcp with maps := (s.tryPlace n d x).rcp.maps }) ∧
    (cand = 0 ∨ (∃ g ∈ members 4 cand, s.groupPasses d g = false) →
      (s.tryPlace n d x).bld = s.bld ∧ (s.tryPlace n d x).rcp = s.rcp ∧
      s.refiled (s.tryPlace n d x) n
        { d with deferrals := min (d.deferrals + 1) 255, due := (s.sub d.subscriber).nextEligible (x + 1) } ∧
      (∀ e, (s.tryPlace n d x).live n = some e →
        e = { d with deferrals := min (d.deferrals + 1) 255, due := (s.sub d.subscriber).nextEligible (x + 1) }))) ∧
  (∀ (s : State) (d : Delivery) (x : Serial) (u : Subscriber) (fresh : Nat → Prop), u = s.sub d.subscriber →
    (∀ g, fresh g ↔ ∃ h, u.heard = some h ∧ h.group = g ∧ (x - h.serial).toNat ≤ 1024 ∧ u.coverage.getLsbD g = true) →
    ∀ g < 4, ((s.candidates d x).getLsbD g = true ↔ (s.images g).next ≠ none ∧
      ((d.kind = .oneWay → u.home.getLsbD g = true) ∧
        (d.kind = .twoWay → d.attemptsMade = 0 → fresh g ∨ ((∀ h, ¬fresh h) ∧ u.home.getLsbD g = true)) ∧
        (d.kind = .twoWay → d.attemptsMade = 1 → fresh g ∨ u.home.getLsbD g = true) ∧
        (d.kind = .twoWay → 2 ≤ d.attemptsMade → u.coverage.getLsbD g = true))) ∧
      (s.groupPasses d g = true ↔
        (∃ i : Image, (s.images g).next = some i ∧ i.p + 1 + paddedTo i.depth (i.m + d.words - 1) ≤ i.capacity) ∧
        (d.kind = .twoWay → ∃ j, s.slotFor g = some j)) ∧
      (∀ j, s.slotFor g = some j ↔ ∃ m : ReceiptMap, (s.maps g).building = some m ∧ j < 16 ∧
        m.usable.getLsbD j = true ∧ m.slot j = .empty ∧
        ∀ k < j, m.usable.getLsbD k = true → m.slot k ≠ .empty))

/-! ### Receipts and check-ins (chapter 8) -/

/-- An arriving return record: a good RECEIPT or CHECK-IN joins the queue with its stamps, meets a full queue, or is bad and
counted: its sum is not 0, its kind is neither of the two, or its length is not that of its kind (R141, R196). Bits 1..0 of a
RECEIPT's frame byte are ignored, whatever they are (R196). That a record
with another number of bytes than its length byte says is bad too is the model's reading (log 17).
That a bad record that meets a full queue counts as bad alone is the model's choice (log 30). -/
def Obligations.ReturnRecordsAreQueuedOrCounted : Prop :=
  ∀ (s : State) (z : Fin 8),
    (∀ frame ignored slot reply check, frame < 64 → ignored < 4 → slot < 16 → reply < 16 →
      (s.queue z.val).length < 8 →
      exec (.returnRecordArrival z (Payload.receiptWith frame ignored slot reply check)) s =
        .next (s.setQueue z.val (s.queue z.val ++ [.receipt frame slot reply check])).lineChoice) ∧
    (∀ a, (s.queue z.val).length < 8 →
      exec (.returnRecordArrival z (Payload.checkIn a)) s =
        .next (s.setQueue z.val (s.queue z.val ++ [.checkIn a s.clk.serial (s.planGroup z.val)])).lineChoice) ∧
    (∀ frame ignored slot reply check a bytes, frame < 64 → ignored < 4 → slot < 16 → reply < 16 →
      8 ≤ (s.queue z.val).length → bytes = Payload.receiptWith frame ignored slot reply check ∨ bytes = Payload.checkIn a →
      exec (.returnRecordArrival z bytes) s =
        .next (s.setZone z.val { s.zone z.val with overruns := min ((s.zone z.val).overruns + 1) 65535 }).lineChoice) ∧
    (∀ bytes, byteSum bytes ≠ 0 ∨ (bytes.head? ≠ some 0x31 ∧ bytes.head? ≠ some 0x32) ∨
        (bytes.head? = some 0x31 ∧ (bytes[1]? ≠ some 3 ∨ bytes.length ≠ 6)) ∨
        (bytes.head? = some 0x32 ∧ (bytes[1]? ≠ some 2 ∨ bytes.length ≠ 5)) →
      exec (.returnRecordArrival z bytes) s =
        .next (s.setZone z.val { s.zone z.val with
          recordErrors := min ((s.zone z.val).recordErrors + 1) 65535 }).lineChoice)

/-- A RECEIPT that matches nothing: STRAY, MISMATCH and DUPLICATE raise their counters and change nothing else (R146, R147,
R149). The map looked up is the CURRENT or PREVIOUS map whose frame number the receipt names and whose member set holds the
zone; a BUILDING map is never found (R146). -/
def Obligations.UnmatchedReceiptsAreCounted : Prop :=
  (∀ (s u : State) (z : Fin 8) (frame slot reply : Nat) (check : Byte) (rest : List ReturnRecord), slot < 16 →
    s.queue z.val = .receipt frame slot reply check :: rest → u = s.setQueue z.val rest →
    (s.heldMap z.val frame = none ∨
        (∃ m : ReceiptMap, s.heldMap z.val frame = some m ∧ (m.slot slot = .empty ∨ m.usable.getLsbD slot = false)) →
      exec (.receiptTaken z) s =
        .next ((u.setZone z.val { u.zone z.val with
          strayReceipts := min ((u.zone z.val).strayReceipts + 1) 65535 }).setCounters
            { u.rcp.counters with stray := u.rcp.counters.stray + 1 }).lineChoice) ∧
    (∀ m k kept, s.heldMap z.val frame = some m → m.usable.getLsbD slot = true → m.slot slot = .answered k kept →
      (check ≠ kept → exec (.receiptTaken z) s =
        .next (u.setCounters { u.rcp.counters with mismatch := u.rcp.counters.mismatch + 1 }).lineChoice) ∧
      (check = kept → exec (.receiptTaken z) s =
        .next (u.setCounters { u.rcp.counters with duplicate := u.rcp.counters.duplicate + 1 }).lineChoice)) ∧
    (∀ m k d, s.heldMap z.val frame = some m → m.usable.getLsbD slot = true → m.slot slot = .claimed k →
      s.named k = some d → check ≠ (s.sub d.subscriber).address.setWidth 8 →
      exec (.receiptTaken z) s =
        .next (u.setCounters { u.rcp.counters with mismatch := u.rcp.counters.mismatch + 1 }).lineChoice)) ∧
  (∀ (s : State) (z f : Nat) (found : ReceiptMap → Prop),
    (∀ m, found m ↔ (∃ g < 4, (s.maps g).current = some m ∨ (s.maps g).previous = some m) ∧ frameNumber m.serial = f ∧
      m.members.getLsbD z = true) →
    (∀ m, s.heldMap z f = some m → found m) ∧
    (s.heldMap z f = none ↔ ∀ m, ¬found m) ∧
    ((∀ m n, found m → found n → m.members &&& n.members ≠ 0 → m = n) → ∀ m, s.heldMap z f = some m ↔ found m) ∧
    (∀ t : State, (∀ g, (t.maps g).current = (s.maps g).current ∧ (t.maps g).previous = (s.maps g).previous) →
      t.heldMap z f = s.heldMap z f))

/-- A RECEIPT that agrees with a CLAIMED slot of the CURRENT or PREVIOUS map for its frame number and zone ends the delivery
DELIVERED: its slots become ANSWERED, last heard and the counters are reported, and one usage record is written with the
heard group and reply code (R148, R83, R15, R17). -/
def Obligations.MatchedReceiptDelivers : Prop :=
  ∀ (s : State) (z : Fin 8) (frame slot reply : Nat) (check : Byte) (rest : List ReturnRecord) (m : ReceiptMap)
    (g : Nat) (k : Ticket) (d : Delivery) (a : Attempt), slot < 16 → reply < 16 →
    s.queue z.val = .receipt frame slot reply check :: rest →
    g < 4 → (s.maps g).current = some m ∨ (s.maps g).previous = some m → frameNumber m.serial = frame →
    m.members.getLsbD z.val = true →
    (∀ h < 4, ∀ n : ReceiptMap, (s.maps h).current = some n ∨ (s.maps h).previous = some n → frameNumber n.serial = frame →
      n.members.getLsbD z.val = true → n = m) →
    m.usable.getLsbD slot = true → m.slot slot = .claimed k → s.named k = some d → d.last = some a →
    check = (s.sub d.subscriber).address.setWidth 8 →
    ∃ (t : State) (u : UsageRecord), exec (.receiptTaken z) s = .next t ∧ t.live k.number = none ∧
      (∀ j, j ≠ k.number → t.record j = s.record j) ∧
      t.jnl.records = s.jnl.records ++ [u] ∧ u.ticket = k ∧ u.ending = .delivered ∧ u.reason = .none ∧
      u.endSerial = s.clk.serial ∧ u.chargeSpan = min (memberCount 4 a.carried) d.holdSpan ∧ u.charge ≤ d.hold ∧
      u.heardGroup = some m.group ∧ u.replyCode = (if reply = 0 then none else some reply) ∧
      t.queue z.val = rest ∧ (t.zone z.val).receiptsHeard = min ((s.zone z.val).receiptsHeard + 1) 65535 ∧
      t.rcp.counters = { s.rcp.counters with delivered := s.rcp.counters.delivered + 1 } ∧
      (t.sub d.subscriber).receipts = min ((s.sub d.subscriber).receipts + 1) 65535 ∧
      (t.sub d.subscriber).live = (s.sub d.subscriber).live - 1 ∧
      (∀ h, (s.sub d.subscriber).heard = some h → atOrBefore h.serial m.serial = false →
        (t.sub d.subscriber).heard = some h) ∧
      ((s.sub d.subscriber).heard = none ∨
        (∃ h : Heard, (s.sub d.subscriber).heard = some h ∧ atOrBefore h.serial m.serial = true) →
        (t.sub d.subscriber).heard = some { group := m.group, serial := m.serial }) ∧
      (∀ p ∈ a.slots, ∀ c, (t.maps p.1).current = some c → c.serial = a.serial → c.slot p.2 = .answered k check) ∧
      (∀ p ∈ a.slots, ∀ c, (t.maps p.1).previous = some c → c.serial = a.serial → c.slot p.2 = .answered k check) ∧
      t.clk = s.clk ∧ t.bld = s.bld ∧ t.dir.map = s.dir.map

/-- A CHECK-IN from an unknown unit is counted and raises its notice; one from a known unit is counted, reports last heard
when it has an arrival group, which a newer last heard outlives (R15), sets checked-in-since on the unit's TWO-WAY deliveries on air or awaiting a receipt, and
re-files those waiting to retry (R157, R158, R83). Its ONE-WAY deliveries are left as they are (R154), which R83 and R158 do
not say: the model's choice (log 27). -/
def Obligations.CheckInsAreApplied : Prop :=
  ∀ (s : State) (z : Fin 8) (address : Word) (arrival : Serial) (group : Option Nat) (rest : List ReturnRecord),
    s.queue z.val = .checkIn address arrival group :: rest →
    (s.lookup address = none →
      ∃ t : State, exec (.checkInTaken z) s = .next t ∧
        t = ((s.withZon t.zon).withRcp t.rcp).withLnk t.lnk ∧
        t.lnk = (s.lnk.notice 0x86 (num1 z.val ++ num2 address.toNat ++ ser4 arrival)).choose ∧
        t.rcp.counters = { s.rcp.counters with unknown := s.rcp.counters.unknown + 1 } ∧ t.queue z.val = rest ∧
        (∀ g, t.maps g = s.maps g) ∧
        (∀ y, t.zone y = if y = z.val then { s.zone y with checkIns := min ((s.zone y).checkIns + 1) 65535 }
          else s.zone y)) ∧
    (∀ n, s.lookup address = some n →
      ∃ t : State, exec (.checkInTaken z) s = .next t ∧
        t.rcp.counters = { s.rcp.counters with known := s.rcp.counters.known + 1 } ∧ t.queue z.val = rest ∧
        (∀ g, t.maps g = s.maps g) ∧
        (∀ y, t.zone y = if y = z.val then { s.zone y with checkIns := min ((s.zone y).checkIns + 1) 65535 }
          else s.zone y) ∧
        (t.sub n).checkIns = min ((s.sub n).checkIns + 1) 65535 ∧
        (group = none → (t.sub n).heard = (s.sub n).heard) ∧
        (∀ g, group = some g → (∀ h, (s.sub n).heard = some h → atOrBefore h.serial arrival = true) →
          (t.sub n).heard = some { group := g, serial := arrival }) ∧
        (∀ h, (s.sub n).heard = some h → atOrBefore h.serial arrival = false → (t.sub n).heard = some h) ∧
        (∀ j d, s.live j = some d →
          d.subscriber ≠ n ∨ d.kind = .oneWay ∨ d.state = .queued ∨ d.state = .placed → t.live j = some d) ∧
        (∀ j d, s.live j = some d → d.subscriber = n → d.kind = .twoWay → d.state = .onAir ∨ d.state = .awaitReceipt →
          t.live j = some { d with last := d.last.map (fun a => { a with checkedIn := true }) }) ∧
        (∀ j d due, s.live j = some d → d.subscriber = n → d.kind = .twoWay → d.state = .retryWait →
          due = (s.sub n).nextEligible s.clk.earliestUnbuilt →
          (atOrBefore due d.deadline = true →
            t.live j = some { d with nextMark := .retryAfterCheckIn, due := due }) ∧
          (atOrBefore due d.deadline = false → t.live j = none)) ∧
        t.clk = s.clk ∧ t.bld = s.bld ∧ t.dir.map = s.dir.map)

/-! ### Settlement and the usage journal (chapter 9) -/

/-- Ending and settlement: the account, the journal, the live count, the body and the record, each changed once, the
delivery out of its calendar list, and nothing else but the notices (R41, R85, R164 to R168); the record takes the free
values of R69 (log 20). The usage record holds the fields of R166, with the charge that the trim and the tariff entry in
force at settlement give (R40, R164). A JOURNAL NOTICE is raised when the append reaches the watermark, ahead of a DELIVERY
NOTICE when the notice mode or an EXPIRED outcome calls for one (R167, R171). -/
def Obligations.SettlementIsOneStep : Prop :=
  ∀ (s t : State) (n : Nat) (d : Delivery) (e : Ending) (r : Reason) (span : Nat) (c : Nat × ChargeFlags) (u : UsageRecord)
    (l : Link),
    span = (match e with
      | .delivered | .sent => min (match d.last with | some a => memberCount 4 a.carried | none => 0) d.holdSpan
      | .expired | .cancelled => 0) →
    c = (s.tariff (s.acct d.account).tariff).charge e d.words span d.priority (s.sub d.subscriber).trim d.hold →
    u = { sequence := s.jnl.sequence, ticket := { number := n, issue := (s.record n).issue }, subscriber := d.subscriber,
          account := d.account, kind := d.kind, ending := e, reason := r, charge := c.1, hold := d.hold, chargeSpan := span,
          holdSpan := d.holdSpan, words := d.words, priority := d.priority, attemptsMade := d.attemptsMade,
          deferrals := d.deferrals, intake := d.intake, endSerial := s.clk.serial, flags := c.2, replyCode := d.replyCode,
          heardGroup := d.heardGroup } →
    l = (if s.jnl.records.length + 1 = s.jnl.watermark then
        s.lnk.notice 0x84 (num2 (s.jnl.records.length + 1) ++ num2 (s.jnl.reservation - 1) ++ num2 s.jnl.watermark ++
          ser4 s.jnl.sequence) else s.lnk) →
    t = s.endDelivery n d e r →
    t.live n = none ∧ t.fields n = .free ∧ (t.record n).issue = (s.record n).issue ∧ (∀ m, m ≠ n → t.record m = s.record m) ∧
    t.dlv.sequence = s.dlv.sequence ∧
    t.jnl = { s.jnl with records := s.jnl.records ++ [u], reservation := s.jnl.reservation - 1,
                         sequence := s.jnl.sequence + 1 } ∧
    (∀ k, t.acct k = if k = d.account then { s.acct k with
        balance := max ((s.acct k).balance - u.charge) (-8388608),
        reserved := (s.acct k).reserved - d.hold,
        settled := min ((s.acct k).settled + 1) 4294967295,
        charged := min ((s.acct k).charged + u.charge) 4294967295 } else s.acct k) ∧
    (∀ m, t.sub m = if m = d.subscriber then { s.sub m with live := (s.sub m).live - 1 } else s.sub m) ∧
    ((s.body d.body).refs ≤ 1 → t.body d.body = .free ∧
      ∀ b, t.block b = if b ∈ (s.body d.body).blocks then none else s.block b) ∧
    (2 ≤ (s.body d.body).refs →
      t.body d.body = { s.body d.body with refs := (s.body d.body).refs - 1 } ∧ ∀ b, t.block b = s.block b) ∧
    (∀ b, b ≠ d.body → t.body b = s.body b) ∧
    (∀ k, t.calList k = (match s.live n with
      | some f => if f.state.waiting = true ∧ k = frameNumber f.due then (s.calList k).filter (fun m => m ≠ n)
        else s.calList k
      | none => s.calList k)) ∧
    (∀ p, t.profile p = s.profile p) ∧
    t.dir.map = s.dir.map ∧ t.act.tariffs = s.act.tariffs ∧ t.clk = s.clk ∧ t.zon = s.zon ∧ t.bld = s.bld ∧
    t.rcp = s.rcp ∧ t.pending = s.pending ∧
    t.lnk = (if d.noticeMode = .final ∨ d.noticeMode = .everyAttempt ∨ e = .expired then
      l.notice 0x81 (deliveryNoticeFields u) else l)

/-- TAKE USAGE and SET WATERMARK, with their clamps and refusals (R172, R173). The widths of the counts in their replies are
the model's reading (log 23). -/
def Obligations.JournalRequestsClamp : Prop :=
  ∀ (s : State) (tag : Byte),
    (∀ p, p.length ≠ 1 → s.ready { kind := 0x70, tag := tag, payload := p } →
      Refuses (.takeUsage tag p) s { kind := 0x70, tag := tag, payload := p } .badRequest) ∧
    (∀ (b : Byte) (count : Nat), count = (if b.toNat = 0 then 1 else if 32 < b.toNat then 32 else b.toNat) →
      s.ready { kind := 0x70, tag := tag, payload := [b] } →
      exec (.takeUsage tag [b]) s =
        .next ((s.taken.withJnl { s.jnl with records := s.jnl.records.drop count }).answered
          { kind := 0x70, tag := tag, payload := [b] }
          { status := .ok, clamped := b.toNat = 0 || 32 < b.toNat, saturated := false,
            data := num1 (min count s.jnl.records.length) ++ num2 (s.jnl.records.length - count) ++
              num2 s.jnl.reservation ++ ((s.jnl.records.take count).map UsageRecord.bytes).flatten })) ∧
    (∀ p, p.length ≠ 2 → s.ready { kind := 0x71, tag := tag, payload := p } →
      Refuses (.setWatermark tag p) s { kind := 0x71, tag := tag, payload := p } .badRequest) ∧
    (∀ v w : Nat, v < 65536 → w = (if v = 0 then 1 else if 8192 < v then 8192 else v) →
      s.ready { kind := 0x71, tag := tag, payload := num2 v } →
      exec (.setWatermark tag (num2 v)) s =
        .next ((s.taken.withJnl { s.jnl with watermark := w }).answered { kind := 0x71, tag := tag, payload := num2 v }
          { status := .ok, clamped := v = 0 || 8192 < v, saturated := false,
            data := num2 w ++ num2 s.jnl.records.length }))

/-- TRAFFIC RESET ends every live delivery CANCELLED RESET in ascending number with no charge, each settled in its account
and its subscriber's live count; empties the slots of the maps, which keep their other fields, and replaces the next images
by empty ones with the same plan values; leaves standing data, clock, zones and current images; and answers with the live
deliveries ended, the sequence number of the first record and the occupancy (R88, R89, R132, R162, R175), in 2, 4 and 2
bytes, widths that are the model's reading (log 23). Each settlement raises its notices in turn (R167, R171). A malformed
request is refused (R175). The freed records hold the free values of R69 (log 20). -/
def Obligations.TrafficResetEndsEveryDelivery : Prop :=
  (∀ (s : State) (tag : Byte), Table.wf .fresh s.dlv.records = true →
    s.ready { kind := 0x73, tag := tag, payload := [] } →
    ∃ (t : State) (written : List UsageRecord), exec (.trafficReset tag []) s = .next t ∧
      (∃ u : State, u.lnk = s.taken.lnk.raise ((List.range written.length).map (fun i => match written[i]? with
          | some w =>
            (if s.jnl.records.length + i + 1 = s.jnl.watermark then
              [(0x84, num2 (s.jnl.records.length + i + 1) ++ num2 (s.jnl.reservation - (i + 1)) ++ num2 s.jnl.watermark ++
                ser4 w.sequence)] else []) ++
            (if (s.fields w.ticket.number).noticeMode = .none then [] else [(0x81, deliveryNoticeFields w)])
          | none => [])).flatten ∧
        t = u.answered { kind := 0x73, tag := tag, payload := [] }
          (.accept (num2 s.liveTotal ++ ser4 s.jnl.sequence ++ num2 (s.jnl.records.length + s.liveTotal)))) ∧
      (∀ n, t.live n = none ∧ t.fields n = .free ∧ (t.record n).issue = (s.record n).issue) ∧ t.liveTotal = 0 ∧
      t.dlv.sequence = s.dlv.sequence ∧
      t.jnl.records = s.jnl.records ++ written ∧ t.jnl.watermark = s.jnl.watermark ∧
      t.jnl.reservation = s.jnl.reservation - written.length ∧
      (∀ i w, written[i]? = some w → w.sequence = s.jnl.sequence + BitVec.ofNat 32 i) ∧
      written.map (fun u => u.ticket.number) = s.liveNumbers ∧ s.liveNumbers.Pairwise (· < ·) ∧
      (∀ u ∈ written, u.ending = .cancelled ∧ u.reason = .reset ∧ u.charge = 0 ∧ u.chargeSpan = 0 ∧
        u.flags = { minimum := false, saturated := false, capped := false } ∧ u.endSerial = s.clk.serial) ∧
      (∀ g < 4, t.images g = { s.images g with next := (s.images g).next.map (fun i => { i with
          pages := [],
          words := [0x2DB4, 0xD24B, i.frameWord, BitVec.ofNat 16 (i.slotCount * 8)] ++
            List.replicate i.capacity 0xC3C3 }) } ∧
        (s.maps g).rewritten (t.maps g) (fun _ _ => True) .empty) ∧
      (∀ m, t.sub m = { s.sub m with
        live := (s.sub m).live - (s.liveDeliveries.filter (fun d => d.subscriber = m)).length }) ∧
      (∀ k (ended : List Delivery), ended = s.liveDeliveries.filter (fun d => d.account = k) →
        -8388608 ≤ (s.acct k).balance → (s.acct k).settled ≤ 4294967295 → (s.acct k).charged ≤ 4294967295 →
        t.acct k = { s.acct k with
          reserved := (s.acct k).reserved - (ended.map (fun d => d.hold)).sum,
          settled := min ((s.acct k).settled + ended.length) 4294967295 }) ∧
      (∀ k, (t.acct k).credit = (s.acct k).credit ∧ (t.acct k).state = (s.acct k).state ∧
        (t.acct k).tariff = (s.acct k).tariff ∧ (t.acct k).links = (s.acct k).links ∧
        (-8388608 ≤ (s.acct k).balance → (t.acct k).balance = (s.acct k).balance)) ∧
      (∀ p, t.profile p = s.profile p) ∧
      (s.calendarAgrees → ∀ k, t.calList k = []) ∧
      (s.bodiesAgree → ∀ b, (t.body b).inUse = false) ∧
      t.clk = s.clk ∧ t.zon = s.zon ∧ t.bld.air = s.bld.air ∧ t.dir.map = s.dir.map ∧ t.act.tariffs = s.act.tariffs ∧
      (∀ z, t.queue z = s.queue z) ∧ t.rcp.counters = s.rcp.counters ∧ t.pending = s.pending) ∧
  (∀ (s : State) (tag : Byte) (p : List Byte), s.ready { kind := 0x73, tag := tag, payload := p } → p.length ≠ 0 →
    Refuses (.trafficReset tag p) s { kind := 0x73, tag := tag, payload := p } .badRequest)

/-! ### Invariants that every step keeps -/

/-- Every table keeps its canonical form, the slot tables inside the receipt maps among them, so that equal tables are equal
data; the form is the model's own (log 20). -/
def Obligations.StepKeepsTablesCanonical : Prop :=
  ∀ s t : State, s.tablesCanonical → step s = .next t → t.tablesCanonical

/-- No queue ever holds more than its places (R141, R184, R187, R188), and the line never idles while a reply or a notice
waits (R187). -/
def Obligations.StepKeepsQueuesAndLine : Prop :=
  ∀ s t : State, step s = .next t →
    (s.queuesInRange → t.queuesInRange) ∧
    (s.lnk.lineBusy → t.lnk.lineBusy)

/-- The clock keeps its ranges: the position stays below the frame length, and a STOPPED clock stands at 0 (R90). The air is
ON or STOPPING only while the clock runs, and next images are held only while it is ON (R122). No step leaves an event of the
frame behind: a RUNNING clock is never past a build point not taken or the end of an open data field, nor at the end of its
frame (R92, R94, R114; that the events hold the clock is the model's choice of log 3). -/
def Obligations.StepKeepsClockAndAir : Prop :=
  ∀ s t : State, step s = .next t →
    (s.clockInRange → t.clockInRange) ∧
    (s.airFollowsClock → t.airFollowsClock) ∧
    (s.timeAgrees → t.timeAgrees)

/-- The directory map names exactly the records in use (R4); subscriber settings, balances, credit limits, tariff entries and
profiles stay in their ranges (R2, R3, R20, R31, R34). -/
def Obligations.StepKeepsStandingTables : Prop :=
  ∀ s t : State, step s = .next t →
    (s.mapAgrees → t.mapAgrees) ∧
    (s.subscribersInRange → t.subscribersInRange) ∧
    (s.fundsInRange → t.fundsInRange)

/-- The reservation count equals the live total, the journal never overflows, and the two sequences agree (R49, R169); the
reserved amount of every account is the sum of its live holds (R20); the live count of every subscriber is the number of its
live deliveries (R14); the reference count of every body is the number of live deliveries that carry it (R63, R66); the usage
records held carry consecutive sequence numbers (R169). -/
def Obligations.StepKeepsCounts : Prop :=
  ∀ s t : State, step s = .next t →
    (s.ledgerAgrees → t.ledgerAgrees) ∧
    (s.reservedAgrees → t.reservedAgrees) ∧
    (s.liveCountsAgree → t.liveCountsAgree) ∧
    (s.bodiesAgree → t.bodiesAgree) ∧
    (s.journalConsecutive → t.journalConsecutive)

/-- The calendar lists hold exactly the waiting deliveries, each once (R74). -/
def Obligations.StepKeepsCalendar : Prop :=
  ∀ s t : State, s.calendarAgrees → step s = .next t → t.calendarAgrees

/-- Settings stay in range and every plan fills its frame with D in 334..495 (R108, R111); no zone ever stands in the plans
of two groups for one frame (R110); in every image the address words and the padded message field fit the data capacity
(R127). -/
def Obligations.StepKeepsPlansAndImages : Prop :=
  ∀ s t : State, step s = .next t →
    (s.plansInRange → t.plansInRange) ∧
    (s.plansDisjoint → t.plansDisjoint) ∧
    (s.imagesFit → t.imagesFit)

/-- Reset meets every invariant. -/
def Obligations.ResetMeetsInvariants : Prop :=
  State.reset.tablesCanonical ∧ State.reset.queuesInRange ∧ State.reset.lnk.lineBusy ∧ State.reset.clockInRange ∧
  State.reset.airFollowsClock ∧ State.reset.timeAgrees ∧ State.reset.mapAgrees ∧ State.reset.subscribersInRange ∧
  State.reset.fundsInRange ∧ State.reset.ledgerAgrees ∧
  State.reset.reservedAgrees ∧ State.reset.liveCountsAgree ∧ State.reset.bodiesAgree ∧
  State.reset.calendarAgrees ∧ State.reset.imagesFit ∧
  State.reset.plansInRange ∧ State.reset.plansDisjoint ∧ State.reset.journalConsecutive
end

