-- ==== Sys2Proof/Laws/Table.lean ====
section
/-! SUPPORT. The laws of the sparse tables: a read after a write, and the canonical form that every write keeps. -/

namespace Sys2Proof.Machine

variable {α : Type}

/-! ### Reads -/

theorem Table.read_without_same (dflt : α) (t : Table α) (n : Nat) : Table.read dflt (t.without n) n = dflt := by
  induction t with
  | nil => rfl
  | cons e rest ih =>
    obtain ⟨k, v⟩ := e
    by_cases h : k = n
    · simp [Table.without, h] at ih ⊢
      exact ih
    · simp [Table.without, h, Table.read] at ih ⊢
      exact ih

theorem Table.read_without_other (dflt : α) (t : Table α) {n m : Nat} (h : m ≠ n) :
    Table.read dflt (t.without n) m = Table.read dflt t m := by
  induction t with
  | nil => rfl
  | cons e rest ih =>
    obtain ⟨k, v⟩ := e
    by_cases hk : k = n
    · subst hk
      have hm : ¬ k = m := fun e => h e.symm
      simp [Table.without, Table.read, hm] at ih ⊢
      exact ih
    · simp [Table.without, hk, Table.read] at ih ⊢
      rw [ih]

theorem Table.read_placed_same (dflt : α) (t : Table α) (n : Nat) (v : α)
    (h : ∀ e ∈ t, e.1 ≠ n) : Table.read dflt (Table.placed n v t) n = v := by
  induction t with
  | nil => simp [Table.placed, Table.read]
  | cons e rest ih =>
    obtain ⟨k, w⟩ := e
    have hk : k ≠ n := h (k, w) (by simp)
    have hr : ∀ e ∈ rest, e.1 ≠ n := fun e he => h e (by simp [he])
    simp only [Table.placed]
    split
    · simp [Table.read]
    · simp [Table.read, hk, ih hr]

theorem Table.read_placed_other (dflt : α) (t : Table α) {n m : Nat} (v : α) (h : m ≠ n) :
    Table.read dflt (Table.placed n v t) m = Table.read dflt t m := by
  have h' : ¬ n = m := fun e => h e.symm
  induction t with
  | nil => simp [Table.placed, Table.read, h']
  | cons e rest ih =>
    obtain ⟨k, w⟩ := e
    simp only [Table.placed]
    split
    · simp [Table.read, h']
    · simp [Table.read, ih]

theorem Table.mem_without {t : Table α} {n : Nat} {e : Nat × α} : e ∈ t.without n ↔ e ∈ t ∧ e.1 ≠ n := by
  simp [Table.without]

/-- A read after a write to the same number gives the entry written. -/
theorem Table.read_put_same [DecidableEq α] (dflt : α) (t : Table α) (n : Nat) (v : α) :
    Table.read dflt (Table.put dflt t n v) n = v := by
  unfold Table.put
  split
  · rename_i h; rw [h]; exact Table.read_without_same ..
  · exact Table.read_placed_same _ _ _ _ (fun e he => (Table.mem_without.mp he).2)

/-- A write leaves every other number alone. -/
theorem Table.read_put_other [DecidableEq α] {n m : Nat} (h : m ≠ n) (dflt : α) (t : Table α) (v : α) :
    Table.read dflt (Table.put dflt t n v) m = Table.read dflt t m := by
  unfold Table.put
  split
  · exact Table.read_without_other _ _ h
  · rw [Table.read_placed_other _ _ _ h, Table.read_without_other _ _ h]

theorem Table.read_put [DecidableEq α] (dflt : α) (t : Table α) (n m : Nat) (v : α) :
    Table.read dflt (Table.put dflt t n v) m = if m = n then v else Table.read dflt t m := by
  split
  · rename_i h; rw [h]; exact Table.read_put_same ..
  · rename_i h; exact Table.read_put_other h ..

/-! ### The canonical form -/

theorem Table.wfFrom_mono [DecidableEq α] {dflt : α} {lo lo' : Nat} (h : lo ≤ lo') {t : Table α}
    (hw : Table.wfFrom dflt lo' t = true) : Table.wfFrom dflt lo t = true := by
  cases t with
  | nil => rfl
  | cons e rest =>
    obtain ⟨k, v⟩ := e
    simp [Table.wfFrom] at hw ⊢
    exact ⟨⟨by omega, hw.1.2⟩, hw.2⟩

theorem Table.wfFrom_without [DecidableEq α] {dflt : α} {t : Table α} (n : Nat) :
    ∀ {lo : Nat}, Table.wfFrom dflt lo t = true → Table.wfFrom dflt lo (t.without n) = true := by
  induction t with
  | nil => intro lo _; rfl
  | cons e rest ih =>
    obtain ⟨k, v⟩ := e
    intro lo hw
    simp [Table.wfFrom] at hw
    have hrest := ih hw.2
    by_cases hk : k = n
    · have : Table.without ((k, v) :: rest) n = Table.without rest n := by simp [Table.without, hk]
      rw [this]
      exact Table.wfFrom_mono (by omega) hrest
    · have : Table.without ((k, v) :: rest) n = (k, v) :: Table.without rest n := by simp [Table.without, hk]
      rw [this]
      simp [Table.wfFrom, hw.1, hrest]

theorem Table.wfFrom_placed [DecidableEq α] {dflt : α} {t : Table α} {n : Nat} {v : α} (hv : v ≠ dflt) :
    ∀ {lo : Nat}, lo ≤ n → (∀ e ∈ t, e.1 ≠ n) → Table.wfFrom dflt lo t = true →
      Table.wfFrom dflt lo (Table.placed n v t) = true := by
  induction t with
  | nil => intro lo hlo _ _; simp [Table.placed, Table.wfFrom, hlo, hv]
  | cons e rest ih =>
    obtain ⟨k, w⟩ := e
    intro lo hlo hne hw
    have hk : k ≠ n := hne (k, w) (by simp)
    simp [Table.wfFrom] at hw
    simp only [Table.placed]
    split
    · simp [Table.wfFrom, hlo, hv, hw]; omega
    · have := ih (lo := k + 1) (by omega) (fun e he => hne e (by simp [he])) hw.2
      simp [Table.wfFrom, hw.1, this]

/-- Every write keeps the canonical form. -/
theorem Table.wf_put [DecidableEq α] {dflt : α} {t : Table α} (n : Nat) (v : α) (hw : Table.wf dflt t = true) :
    Table.wf dflt (Table.put dflt t n v) = true := by
  unfold Table.put Table.wf at *
  split
  · exact Table.wfFrom_without n hw
  · rename_i hv
    exact Table.wfFrom_placed hv (Nat.zero_le n) (fun e he => (Table.mem_without.mp he).2) (Table.wfFrom_without n hw)

theorem Table.wf_nil [DecidableEq α] (dflt : α) : Table.wf dflt ([] : Table α) = true := rfl

/-- The entries of a canonical table lie at or above its bound. -/
theorem Table.le_of_mem [DecidableEq α] {dflt : α} {t : Table α} :
    ∀ {lo : Nat}, Table.wfFrom dflt lo t = true → ∀ e ∈ t, lo ≤ e.1 := by
  induction t with
  | nil => intro lo _ e he; simp at he
  | cons a rest ih =>
    obtain ⟨k, v⟩ := a
    intro lo hw e he
    simp [Table.wfFrom] at hw
    rcases List.mem_cons.mp he with rfl | he
    · exact hw.1.1
    · have := ih hw.2 e he; omega

/-- In a canonical table a listed entry is what its number reads as. -/
theorem Table.read_of_mem [DecidableEq α] {dflt : α} {t : Table α} :
    ∀ {lo : Nat}, Table.wfFrom dflt lo t = true → ∀ {n : Nat} {v : α}, (n, v) ∈ t → Table.read dflt t n = v := by
  induction t with
  | nil => intro lo _ n v h; simp at h
  | cons a rest ih =>
    obtain ⟨k, w⟩ := a
    intro lo hw n v h
    simp [Table.wfFrom] at hw
    rcases List.mem_cons.mp h with he | h
    · cases he; simp [Table.read]
    · have := Table.le_of_mem hw.2 _ h
      have hk : ¬ k = n := by simp only at this; omega
      simp [Table.read, hk, ih hw.2 h]

/-- A number whose entry is not the default is listed. -/
theorem Table.mem_of_read {dflt : α} {t : Table α} {n : Nat} (h : Table.read dflt t n ≠ dflt) :
    (n, Table.read dflt t n) ∈ t := by
  induction t with
  | nil => simp [Table.read] at h
  | cons a rest ih =>
    obtain ⟨k, w⟩ := a
    by_cases hk : k = n
    · subst hk; simp [Table.read]
    · simp [Table.read, hk] at h ⊢
      exact Or.inr (ih h)

/-- The numbers that satisfy a test which the default fails are those whose entry satisfies it. -/
theorem Table.mem_numbers [DecidableEq α] {dflt : α} {t : Table α} (hw : Table.wf dflt t = true) {p : α → Bool}
    (hp : p dflt = false) (n : Nat) : n ∈ Table.numbers p t ↔ p (Table.read dflt t n) = true := by
  unfold Table.numbers
  simp only [List.mem_map, List.mem_filter]
  constructor
  · rintro ⟨⟨k, v⟩, ⟨hm, hv⟩, rfl⟩
    rw [Table.read_of_mem hw hm]; exact hv
  · intro h
    have hne : Table.read dflt t n ≠ dflt := by intro e; rw [e, hp] at h; cases h
    exact ⟨_, ⟨Table.mem_of_read hne, h⟩, rfl⟩

theorem Table.pairwise_of_wfFrom [DecidableEq α] {dflt : α} {t : Table α} :
    ∀ {lo : Nat}, Table.wfFrom dflt lo t = true → t.Pairwise (fun a b => a.1 < b.1) := by
  induction t with
  | nil => intro lo _; exact List.Pairwise.nil
  | cons a rest ih =>
    obtain ⟨k, w⟩ := a
    intro lo hw
    simp [Table.wfFrom] at hw
    exact List.pairwise_cons.mpr ⟨fun b hb => Table.le_of_mem hw.2 b hb, ih hw.2⟩

/-- The numbers of a canonical table ascend. -/
theorem Table.numbers_ascend [DecidableEq α] {dflt : α} {t : Table α} (hw : Table.wf dflt t = true) (p : α → Bool) :
    (Table.numbers p t).Pairwise (· < ·) := by
  unfold Table.numbers
  rw [List.pairwise_map]
  exact (Table.pairwise_of_wfFrom hw).filter _

/-! ### The lowest free number -/

theorem lowestFree_some {used : Nat → Bool} : ∀ {fuel n k : Nat}, lowestFree used fuel n = some k →
    n ≤ k ∧ k < n + fuel ∧ used k = false ∧ ∀ j, n ≤ j → j < k → used j = true := by
  intro fuel
  induction fuel with
  | zero => intro n k h; simp [lowestFree] at h
  | succ f ih =>
    intro n k h
    simp only [lowestFree] at h
    split at h
    · rename_i hu
      have := ih h
      refine ⟨by omega, by omega, this.2.2.1, fun j hj hjk => ?_⟩
      by_cases hjn : j = n
      · rw [hjn]; exact hu
      · exact this.2.2.2 j (by omega) hjk
    · rename_i hu
      cases h
      exact ⟨Nat.le_refl _, by omega, by simpa using hu, fun j hj hjk => by omega⟩

theorem lowestFree_none {used : Nat → Bool} : ∀ {fuel n : Nat},
    lowestFree used fuel n = none ↔ ∀ j, n ≤ j → j < n + fuel → used j = true := by
  intro fuel
  induction fuel with
  | zero => intro n; simp [lowestFree]; intro j h1 h2; omega
  | succ f ih =>
    intro n
    simp only [lowestFree]
    split
    · rename_i hu
      rw [ih]
      constructor
      · intro h j h1 h2
        by_cases hj : j = n
        · rw [hj]; exact hu
        · exact h j (by omega) (by omega)
      · intro h j h1 h2; exact h j (by omega) (by omega)
    · rename_i hu
      simp only [reduceCtorEq, false_iff, not_forall]
      exact ⟨n, Nat.le_refl _, by omega, hu⟩

end Sys2Proof.Machine
end

