-- ==== Sys2Proof/Laws/State.lean ====
section
/-! SUPPORT. What each update of the state leaves and what it writes: one lemma for each field of each update, and the reads
of each table after each write. -/

namespace Sys2Proof.Machine.State

variable (s : State)

/-! ### Block updates -/

@[simp] theorem withDir_dir (b : Directory) : (s.withDir b).dir = b := rfl
@[simp] theorem withDir_act (b : Directory) : (s.withDir b).act = s.act := rfl
@[simp] theorem withDir_txt (b : Directory) : (s.withDir b).txt = s.txt := rfl
@[simp] theorem withDir_dlv (b : Directory) : (s.withDir b).dlv = s.dlv := rfl
@[simp] theorem withDir_clk (b : Directory) : (s.withDir b).clk = s.clk := rfl
@[simp] theorem withDir_zon (b : Directory) : (s.withDir b).zon = s.zon := rfl
@[simp] theorem withDir_bld (b : Directory) : (s.withDir b).bld = s.bld := rfl
@[simp] theorem withDir_rcp (b : Directory) : (s.withDir b).rcp = s.rcp := rfl
@[simp] theorem withDir_jnl (b : Directory) : (s.withDir b).jnl = s.jnl := rfl
@[simp] theorem withDir_lnk (b : Directory) : (s.withDir b).lnk = s.lnk := rfl
@[simp] theorem withDir_pending (b : Directory) : (s.withDir b).pending = s.pending := rfl
@[simp] theorem withDir_withDir (b c : Directory) : (s.withDir b).withDir c = s.withDir c := rfl
@[simp] theorem withDir_self : s.withDir s.dir = s := rfl

@[simp] theorem withAct_dir (b : AccountUnit) : (s.withAct b).dir = s.dir := rfl
@[simp] theorem withAct_act (b : AccountUnit) : (s.withAct b).act = b := rfl
@[simp] theorem withAct_txt (b : AccountUnit) : (s.withAct b).txt = s.txt := rfl
@[simp] theorem withAct_dlv (b : AccountUnit) : (s.withAct b).dlv = s.dlv := rfl
@[simp] theorem withAct_clk (b : AccountUnit) : (s.withAct b).clk = s.clk := rfl
@[simp] theorem withAct_zon (b : AccountUnit) : (s.withAct b).zon = s.zon := rfl
@[simp] theorem withAct_bld (b : AccountUnit) : (s.withAct b).bld = s.bld := rfl
@[simp] theorem withAct_rcp (b : AccountUnit) : (s.withAct b).rcp = s.rcp := rfl
@[simp] theorem withAct_jnl (b : AccountUnit) : (s.withAct b).jnl = s.jnl := rfl
@[simp] theorem withAct_lnk (b : AccountUnit) : (s.withAct b).lnk = s.lnk := rfl
@[simp] theorem withAct_pending (b : AccountUnit) : (s.withAct b).pending = s.pending := rfl
@[simp] theorem withAct_withAct (b c : AccountUnit) : (s.withAct b).withAct c = s.withAct c := rfl
@[simp] theorem withAct_self : s.withAct s.act = s := rfl

@[simp] theorem withTxt_dir (b : TextStore) : (s.withTxt b).dir = s.dir := rfl
@[simp] theorem withTxt_act (b : TextStore) : (s.withTxt b).act = s.act := rfl
@[simp] theorem withTxt_txt (b : TextStore) : (s.withTxt b).txt = b := rfl
@[simp] theorem withTxt_dlv (b : TextStore) : (s.withTxt b).dlv = s.dlv := rfl
@[simp] theorem withTxt_clk (b : TextStore) : (s.withTxt b).clk = s.clk := rfl
@[simp] theorem withTxt_zon (b : TextStore) : (s.withTxt b).zon = s.zon := rfl
@[simp] theorem withTxt_bld (b : TextStore) : (s.withTxt b).bld = s.bld := rfl
@[simp] theorem withTxt_rcp (b : TextStore) : (s.withTxt b).rcp = s.rcp := rfl
@[simp] theorem withTxt_jnl (b : TextStore) : (s.withTxt b).jnl = s.jnl := rfl
@[simp] theorem withTxt_lnk (b : TextStore) : (s.withTxt b).lnk = s.lnk := rfl
@[simp] theorem withTxt_pending (b : TextStore) : (s.withTxt b).pending = s.pending := rfl
@[simp] theorem withTxt_withTxt (b c : TextStore) : (s.withTxt b).withTxt c = s.withTxt c := rfl
@[simp] theorem withTxt_self : s.withTxt s.txt = s := rfl

@[simp] theorem withDlv_dir (b : DeliveryTable) : (s.withDlv b).dir = s.dir := rfl
@[simp] theorem withDlv_act (b : DeliveryTable) : (s.withDlv b).act = s.act := rfl
@[simp] theorem withDlv_txt (b : DeliveryTable) : (s.withDlv b).txt = s.txt := rfl
@[simp] theorem withDlv_dlv (b : DeliveryTable) : (s.withDlv b).dlv = b := rfl
@[simp] theorem withDlv_clk (b : DeliveryTable) : (s.withDlv b).clk = s.clk := rfl
@[simp] theorem withDlv_zon (b : DeliveryTable) : (s.withDlv b).zon = s.zon := rfl
@[simp] theorem withDlv_bld (b : DeliveryTable) : (s.withDlv b).bld = s.bld := rfl
@[simp] theorem withDlv_rcp (b : DeliveryTable) : (s.withDlv b).rcp = s.rcp := rfl
@[simp] theorem withDlv_jnl (b : DeliveryTable) : (s.withDlv b).jnl = s.jnl := rfl
@[simp] theorem withDlv_lnk (b : DeliveryTable) : (s.withDlv b).lnk = s.lnk := rfl
@[simp] theorem withDlv_pending (b : DeliveryTable) : (s.withDlv b).pending = s.pending := rfl
@[simp] theorem withDlv_withDlv (b c : DeliveryTable) : (s.withDlv b).withDlv c = s.withDlv c := rfl
@[simp] theorem withDlv_self : s.withDlv s.dlv = s := rfl

@[simp] theorem withClk_dir (b : Clock) : (s.withClk b).dir = s.dir := rfl
@[simp] theorem withClk_act (b : Clock) : (s.withClk b).act = s.act := rfl
@[simp] theorem withClk_txt (b : Clock) : (s.withClk b).txt = s.txt := rfl
@[simp] theorem withClk_dlv (b : Clock) : (s.withClk b).dlv = s.dlv := rfl
@[simp] theorem withClk_clk (b : Clock) : (s.withClk b).clk = b := rfl
@[simp] theorem withClk_zon (b : Clock) : (s.withClk b).zon = s.zon := rfl
@[simp] theorem withClk_bld (b : Clock) : (s.withClk b).bld = s.bld := rfl
@[simp] theorem withClk_rcp (b : Clock) : (s.withClk b).rcp = s.rcp := rfl
@[simp] theorem withClk_jnl (b : Clock) : (s.withClk b).jnl = s.jnl := rfl
@[simp] theorem withClk_lnk (b : Clock) : (s.withClk b).lnk = s.lnk := rfl
@[simp] theorem withClk_pending (b : Clock) : (s.withClk b).pending = s.pending := rfl
@[simp] theorem withClk_withClk (b c : Clock) : (s.withClk b).withClk c = s.withClk c := rfl
@[simp] theorem withClk_self : s.withClk s.clk = s := rfl

@[simp] theorem withZon_dir (b : ZoneController) : (s.withZon b).dir = s.dir := rfl
@[simp] theorem withZon_act (b : ZoneController) : (s.withZon b).act = s.act := rfl
@[simp] theorem withZon_txt (b : ZoneController) : (s.withZon b).txt = s.txt := rfl
@[simp] theorem withZon_dlv (b : ZoneController) : (s.withZon b).dlv = s.dlv := rfl
@[simp] theorem withZon_clk (b : ZoneController) : (s.withZon b).clk = s.clk := rfl
@[simp] theorem withZon_zon (b : ZoneController) : (s.withZon b).zon = b := rfl
@[simp] theorem withZon_bld (b : ZoneController) : (s.withZon b).bld = s.bld := rfl
@[simp] theorem withZon_rcp (b : ZoneController) : (s.withZon b).rcp = s.rcp := rfl
@[simp] theorem withZon_jnl (b : ZoneController) : (s.withZon b).jnl = s.jnl := rfl
@[simp] theorem withZon_lnk (b : ZoneController) : (s.withZon b).lnk = s.lnk := rfl
@[simp] theorem withZon_pending (b : ZoneController) : (s.withZon b).pending = s.pending := rfl
@[simp] theorem withZon_withZon (b c : ZoneController) : (s.withZon b).withZon c = s.withZon c := rfl
@[simp] theorem withZon_self : s.withZon s.zon = s := rfl

@[simp] theorem withBld_dir (b : Builder) : (s.withBld b).dir = s.dir := rfl
@[simp] theorem withBld_act (b : Builder) : (s.withBld b).act = s.act := rfl
@[simp] theorem withBld_txt (b : Builder) : (s.withBld b).txt = s.txt := rfl
@[simp] theorem withBld_dlv (b : Builder) : (s.withBld b).dlv = s.dlv := rfl
@[simp] theorem withBld_clk (b : Builder) : (s.withBld b).clk = s.clk := rfl
@[simp] theorem withBld_zon (b : Builder) : (s.withBld b).zon = s.zon := rfl
@[simp] theorem withBld_bld (b : Builder) : (s.withBld b).bld = b := rfl
@[simp] theorem withBld_rcp (b : Builder) : (s.withBld b).rcp = s.rcp := rfl
@[simp] theorem withBld_jnl (b : Builder) : (s.withBld b).jnl = s.jnl := rfl
@[simp] theorem withBld_lnk (b : Builder) : (s.withBld b).lnk = s.lnk := rfl
@[simp] theorem withBld_pending (b : Builder) : (s.withBld b).pending = s.pending := rfl
@[simp] theorem withBld_withBld (b c : Builder) : (s.withBld b).withBld c = s.withBld c := rfl
@[simp] theorem withBld_self : s.withBld s.bld = s := rfl

@[simp] theorem withRcp_dir (b : ReceiptUnit) : (s.withRcp b).dir = s.dir := rfl
@[simp] theorem withRcp_act (b : ReceiptUnit) : (s.withRcp b).act = s.act := rfl
@[simp] theorem withRcp_txt (b : ReceiptUnit) : (s.withRcp b).txt = s.txt := rfl
@[simp] theorem withRcp_dlv (b : ReceiptUnit) : (s.withRcp b).dlv = s.dlv := rfl
@[simp] theorem withRcp_clk (b : ReceiptUnit) : (s.withRcp b).clk = s.clk := rfl
@[simp] theorem withRcp_zon (b : ReceiptUnit) : (s.withRcp b).zon = s.zon := rfl
@[simp] theorem withRcp_bld (b : ReceiptUnit) : (s.withRcp b).bld = s.bld := rfl
@[simp] theorem withRcp_rcp (b : ReceiptUnit) : (s.withRcp b).rcp = b := rfl
@[simp] theorem withRcp_jnl (b : ReceiptUnit) : (s.withRcp b).jnl = s.jnl := rfl
@[simp] theorem withRcp_lnk (b : ReceiptUnit) : (s.withRcp b).lnk = s.lnk := rfl
@[simp] theorem withRcp_pending (b : ReceiptUnit) : (s.withRcp b).pending = s.pending := rfl
@[simp] theorem withRcp_withRcp (b c : ReceiptUnit) : (s.withRcp b).withRcp c = s.withRcp c := rfl
@[simp] theorem withRcp_self : s.withRcp s.rcp = s := rfl

@[simp] theorem withJnl_dir (b : Journal) : (s.withJnl b).dir = s.dir := rfl
@[simp] theorem withJnl_act (b : Journal) : (s.withJnl b).act = s.act := rfl
@[simp] theorem withJnl_txt (b : Journal) : (s.withJnl b).txt = s.txt := rfl
@[simp] theorem withJnl_dlv (b : Journal) : (s.withJnl b).dlv = s.dlv := rfl
@[simp] theorem withJnl_clk (b : Journal) : (s.withJnl b).clk = s.clk := rfl
@[simp] theorem withJnl_zon (b : Journal) : (s.withJnl b).zon = s.zon := rfl
@[simp] theorem withJnl_bld (b : Journal) : (s.withJnl b).bld = s.bld := rfl
@[simp] theorem withJnl_rcp (b : Journal) : (s.withJnl b).rcp = s.rcp := rfl
@[simp] theorem withJnl_jnl (b : Journal) : (s.withJnl b).jnl = b := rfl
@[simp] theorem withJnl_lnk (b : Journal) : (s.withJnl b).lnk = s.lnk := rfl
@[simp] theorem withJnl_pending (b : Journal) : (s.withJnl b).pending = s.pending := rfl
@[simp] theorem withJnl_withJnl (b c : Journal) : (s.withJnl b).withJnl c = s.withJnl c := rfl
@[simp] theorem withJnl_self : s.withJnl s.jnl = s := rfl

@[simp] theorem withLnk_dir (b : Link) : (s.withLnk b).dir = s.dir := rfl
@[simp] theorem withLnk_act (b : Link) : (s.withLnk b).act = s.act := rfl
@[simp] theorem withLnk_txt (b : Link) : (s.withLnk b).txt = s.txt := rfl
@[simp] theorem withLnk_dlv (b : Link) : (s.withLnk b).dlv = s.dlv := rfl
@[simp] theorem withLnk_clk (b : Link) : (s.withLnk b).clk = s.clk := rfl
@[simp] theorem withLnk_zon (b : Link) : (s.withLnk b).zon = s.zon := rfl
@[simp] theorem withLnk_bld (b : Link) : (s.withLnk b).bld = s.bld := rfl
@[simp] theorem withLnk_rcp (b : Link) : (s.withLnk b).rcp = s.rcp := rfl
@[simp] theorem withLnk_jnl (b : Link) : (s.withLnk b).jnl = s.jnl := rfl
@[simp] theorem withLnk_lnk (b : Link) : (s.withLnk b).lnk = b := rfl
@[simp] theorem withLnk_pending (b : Link) : (s.withLnk b).pending = s.pending := rfl
@[simp] theorem withLnk_withLnk (b c : Link) : (s.withLnk b).withLnk c = s.withLnk c := rfl
@[simp] theorem withLnk_self : s.withLnk s.lnk = s := rfl

@[simp] theorem withPending_dir (q : List Instr) : (s.withPending q).dir = s.dir := rfl
@[simp] theorem withPending_act (q : List Instr) : (s.withPending q).act = s.act := rfl
@[simp] theorem withPending_txt (q : List Instr) : (s.withPending q).txt = s.txt := rfl
@[simp] theorem withPending_dlv (q : List Instr) : (s.withPending q).dlv = s.dlv := rfl
@[simp] theorem withPending_clk (q : List Instr) : (s.withPending q).clk = s.clk := rfl
@[simp] theorem withPending_zon (q : List Instr) : (s.withPending q).zon = s.zon := rfl
@[simp] theorem withPending_bld (q : List Instr) : (s.withPending q).bld = s.bld := rfl
@[simp] theorem withPending_rcp (q : List Instr) : (s.withPending q).rcp = s.rcp := rfl
@[simp] theorem withPending_jnl (q : List Instr) : (s.withPending q).jnl = s.jnl := rfl
@[simp] theorem withPending_lnk (q : List Instr) : (s.withPending q).lnk = s.lnk := rfl
@[simp] theorem withPending_pending (q : List Instr) : (s.withPending q).pending = q := rfl

/-! ### Table writes: the other blocks -/

@[simp] theorem setSub_act (n : Nat) (u : Subscriber) : (s.setSub n u).act = s.act := rfl
@[simp] theorem setSub_txt (n : Nat) (u : Subscriber) : (s.setSub n u).txt = s.txt := rfl
@[simp] theorem setSub_dlv (n : Nat) (u : Subscriber) : (s.setSub n u).dlv = s.dlv := rfl
@[simp] theorem setSub_clk (n : Nat) (u : Subscriber) : (s.setSub n u).clk = s.clk := rfl
@[simp] theorem setSub_zon (n : Nat) (u : Subscriber) : (s.setSub n u).zon = s.zon := rfl
@[simp] theorem setSub_bld (n : Nat) (u : Subscriber) : (s.setSub n u).bld = s.bld := rfl
@[simp] theorem setSub_rcp (n : Nat) (u : Subscriber) : (s.setSub n u).rcp = s.rcp := rfl
@[simp] theorem setSub_jnl (n : Nat) (u : Subscriber) : (s.setSub n u).jnl = s.jnl := rfl
@[simp] theorem setSub_lnk (n : Nat) (u : Subscriber) : (s.setSub n u).lnk = s.lnk := rfl
@[simp] theorem setSub_pending (n : Nat) (u : Subscriber) : (s.setSub n u).pending = s.pending := rfl

@[simp] theorem bindAddress_act (a : Word) (o : Option Nat) : (s.bindAddress a o).act = s.act := rfl
@[simp] theorem bindAddress_txt (a : Word) (o : Option Nat) : (s.bindAddress a o).txt = s.txt := rfl
@[simp] theorem bindAddress_dlv (a : Word) (o : Option Nat) : (s.bindAddress a o).dlv = s.dlv := rfl
@[simp] theorem bindAddress_clk (a : Word) (o : Option Nat) : (s.bindAddress a o).clk = s.clk := rfl
@[simp] theorem bindAddress_zon (a : Word) (o : Option Nat) : (s.bindAddress a o).zon = s.zon := rfl
@[simp] theorem bindAddress_bld (a : Word) (o : Option Nat) : (s.bindAddress a o).bld = s.bld := rfl
@[simp] theorem bindAddress_rcp (a : Word) (o : Option Nat) : (s.bindAddress a o).rcp = s.rcp := rfl
@[simp] theorem bindAddress_jnl (a : Word) (o : Option Nat) : (s.bindAddress a o).jnl = s.jnl := rfl
@[simp] theorem bindAddress_lnk (a : Word) (o : Option Nat) : (s.bindAddress a o).lnk = s.lnk := rfl
@[simp] theorem bindAddress_pending (a : Word) (o : Option Nat) : (s.bindAddress a o).pending = s.pending := rfl

@[simp] theorem setAcct_dir (n : Nat) (a : Account) : (s.setAcct n a).dir = s.dir := rfl
@[simp] theorem setAcct_txt (n : Nat) (a : Account) : (s.setAcct n a).txt = s.txt := rfl
@[simp] theorem setAcct_dlv (n : Nat) (a : Account) : (s.setAcct n a).dlv = s.dlv := rfl
@[simp] theorem setAcct_clk (n : Nat) (a : Account) : (s.setAcct n a).clk = s.clk := rfl
@[simp] theorem setAcct_zon (n : Nat) (a : Account) : (s.setAcct n a).zon = s.zon := rfl
@[simp] theorem setAcct_bld (n : Nat) (a : Account) : (s.setAcct n a).bld = s.bld := rfl
@[simp] theorem setAcct_rcp (n : Nat) (a : Account) : (s.setAcct n a).rcp = s.rcp := rfl
@[simp] theorem setAcct_jnl (n : Nat) (a : Account) : (s.setAcct n a).jnl = s.jnl := rfl
@[simp] theorem setAcct_lnk (n : Nat) (a : Account) : (s.setAcct n a).lnk = s.lnk := rfl
@[simp] theorem setAcct_pending (n : Nat) (a : Account) : (s.setAcct n a).pending = s.pending := rfl

@[simp] theorem setTariff_dir (n : Nat) (e : Tariff) : (s.setTariff n e).dir = s.dir := rfl
@[simp] theorem setTariff_txt (n : Nat) (e : Tariff) : (s.setTariff n e).txt = s.txt := rfl
@[simp] theorem setTariff_dlv (n : Nat) (e : Tariff) : (s.setTariff n e).dlv = s.dlv := rfl
@[simp] theorem setTariff_clk (n : Nat) (e : Tariff) : (s.setTariff n e).clk = s.clk := rfl
@[simp] theorem setTariff_zon (n : Nat) (e : Tariff) : (s.setTariff n e).zon = s.zon := rfl
@[simp] theorem setTariff_bld (n : Nat) (e : Tariff) : (s.setTariff n e).bld = s.bld := rfl
@[simp] theorem setTariff_rcp (n : Nat) (e : Tariff) : (s.setTariff n e).rcp = s.rcp := rfl
@[simp] theorem setTariff_jnl (n : Nat) (e : Tariff) : (s.setTariff n e).jnl = s.jnl := rfl
@[simp] theorem setTariff_lnk (n : Nat) (e : Tariff) : (s.setTariff n e).lnk = s.lnk := rfl
@[simp] theorem setTariff_pending (n : Nat) (e : Tariff) : (s.setTariff n e).pending = s.pending := rfl

@[simp] theorem setBody_dir (n : Nat) (b : Body) : (s.setBody n b).dir = s.dir := rfl
@[simp] theorem setBody_act (n : Nat) (b : Body) : (s.setBody n b).act = s.act := rfl
@[simp] theorem setBody_dlv (n : Nat) (b : Body) : (s.setBody n b).dlv = s.dlv := rfl
@[simp] theorem setBody_clk (n : Nat) (b : Body) : (s.setBody n b).clk = s.clk := rfl
@[simp] theorem setBody_zon (n : Nat) (b : Body) : (s.setBody n b).zon = s.zon := rfl
@[simp] theorem setBody_bld (n : Nat) (b : Body) : (s.setBody n b).bld = s.bld := rfl
@[simp] theorem setBody_rcp (n : Nat) (b : Body) : (s.setBody n b).rcp = s.rcp := rfl
@[simp] theorem setBody_jnl (n : Nat) (b : Body) : (s.setBody n b).jnl = s.jnl := rfl
@[simp] theorem setBody_lnk (n : Nat) (b : Body) : (s.setBody n b).lnk = s.lnk := rfl
@[simp] theorem setBody_pending (n : Nat) (b : Body) : (s.setBody n b).pending = s.pending := rfl

@[simp] theorem setBlock_dir (n : Nat) (b : Option (List Byte)) : (s.setBlock n b).dir = s.dir := rfl
@[simp] theorem setBlock_act (n : Nat) (b : Option (List Byte)) : (s.setBlock n b).act = s.act := rfl
@[simp] theorem setBlock_dlv (n : Nat) (b : Option (List Byte)) : (s.setBlock n b).dlv = s.dlv := rfl
@[simp] theorem setBlock_clk (n : Nat) (b : Option (List Byte)) : (s.setBlock n b).clk = s.clk := rfl
@[simp] theorem setBlock_zon (n : Nat) (b : Option (List Byte)) : (s.setBlock n b).zon = s.zon := rfl
@[simp] theorem setBlock_bld (n : Nat) (b : Option (List Byte)) : (s.setBlock n b).bld = s.bld := rfl
@[simp] theorem setBlock_rcp (n : Nat) (b : Option (List Byte)) : (s.setBlock n b).rcp = s.rcp := rfl
@[simp] theorem setBlock_jnl (n : Nat) (b : Option (List Byte)) : (s.setBlock n b).jnl = s.jnl := rfl
@[simp] theorem setBlock_lnk (n : Nat) (b : Option (List Byte)) : (s.setBlock n b).lnk = s.lnk := rfl
@[simp] theorem setBlock_pending (n : Nat) (b : Option (List Byte)) : (s.setBlock n b).pending = s.pending := rfl

@[simp] theorem setRecord_dir (n : Nat) (r : DeliveryRecord) : (s.setRecord n r).dir = s.dir := rfl
@[simp] theorem setRecord_act (n : Nat) (r : DeliveryRecord) : (s.setRecord n r).act = s.act := rfl
@[simp] theorem setRecord_txt (n : Nat) (r : DeliveryRecord) : (s.setRecord n r).txt = s.txt := rfl
@[simp] theorem setRecord_clk (n : Nat) (r : DeliveryRecord) : (s.setRecord n r).clk = s.clk := rfl
@[simp] theorem setRecord_zon (n : Nat) (r : DeliveryRecord) : (s.setRecord n r).zon = s.zon := rfl
@[simp] theorem setRecord_bld (n : Nat) (r : DeliveryRecord) : (s.setRecord n r).bld = s.bld := rfl
@[simp] theorem setRecord_rcp (n : Nat) (r : DeliveryRecord) : (s.setRecord n r).rcp = s.rcp := rfl
@[simp] theorem setRecord_jnl (n : Nat) (r : DeliveryRecord) : (s.setRecord n r).jnl = s.jnl := rfl
@[simp] theorem setRecord_lnk (n : Nat) (r : DeliveryRecord) : (s.setRecord n r).lnk = s.lnk := rfl
@[simp] theorem setRecord_pending (n : Nat) (r : DeliveryRecord) : (s.setRecord n r).pending = s.pending := rfl

@[simp] theorem setLive_dir (n : Nat) (d : Delivery) : (s.setLive n d).dir = s.dir := rfl
@[simp] theorem setLive_act (n : Nat) (d : Delivery) : (s.setLive n d).act = s.act := rfl
@[simp] theorem setLive_txt (n : Nat) (d : Delivery) : (s.setLive n d).txt = s.txt := rfl
@[simp] theorem setLive_clk (n : Nat) (d : Delivery) : (s.setLive n d).clk = s.clk := rfl
@[simp] theorem setLive_zon (n : Nat) (d : Delivery) : (s.setLive n d).zon = s.zon := rfl
@[simp] theorem setLive_bld (n : Nat) (d : Delivery) : (s.setLive n d).bld = s.bld := rfl
@[simp] theorem setLive_rcp (n : Nat) (d : Delivery) : (s.setLive n d).rcp = s.rcp := rfl
@[simp] theorem setLive_jnl (n : Nat) (d : Delivery) : (s.setLive n d).jnl = s.jnl := rfl
@[simp] theorem setLive_lnk (n : Nat) (d : Delivery) : (s.setLive n d).lnk = s.lnk := rfl
@[simp] theorem setLive_pending (n : Nat) (d : Delivery) : (s.setLive n d).pending = s.pending := rfl

@[simp] theorem freeRecord_dir (n : Nat) : (s.freeRecord n).dir = s.dir := rfl
@[simp] theorem freeRecord_act (n : Nat) : (s.freeRecord n).act = s.act := rfl
@[simp] theorem freeRecord_txt (n : Nat) : (s.freeRecord n).txt = s.txt := rfl
@[simp] theorem freeRecord_clk (n : Nat) : (s.freeRecord n).clk = s.clk := rfl
@[simp] theorem freeRecord_zon (n : Nat) : (s.freeRecord n).zon = s.zon := rfl
@[simp] theorem freeRecord_bld (n : Nat) : (s.freeRecord n).bld = s.bld := rfl
@[simp] theorem freeRecord_rcp (n : Nat) : (s.freeRecord n).rcp = s.rcp := rfl
@[simp] theorem freeRecord_jnl (n : Nat) : (s.freeRecord n).jnl = s.jnl := rfl
@[simp] theorem freeRecord_lnk (n : Nat) : (s.freeRecord n).lnk = s.lnk := rfl
@[simp] theorem freeRecord_pending (n : Nat) : (s.freeRecord n).pending = s.pending := rfl

@[simp] theorem setCalList_dir (k : Nat) (l : List Nat) : (s.setCalList k l).dir = s.dir := rfl
@[simp] theorem setCalList_act (k : Nat) (l : List Nat) : (s.setCalList k l).act = s.act := rfl
@[simp] theorem setCalList_txt (k : Nat) (l : List Nat) : (s.setCalList k l).txt = s.txt := rfl
@[simp] theorem setCalList_clk (k : Nat) (l : List Nat) : (s.setCalList k l).clk = s.clk := rfl
@[simp] theorem setCalList_zon (k : Nat) (l : List Nat) : (s.setCalList k l).zon = s.zon := rfl
@[simp] theorem setCalList_bld (k : Nat) (l : List Nat) : (s.setCalList k l).bld = s.bld := rfl
@[simp] theorem setCalList_rcp (k : Nat) (l : List Nat) : (s.setCalList k l).rcp = s.rcp := rfl
@[simp] theorem setCalList_jnl (k : Nat) (l : List Nat) : (s.setCalList k l).jnl = s.jnl := rfl
@[simp] theorem setCalList_lnk (k : Nat) (l : List Nat) : (s.setCalList k l).lnk = s.lnk := rfl
@[simp] theorem setCalList_pending (k : Nat) (l : List Nat) : (s.setCalList k l).pending = s.pending := rfl

@[simp] theorem setZone_dir (z : Nat) (r : Zone) : (s.setZone z r).dir = s.dir := rfl
@[simp] theorem setZone_act (z : Nat) (r : Zone) : (s.setZone z r).act = s.act := rfl
@[simp] theorem setZone_txt (z : Nat) (r : Zone) : (s.setZone z r).txt = s.txt := rfl
@[simp] theorem setZone_dlv (z : Nat) (r : Zone) : (s.setZone z r).dlv = s.dlv := rfl
@[simp] theorem setZone_clk (z : Nat) (r : Zone) : (s.setZone z r).clk = s.clk := rfl
@[simp] theorem setZone_bld (z : Nat) (r : Zone) : (s.setZone z r).bld = s.bld := rfl
@[simp] theorem setZone_rcp (z : Nat) (r : Zone) : (s.setZone z r).rcp = s.rcp := rfl
@[simp] theorem setZone_jnl (z : Nat) (r : Zone) : (s.setZone z r).jnl = s.jnl := rfl
@[simp] theorem setZone_lnk (z : Nat) (r : Zone) : (s.setZone z r).lnk = s.lnk := rfl
@[simp] theorem setZone_pending (z : Nat) (r : Zone) : (s.setZone z r).pending = s.pending := rfl

@[simp] theorem setGroup_dir (g : Nat) (r : Group) : (s.setGroup g r).dir = s.dir := rfl
@[simp] theorem setGroup_act (g : Nat) (r : Group) : (s.setGroup g r).act = s.act := rfl
@[simp] theorem setGroup_txt (g : Nat) (r : Group) : (s.setGroup g r).txt = s.txt := rfl
@[simp] theorem setGroup_dlv (g : Nat) (r : Group) : (s.setGroup g r).dlv = s.dlv := rfl
@[simp] theorem setGroup_clk (g : Nat) (r : Group) : (s.setGroup g r).clk = s.clk := rfl
@[simp] theorem setGroup_bld (g : Nat) (r : Group) : (s.setGroup g r).bld = s.bld := rfl
@[simp] theorem setGroup_rcp (g : Nat) (r : Group) : (s.setGroup g r).rcp = s.rcp := rfl
@[simp] theorem setGroup_jnl (g : Nat) (r : Group) : (s.setGroup g r).jnl = s.jnl := rfl
@[simp] theorem setGroup_lnk (g : Nat) (r : Group) : (s.setGroup g r).lnk = s.lnk := rfl
@[simp] theorem setGroup_pending (g : Nat) (r : Group) : (s.setGroup g r).pending = s.pending := rfl

@[simp] theorem setImages_dir (g : Nat) (r : GroupImages) : (s.setImages g r).dir = s.dir := rfl
@[simp] theorem setImages_act (g : Nat) (r : GroupImages) : (s.setImages g r).act = s.act := rfl
@[simp] theorem setImages_txt (g : Nat) (r : GroupImages) : (s.setImages g r).txt = s.txt := rfl
@[simp] theorem setImages_dlv (g : Nat) (r : GroupImages) : (s.setImages g r).dlv = s.dlv := rfl
@[simp] theorem setImages_clk (g : Nat) (r : GroupImages) : (s.setImages g r).clk = s.clk := rfl
@[simp] theorem setImages_zon (g : Nat) (r : GroupImages) : (s.setImages g r).zon = s.zon := rfl
@[simp] theorem setImages_rcp (g : Nat) (r : GroupImages) : (s.setImages g r).rcp = s.rcp := rfl
@[simp] theorem setImages_jnl (g : Nat) (r : GroupImages) : (s.setImages g r).jnl = s.jnl := rfl
@[simp] theorem setImages_lnk (g : Nat) (r : GroupImages) : (s.setImages g r).lnk = s.lnk := rfl
@[simp] theorem setImages_pending (g : Nat) (r : GroupImages) : (s.setImages g r).pending = s.pending := rfl

@[simp] theorem setMaps_dir (g : Nat) (r : GroupMaps) : (s.setMaps g r).dir = s.dir := rfl
@[simp] theorem setMaps_act (g : Nat) (r : GroupMaps) : (s.setMaps g r).act = s.act := rfl
@[simp] theorem setMaps_txt (g : Nat) (r : GroupMaps) : (s.setMaps g r).txt = s.txt := rfl
@[simp] theorem setMaps_dlv (g : Nat) (r : GroupMaps) : (s.setMaps g r).dlv = s.dlv := rfl
@[simp] theorem setMaps_clk (g : Nat) (r : GroupMaps) : (s.setMaps g r).clk = s.clk := rfl
@[simp] theorem setMaps_zon (g : Nat) (r : GroupMaps) : (s.setMaps g r).zon = s.zon := rfl
@[simp] theorem setMaps_bld (g : Nat) (r : GroupMaps) : (s.setMaps g r).bld = s.bld := rfl
@[simp] theorem setMaps_jnl (g : Nat) (r : GroupMaps) : (s.setMaps g r).jnl = s.jnl := rfl
@[simp] theorem setMaps_lnk (g : Nat) (r : GroupMaps) : (s.setMaps g r).lnk = s.lnk := rfl
@[simp] theorem setMaps_pending (g : Nat) (r : GroupMaps) : (s.setMaps g r).pending = s.pending := rfl

@[simp] theorem setQueue_dir (z : Nat) (q : List ReturnRecord) : (s.setQueue z q).dir = s.dir := rfl
@[simp] theorem setQueue_act (z : Nat) (q : List ReturnRecord) : (s.setQueue z q).act = s.act := rfl
@[simp] theorem setQueue_txt (z : Nat) (q : List ReturnRecord) : (s.setQueue z q).txt = s.txt := rfl
@[simp] theorem setQueue_dlv (z : Nat) (q : List ReturnRecord) : (s.setQueue z q).dlv = s.dlv := rfl
@[simp] theorem setQueue_clk (z : Nat) (q : List ReturnRecord) : (s.setQueue z q).clk = s.clk := rfl
@[simp] theorem setQueue_zon (z : Nat) (q : List ReturnRecord) : (s.setQueue z q).zon = s.zon := rfl
@[simp] theorem setQueue_bld (z : Nat) (q : List ReturnRecord) : (s.setQueue z q).bld = s.bld := rfl
@[simp] theorem setQueue_jnl (z : Nat) (q : List ReturnRecord) : (s.setQueue z q).jnl = s.jnl := rfl
@[simp] theorem setQueue_lnk (z : Nat) (q : List ReturnRecord) : (s.setQueue z q).lnk = s.lnk := rfl
@[simp] theorem setQueue_pending (z : Nat) (q : List ReturnRecord) : (s.setQueue z q).pending = s.pending := rfl

@[simp] theorem setCounters_dir (c : ReceiptCounters) : (s.setCounters c).dir = s.dir := rfl
@[simp] theorem setCounters_act (c : ReceiptCounters) : (s.setCounters c).act = s.act := rfl
@[simp] theorem setCounters_txt (c : ReceiptCounters) : (s.setCounters c).txt = s.txt := rfl
@[simp] theorem setCounters_dlv (c : ReceiptCounters) : (s.setCounters c).dlv = s.dlv := rfl
@[simp] theorem setCounters_clk (c : ReceiptCounters) : (s.setCounters c).clk = s.clk := rfl
@[simp] theorem setCounters_zon (c : ReceiptCounters) : (s.setCounters c).zon = s.zon := rfl
@[simp] theorem setCounters_bld (c : ReceiptCounters) : (s.setCounters c).bld = s.bld := rfl
@[simp] theorem setCounters_jnl (c : ReceiptCounters) : (s.setCounters c).jnl = s.jnl := rfl
@[simp] theorem setCounters_lnk (c : ReceiptCounters) : (s.setCounters c).lnk = s.lnk := rfl
@[simp] theorem setCounters_pending (c : ReceiptCounters) : (s.setCounters c).pending = s.pending := rfl

@[simp] theorem notice_dir (k : Byte) (f : List Byte) : (s.notice k f).dir = s.dir := rfl
@[simp] theorem notice_act (k : Byte) (f : List Byte) : (s.notice k f).act = s.act := rfl
@[simp] theorem notice_txt (k : Byte) (f : List Byte) : (s.notice k f).txt = s.txt := rfl
@[simp] theorem notice_dlv (k : Byte) (f : List Byte) : (s.notice k f).dlv = s.dlv := rfl
@[simp] theorem notice_clk (k : Byte) (f : List Byte) : (s.notice k f).clk = s.clk := rfl
@[simp] theorem notice_zon (k : Byte) (f : List Byte) : (s.notice k f).zon = s.zon := rfl
@[simp] theorem notice_bld (k : Byte) (f : List Byte) : (s.notice k f).bld = s.bld := rfl
@[simp] theorem notice_rcp (k : Byte) (f : List Byte) : (s.notice k f).rcp = s.rcp := rfl
@[simp] theorem notice_jnl (k : Byte) (f : List Byte) : (s.notice k f).jnl = s.jnl := rfl
@[simp] theorem notice_pending (k : Byte) (f : List Byte) : (s.notice k f).pending = s.pending := rfl

@[simp] theorem lineChoice_dir : s.lineChoice.dir = s.dir := rfl
@[simp] theorem lineChoice_act : s.lineChoice.act = s.act := rfl
@[simp] theorem lineChoice_txt : s.lineChoice.txt = s.txt := rfl
@[simp] theorem lineChoice_dlv : s.lineChoice.dlv = s.dlv := rfl
@[simp] theorem lineChoice_clk : s.lineChoice.clk = s.clk := rfl
@[simp] theorem lineChoice_zon : s.lineChoice.zon = s.zon := rfl
@[simp] theorem lineChoice_bld : s.lineChoice.bld = s.bld := rfl
@[simp] theorem lineChoice_rcp : s.lineChoice.rcp = s.rcp := rfl
@[simp] theorem lineChoice_jnl : s.lineChoice.jnl = s.jnl := rfl
@[simp] theorem lineChoice_pending : s.lineChoice.pending = s.pending := rfl

@[simp] theorem setProfile_dir (p : Priority) (f : Profile) : (s.setProfile p f).dir = s.dir := by cases p <;> rfl
@[simp] theorem setProfile_txt (p : Priority) (f : Profile) : (s.setProfile p f).txt = s.txt := by cases p <;> rfl
@[simp] theorem setProfile_dlv (p : Priority) (f : Profile) : (s.setProfile p f).dlv = s.dlv := by cases p <;> rfl
@[simp] theorem setProfile_clk (p : Priority) (f : Profile) : (s.setProfile p f).clk = s.clk := by cases p <;> rfl
@[simp] theorem setProfile_zon (p : Priority) (f : Profile) : (s.setProfile p f).zon = s.zon := by cases p <;> rfl
@[simp] theorem setProfile_bld (p : Priority) (f : Profile) : (s.setProfile p f).bld = s.bld := by cases p <;> rfl
@[simp] theorem setProfile_rcp (p : Priority) (f : Profile) : (s.setProfile p f).rcp = s.rcp := by cases p <;> rfl
@[simp] theorem setProfile_jnl (p : Priority) (f : Profile) : (s.setProfile p f).jnl = s.jnl := by cases p <;> rfl
@[simp] theorem setProfile_lnk (p : Priority) (f : Profile) : (s.setProfile p f).lnk = s.lnk := by cases p <;> rfl
@[simp] theorem setProfile_pending (p : Priority) (f : Profile) : (s.setProfile p f).pending = s.pending := by cases p <;> rfl

/-! ### Reads after writes -/


@[simp] theorem sub_setSub_same (n : Nat) (v : Subscriber) : (s.setSub n v).sub n = v := Table.read_put_same ..
@[simp] theorem sub_setSub_other {n m : Nat} (h : m ≠ n) (v : Subscriber) : (s.setSub n v).sub m = s.sub m := Table.read_put_other h ..
theorem sub_setSub (n m : Nat) (v : Subscriber) : (s.setSub n v).sub m = if m = n then v else s.sub m := Table.read_put ..

@[simp] theorem acct_setAcct_same (n : Nat) (v : Account) : (s.setAcct n v).acct n = v := Table.read_put_same ..
@[simp] theorem acct_setAcct_other {n m : Nat} (h : m ≠ n) (v : Account) : (s.setAcct n v).acct m = s.acct m := Table.read_put_other h ..
theorem acct_setAcct (n m : Nat) (v : Account) : (s.setAcct n v).acct m = if m = n then v else s.acct m := Table.read_put ..

@[simp] theorem tariff_setTariff_same (n : Nat) (v : Tariff) : (s.setTariff n v).tariff n = v := Table.read_put_same ..
@[simp] theorem tariff_setTariff_other {n m : Nat} (h : m ≠ n) (v : Tariff) : (s.setTariff n v).tariff m = s.tariff m := Table.read_put_other h ..
theorem tariff_setTariff (n m : Nat) (v : Tariff) : (s.setTariff n v).tariff m = if m = n then v else s.tariff m := Table.read_put ..

@[simp] theorem body_setBody_same (n : Nat) (v : Body) : (s.setBody n v).body n = v := Table.read_put_same ..
@[simp] theorem body_setBody_other {n m : Nat} (h : m ≠ n) (v : Body) : (s.setBody n v).body m = s.body m := Table.read_put_other h ..
theorem body_setBody (n m : Nat) (v : Body) : (s.setBody n v).body m = if m = n then v else s.body m := Table.read_put ..

@[simp] theorem block_setBlock_same (n : Nat) (v : Option (List Byte)) : (s.setBlock n v).block n = v := Table.read_put_same ..
@[simp] theorem block_setBlock_other {n m : Nat} (h : m ≠ n) (v : Option (List Byte)) : (s.setBlock n v).block m = s.block m := Table.read_put_other h ..
theorem block_setBlock (n m : Nat) (v : Option (List Byte)) : (s.setBlock n v).block m = if m = n then v else s.block m := Table.read_put ..

@[simp] theorem record_setRecord_same (n : Nat) (v : DeliveryRecord) : (s.setRecord n v).record n = v := Table.read_put_same ..
@[simp] theorem record_setRecord_other {n m : Nat} (h : m ≠ n) (v : DeliveryRecord) : (s.setRecord n v).record m = s.record m := Table.read_put_other h ..
theorem record_setRecord (n m : Nat) (v : DeliveryRecord) : (s.setRecord n v).record m = if m = n then v else s.record m := Table.read_put ..

@[simp] theorem calList_setCalList_same (n : Nat) (v : List Nat) : (s.setCalList n v).calList n = v := Table.read_put_same ..
@[simp] theorem calList_setCalList_other {n m : Nat} (h : m ≠ n) (v : List Nat) : (s.setCalList n v).calList m = s.calList m := Table.read_put_other h ..
theorem calList_setCalList (n m : Nat) (v : List Nat) : (s.setCalList n v).calList m = if m = n then v else s.calList m := Table.read_put ..

@[simp] theorem zone_setZone_same (n : Nat) (v : Zone) : (s.setZone n v).zone n = v := Table.read_put_same ..
@[simp] theorem zone_setZone_other {n m : Nat} (h : m ≠ n) (v : Zone) : (s.setZone n v).zone m = s.zone m := Table.read_put_other h ..
theorem zone_setZone (n m : Nat) (v : Zone) : (s.setZone n v).zone m = if m = n then v else s.zone m := Table.read_put ..

@[simp] theorem group_setGroup_same (n : Nat) (v : Group) : (s.setGroup n v).group n = v := Table.read_put_same ..
@[simp] theorem group_setGroup_other {n m : Nat} (h : m ≠ n) (v : Group) : (s.setGroup n v).group m = s.group m := Table.read_put_other h ..
theorem group_setGroup (n m : Nat) (v : Group) : (s.setGroup n v).group m = if m = n then v else s.group m := Table.read_put ..

@[simp] theorem images_setImages_same (n : Nat) (v : GroupImages) : (s.setImages n v).images n = v := Table.read_put_same ..
@[simp] theorem images_setImages_other {n m : Nat} (h : m ≠ n) (v : GroupImages) : (s.setImages n v).images m = s.images m := Table.read_put_other h ..
theorem images_setImages (n m : Nat) (v : GroupImages) : (s.setImages n v).images m = if m = n then v else s.images m := Table.read_put ..

@[simp] theorem maps_setMaps_same (n : Nat) (v : GroupMaps) : (s.setMaps n v).maps n = v := Table.read_put_same ..
@[simp] theorem maps_setMaps_other {n m : Nat} (h : m ≠ n) (v : GroupMaps) : (s.setMaps n v).maps m = s.maps m := Table.read_put_other h ..
theorem maps_setMaps (n m : Nat) (v : GroupMaps) : (s.setMaps n v).maps m = if m = n then v else s.maps m := Table.read_put ..

@[simp] theorem queue_setQueue_same (n : Nat) (v : List ReturnRecord) : (s.setQueue n v).queue n = v := Table.read_put_same ..
@[simp] theorem queue_setQueue_other {n m : Nat} (h : m ≠ n) (v : List ReturnRecord) : (s.setQueue n v).queue m = s.queue m := Table.read_put_other h ..
theorem queue_setQueue (n m : Nat) (v : List ReturnRecord) : (s.setQueue n v).queue m = if m = n then v else s.queue m := Table.read_put ..

@[simp] theorem lookup_setSub (n : Nat) (u : Subscriber) (a : Word) : (s.setSub n u).lookup a = s.lookup a := rfl
@[simp] theorem sub_bindAddress (a : Word) (o : Option Nat) (n : Nat) : (s.bindAddress a o).sub n = s.sub n := rfl
@[simp] theorem tariff_setAcct (n m : Nat) (a : Account) : (s.setAcct n a).tariff m = s.tariff m := rfl
@[simp] theorem profile_setAcct (n : Nat) (a : Account) (p : Priority) : (s.setAcct n a).profile p = s.profile p := by
  cases p <;> rfl
@[simp] theorem acct_setTariff (n m : Nat) (e : Tariff) : (s.setTariff n e).acct m = s.acct m := rfl
@[simp] theorem profile_setTariff (n : Nat) (e : Tariff) (p : Priority) : (s.setTariff n e).profile p = s.profile p := by
  cases p <;> rfl
@[simp] theorem acct_setProfile (p : Priority) (f : Profile) (n : Nat) : (s.setProfile p f).acct n = s.acct n := by
  cases p <;> rfl
@[simp] theorem tariff_setProfile (p : Priority) (f : Profile) (n : Nat) : (s.setProfile p f).tariff n = s.tariff n := by
  cases p <;> rfl
theorem profile_setProfile (p q : Priority) (f : Profile) :
    (s.setProfile p f).profile q = if q = p then f else s.profile q := by
  cases p <;> cases q <;> rfl
@[simp] theorem block_setBody (n m : Nat) (b : Body) : (s.setBody n b).block m = s.block m := rfl
@[simp] theorem body_setBlock (n m : Nat) (b : Option (List Byte)) : (s.setBlock n b).body m = s.body m := rfl
@[simp] theorem record_setCalList (k n : Nat) (l : List Nat) : (s.setCalList k l).record n = s.record n := rfl
@[simp] theorem live_setCalList (k n : Nat) (l : List Nat) : (s.setCalList k l).live n = s.live n := rfl
@[simp] theorem ticket_setCalList (k n : Nat) (l : List Nat) : (s.setCalList k l).ticket n = s.ticket n := rfl
@[simp] theorem sequence_setCalList (k : Nat) (l : List Nat) : (s.setCalList k l).dlv.sequence = s.dlv.sequence := rfl
@[simp] theorem calList_setRecord (n k : Nat) (r : DeliveryRecord) : (s.setRecord n r).calList k = s.calList k := rfl
@[simp] theorem sequence_setRecord (n : Nat) (r : DeliveryRecord) : (s.setRecord n r).dlv.sequence = s.dlv.sequence := rfl
@[simp] theorem calList_setLive (n k : Nat) (d : Delivery) : (s.setLive n d).calList k = s.calList k := rfl
@[simp] theorem sequence_setLive (n : Nat) (d : Delivery) : (s.setLive n d).dlv.sequence = s.dlv.sequence := rfl
@[simp] theorem calList_freeRecord (n k : Nat) : (s.freeRecord n).calList k = s.calList k := rfl
@[simp] theorem sequence_freeRecord (n : Nat) : (s.freeRecord n).dlv.sequence = s.dlv.sequence := rfl
@[simp] theorem group_setZone (z g : Nat) (r : Zone) : (s.setZone z r).group g = s.group g := rfl
@[simp] theorem zone_setGroup (g z : Nat) (r : Group) : (s.setGroup g r).zone z = s.zone z := rfl
@[simp] theorem air_setImages (g : Nat) (r : GroupImages) : (s.setImages g r).bld.air = s.bld.air := rfl
@[simp] theorem queue_setMaps (g z : Nat) (r : GroupMaps) : (s.setMaps g r).queue z = s.queue z := rfl
@[simp] theorem counters_setMaps (g : Nat) (r : GroupMaps) : (s.setMaps g r).rcp.counters = s.rcp.counters := rfl
@[simp] theorem maps_setQueue (z g : Nat) (q : List ReturnRecord) : (s.setQueue z q).maps g = s.maps g := rfl
@[simp] theorem counters_setQueue (z : Nat) (q : List ReturnRecord) : (s.setQueue z q).rcp.counters = s.rcp.counters := rfl
@[simp] theorem maps_setCounters (c : ReceiptCounters) (g : Nat) : (s.setCounters c).maps g = s.maps g := rfl
@[simp] theorem queue_setCounters (c : ReceiptCounters) (z : Nat) : (s.setCounters c).queue z = s.queue z := rfl
@[simp] theorem counters_setCounters (c : ReceiptCounters) : (s.setCounters c).rcp.counters = c := rfl

/-- A live record is written under its own issue (R70). -/
theorem live_setLive (n m : Nat) (d : Delivery) : (s.setLive n d).live m = if m = n then some d else s.live m := by
  unfold setLive live
  rw [record_setRecord]
  split <;> rfl

/-- A freed record names nothing, and the others stand (R85). -/
theorem live_freeRecord (n m : Nat) : (s.freeRecord n).live m = if m = n then none else s.live m := by
  unfold freeRecord live
  rw [record_setRecord]
  split <;> rfl

/-- The fields of a record: those of its delivery, and the free values in a free record (R69). -/
theorem fields_eq (n : Nat) : s.fields n = (s.live n).getD .free := rfl

theorem fields_of_live {n : Nat} {d : Delivery} (h : s.live n = some d) : s.fields n = d := by simp [fields_eq, h]

theorem fields_of_free {n : Nat} (h : s.live n = none) : s.fields n = .free := by simp [fields_eq, h]

/-- A freed record holds the free values (R69, R85). -/
theorem fields_freeRecord (n m : Nat) : (s.freeRecord n).fields m = if m = n then .free else s.fields m := by
  rw [fields_eq, live_freeRecord]
  split <;> rfl

/-- No write of a live record, and no freeing, moves an issue (R70). -/
@[simp] theorem issue_setLive (n m : Nat) (d : Delivery) : ((s.setLive n d).record m).issue = (s.record m).issue := by
  unfold setLive
  rw [record_setRecord]
  split
  · subst_vars; rfl
  · rfl

@[simp] theorem issue_freeRecord (n m : Nat) : ((s.freeRecord n).record m).issue = (s.record m).issue := by
  unfold freeRecord
  rw [record_setRecord]
  split
  · subst_vars; rfl
  · rfl

/-- A lookup after a map entry is written (R4). -/
theorem lookup_bindAddress (a c : Word) (o : Option Nat) :
    (s.bindAddress a o).lookup c = if c = 0 then none else if c = a then o else s.lookup c := by
  unfold lookup
  split
  · rfl
  · show Table.read none (Table.put none s.dir.map a.toNat o) c.toNat = _
    rw [Table.read_put]
    split
    · rename_i h; rw [if_pos (BitVec.eq_of_toNat_eq h)]
    · rename_i h; rw [if_neg (fun e => h (by rw [e]))]

end Sys2Proof.Machine.State
end

