-- ==== Sys2Proof/Laws/Frames.lean ====
section
/-! SUPPORT. Reads that no write reaches: an entry of one block's table after an update of another block. -/

namespace Sys2Proof.Machine.State

variable (s : State)

@[simp] theorem sub_withAct (b : AccountUnit) (m : Nat) : (s.withAct b).sub m = s.sub m := rfl
@[simp] theorem sub_withTxt (b : TextStore) (m : Nat) : (s.withTxt b).sub m = s.sub m := rfl
@[simp] theorem sub_withDlv (b : DeliveryTable) (m : Nat) : (s.withDlv b).sub m = s.sub m := rfl
@[simp] theorem sub_withClk (b : Clock) (m : Nat) : (s.withClk b).sub m = s.sub m := rfl
@[simp] theorem sub_withZon (b : ZoneController) (m : Nat) : (s.withZon b).sub m = s.sub m := rfl
@[simp] theorem sub_withBld (b : Builder) (m : Nat) : (s.withBld b).sub m = s.sub m := rfl
@[simp] theorem sub_withRcp (b : ReceiptUnit) (m : Nat) : (s.withRcp b).sub m = s.sub m := rfl
@[simp] theorem sub_withJnl (b : Journal) (m : Nat) : (s.withJnl b).sub m = s.sub m := rfl
@[simp] theorem sub_withLnk (b : Link) (m : Nat) : (s.withLnk b).sub m = s.sub m := rfl
@[simp] theorem sub_withPending (p : List Instr) (m : Nat) : (s.withPending p).sub m = s.sub m := rfl
@[simp] theorem sub_setAcct (n : Nat) (a : Account) (m : Nat) : (s.setAcct n a).sub m = s.sub m := rfl
@[simp] theorem sub_setTariff (n : Nat) (e : Tariff) (m : Nat) : (s.setTariff n e).sub m = s.sub m := rfl
@[simp] theorem sub_setProfile (p : Priority) (f : Profile) (m : Nat) : (s.setProfile p f).sub m = s.sub m := by cases p <;> rfl
@[simp] theorem sub_setBody (n : Nat) (b : Body) (m : Nat) : (s.setBody n b).sub m = s.sub m := rfl
@[simp] theorem sub_setBlock (n : Nat) (b : Option (List Byte)) (m : Nat) : (s.setBlock n b).sub m = s.sub m := rfl
@[simp] theorem sub_setRecord (n : Nat) (r : DeliveryRecord) (m : Nat) : (s.setRecord n r).sub m = s.sub m := rfl
@[simp] theorem sub_setLive (n : Nat) (d : Delivery) (m : Nat) : (s.setLive n d).sub m = s.sub m := rfl
@[simp] theorem sub_freeRecord (n : Nat) (m : Nat) : (s.freeRecord n).sub m = s.sub m := rfl
@[simp] theorem sub_setCalList (k : Nat) (l : List Nat) (m : Nat) : (s.setCalList k l).sub m = s.sub m := rfl
@[simp] theorem sub_setZone (z : Nat) (r : Zone) (m : Nat) : (s.setZone z r).sub m = s.sub m := rfl
@[simp] theorem sub_setGroup (g : Nat) (r : Group) (m : Nat) : (s.setGroup g r).sub m = s.sub m := rfl
@[simp] theorem sub_setImages (g : Nat) (r : GroupImages) (m : Nat) : (s.setImages g r).sub m = s.sub m := rfl
@[simp] theorem sub_setMaps (g : Nat) (r : GroupMaps) (m : Nat) : (s.setMaps g r).sub m = s.sub m := rfl
@[simp] theorem sub_setQueue (z : Nat) (q : List ReturnRecord) (m : Nat) : (s.setQueue z q).sub m = s.sub m := rfl
@[simp] theorem sub_setCounters (c : ReceiptCounters) (m : Nat) : (s.setCounters c).sub m = s.sub m := rfl
@[simp] theorem sub_notice (b : Byte) (f : List Byte) (m : Nat) : (s.notice b f).sub m = s.sub m := rfl
@[simp] theorem sub_lineChoice (m : Nat) : (s.lineChoice).sub m = s.sub m := rfl

@[simp] theorem lookup_withAct (b : AccountUnit) (c : Word) : (s.withAct b).lookup c = s.lookup c := rfl
@[simp] theorem lookup_withTxt (b : TextStore) (c : Word) : (s.withTxt b).lookup c = s.lookup c := rfl
@[simp] theorem lookup_withDlv (b : DeliveryTable) (c : Word) : (s.withDlv b).lookup c = s.lookup c := rfl
@[simp] theorem lookup_withClk (b : Clock) (c : Word) : (s.withClk b).lookup c = s.lookup c := rfl
@[simp] theorem lookup_withZon (b : ZoneController) (c : Word) : (s.withZon b).lookup c = s.lookup c := rfl
@[simp] theorem lookup_withBld (b : Builder) (c : Word) : (s.withBld b).lookup c = s.lookup c := rfl
@[simp] theorem lookup_withRcp (b : ReceiptUnit) (c : Word) : (s.withRcp b).lookup c = s.lookup c := rfl
@[simp] theorem lookup_withJnl (b : Journal) (c : Word) : (s.withJnl b).lookup c = s.lookup c := rfl
@[simp] theorem lookup_withLnk (b : Link) (c : Word) : (s.withLnk b).lookup c = s.lookup c := rfl
@[simp] theorem lookup_withPending (p : List Instr) (c : Word) : (s.withPending p).lookup c = s.lookup c := rfl
@[simp] theorem lookup_setAcct (n : Nat) (a : Account) (c : Word) : (s.setAcct n a).lookup c = s.lookup c := rfl
@[simp] theorem lookup_setTariff (n : Nat) (e : Tariff) (c : Word) : (s.setTariff n e).lookup c = s.lookup c := rfl
@[simp] theorem lookup_setProfile (p : Priority) (f : Profile) (c : Word) : (s.setProfile p f).lookup c = s.lookup c := by cases p <;> rfl
@[simp] theorem lookup_setBody (n : Nat) (b : Body) (c : Word) : (s.setBody n b).lookup c = s.lookup c := rfl
@[simp] theorem lookup_setBlock (n : Nat) (b : Option (List Byte)) (c : Word) : (s.setBlock n b).lookup c = s.lookup c := rfl
@[simp] theorem lookup_setRecord (n : Nat) (r : DeliveryRecord) (c : Word) : (s.setRecord n r).lookup c = s.lookup c := rfl
@[simp] theorem lookup_setLive (n : Nat) (d : Delivery) (c : Word) : (s.setLive n d).lookup c = s.lookup c := rfl
@[simp] theorem lookup_freeRecord (n : Nat) (c : Word) : (s.freeRecord n).lookup c = s.lookup c := rfl
@[simp] theorem lookup_setCalList (k : Nat) (l : List Nat) (c : Word) : (s.setCalList k l).lookup c = s.lookup c := rfl
@[simp] theorem lookup_setZone (z : Nat) (r : Zone) (c : Word) : (s.setZone z r).lookup c = s.lookup c := rfl
@[simp] theorem lookup_setGroup (g : Nat) (r : Group) (c : Word) : (s.setGroup g r).lookup c = s.lookup c := rfl
@[simp] theorem lookup_setImages (g : Nat) (r : GroupImages) (c : Word) : (s.setImages g r).lookup c = s.lookup c := rfl
@[simp] theorem lookup_setMaps (g : Nat) (r : GroupMaps) (c : Word) : (s.setMaps g r).lookup c = s.lookup c := rfl
@[simp] theorem lookup_setQueue (z : Nat) (q : List ReturnRecord) (c : Word) : (s.setQueue z q).lookup c = s.lookup c := rfl
@[simp] theorem lookup_setCounters (c : ReceiptCounters) (w : Word) : (s.setCounters c).lookup w = s.lookup w := rfl
@[simp] theorem lookup_notice (b : Byte) (f : List Byte) (c : Word) : (s.notice b f).lookup c = s.lookup c := rfl
@[simp] theorem lookup_lineChoice (c : Word) : (s.lineChoice).lookup c = s.lookup c := rfl

@[simp] theorem acct_withDir (b : Directory) (m : Nat) : (s.withDir b).acct m = s.acct m := rfl
@[simp] theorem acct_withTxt (b : TextStore) (m : Nat) : (s.withTxt b).acct m = s.acct m := rfl
@[simp] theorem acct_withDlv (b : DeliveryTable) (m : Nat) : (s.withDlv b).acct m = s.acct m := rfl
@[simp] theorem acct_withClk (b : Clock) (m : Nat) : (s.withClk b).acct m = s.acct m := rfl
@[simp] theorem acct_withZon (b : ZoneController) (m : Nat) : (s.withZon b).acct m = s.acct m := rfl
@[simp] theorem acct_withBld (b : Builder) (m : Nat) : (s.withBld b).acct m = s.acct m := rfl
@[simp] theorem acct_withRcp (b : ReceiptUnit) (m : Nat) : (s.withRcp b).acct m = s.acct m := rfl
@[simp] theorem acct_withJnl (b : Journal) (m : Nat) : (s.withJnl b).acct m = s.acct m := rfl
@[simp] theorem acct_withLnk (b : Link) (m : Nat) : (s.withLnk b).acct m = s.acct m := rfl
@[simp] theorem acct_withPending (p : List Instr) (m : Nat) : (s.withPending p).acct m = s.acct m := rfl
@[simp] theorem acct_setSub (n : Nat) (u : Subscriber) (m : Nat) : (s.setSub n u).acct m = s.acct m := rfl
@[simp] theorem acct_bindAddress (a : Word) (o : Option Nat) (m : Nat) : (s.bindAddress a o).acct m = s.acct m := rfl
@[simp] theorem acct_setBody (n : Nat) (b : Body) (m : Nat) : (s.setBody n b).acct m = s.acct m := rfl
@[simp] theorem acct_setBlock (n : Nat) (b : Option (List Byte)) (m : Nat) : (s.setBlock n b).acct m = s.acct m := rfl
@[simp] theorem acct_setRecord (n : Nat) (r : DeliveryRecord) (m : Nat) : (s.setRecord n r).acct m = s.acct m := rfl
@[simp] theorem acct_setLive (n : Nat) (d : Delivery) (m : Nat) : (s.setLive n d).acct m = s.acct m := rfl
@[simp] theorem acct_freeRecord (n : Nat) (m : Nat) : (s.freeRecord n).acct m = s.acct m := rfl
@[simp] theorem acct_setCalList (k : Nat) (l : List Nat) (m : Nat) : (s.setCalList k l).acct m = s.acct m := rfl
@[simp] theorem acct_setZone (z : Nat) (r : Zone) (m : Nat) : (s.setZone z r).acct m = s.acct m := rfl
@[simp] theorem acct_setGroup (g : Nat) (r : Group) (m : Nat) : (s.setGroup g r).acct m = s.acct m := rfl
@[simp] theorem acct_setImages (g : Nat) (r : GroupImages) (m : Nat) : (s.setImages g r).acct m = s.acct m := rfl
@[simp] theorem acct_setMaps (g : Nat) (r : GroupMaps) (m : Nat) : (s.setMaps g r).acct m = s.acct m := rfl
@[simp] theorem acct_setQueue (z : Nat) (q : List ReturnRecord) (m : Nat) : (s.setQueue z q).acct m = s.acct m := rfl
@[simp] theorem acct_setCounters (c : ReceiptCounters) (m : Nat) : (s.setCounters c).acct m = s.acct m := rfl
@[simp] theorem acct_notice (b : Byte) (f : List Byte) (m : Nat) : (s.notice b f).acct m = s.acct m := rfl
@[simp] theorem acct_lineChoice (m : Nat) : (s.lineChoice).acct m = s.acct m := rfl

@[simp] theorem tariff_withDir (b : Directory) (m : Nat) : (s.withDir b).tariff m = s.tariff m := rfl
@[simp] theorem tariff_withTxt (b : TextStore) (m : Nat) : (s.withTxt b).tariff m = s.tariff m := rfl
@[simp] theorem tariff_withDlv (b : DeliveryTable) (m : Nat) : (s.withDlv b).tariff m = s.tariff m := rfl
@[simp] theorem tariff_withClk (b : Clock) (m : Nat) : (s.withClk b).tariff m = s.tariff m := rfl
@[simp] theorem tariff_withZon (b : ZoneController) (m : Nat) : (s.withZon b).tariff m = s.tariff m := rfl
@[simp] theorem tariff_withBld (b : Builder) (m : Nat) : (s.withBld b).tariff m = s.tariff m := rfl
@[simp] theorem tariff_withRcp (b : ReceiptUnit) (m : Nat) : (s.withRcp b).tariff m = s.tariff m := rfl
@[simp] theorem tariff_withJnl (b : Journal) (m : Nat) : (s.withJnl b).tariff m = s.tariff m := rfl
@[simp] theorem tariff_withLnk (b : Link) (m : Nat) : (s.withLnk b).tariff m = s.tariff m := rfl
@[simp] theorem tariff_withPending (p : List Instr) (m : Nat) : (s.withPending p).tariff m = s.tariff m := rfl
@[simp] theorem tariff_setSub (n : Nat) (u : Subscriber) (m : Nat) : (s.setSub n u).tariff m = s.tariff m := rfl
@[simp] theorem tariff_bindAddress (a : Word) (o : Option Nat) (m : Nat) : (s.bindAddress a o).tariff m = s.tariff m := rfl
@[simp] theorem tariff_setBody (n : Nat) (b : Body) (m : Nat) : (s.setBody n b).tariff m = s.tariff m := rfl
@[simp] theorem tariff_setBlock (n : Nat) (b : Option (List Byte)) (m : Nat) : (s.setBlock n b).tariff m = s.tariff m := rfl
@[simp] theorem tariff_setRecord (n : Nat) (r : DeliveryRecord) (m : Nat) : (s.setRecord n r).tariff m = s.tariff m := rfl
@[simp] theorem tariff_setLive (n : Nat) (d : Delivery) (m : Nat) : (s.setLive n d).tariff m = s.tariff m := rfl
@[simp] theorem tariff_freeRecord (n : Nat) (m : Nat) : (s.freeRecord n).tariff m = s.tariff m := rfl
@[simp] theorem tariff_setCalList (k : Nat) (l : List Nat) (m : Nat) : (s.setCalList k l).tariff m = s.tariff m := rfl
@[simp] theorem tariff_setZone (z : Nat) (r : Zone) (m : Nat) : (s.setZone z r).tariff m = s.tariff m := rfl
@[simp] theorem tariff_setGroup (g : Nat) (r : Group) (m : Nat) : (s.setGroup g r).tariff m = s.tariff m := rfl
@[simp] theorem tariff_setImages (g : Nat) (r : GroupImages) (m : Nat) : (s.setImages g r).tariff m = s.tariff m := rfl
@[simp] theorem tariff_setMaps (g : Nat) (r : GroupMaps) (m : Nat) : (s.setMaps g r).tariff m = s.tariff m := rfl
@[simp] theorem tariff_setQueue (z : Nat) (q : List ReturnRecord) (m : Nat) : (s.setQueue z q).tariff m = s.tariff m := rfl
@[simp] theorem tariff_setCounters (c : ReceiptCounters) (m : Nat) : (s.setCounters c).tariff m = s.tariff m := rfl
@[simp] theorem tariff_notice (b : Byte) (f : List Byte) (m : Nat) : (s.notice b f).tariff m = s.tariff m := rfl
@[simp] theorem tariff_lineChoice (m : Nat) : (s.lineChoice).tariff m = s.tariff m := rfl

@[simp] theorem profile_withDir (b : Directory) (q : Priority) : (s.withDir b).profile q = s.profile q := by cases q <;> rfl
@[simp] theorem profile_withTxt (b : TextStore) (q : Priority) : (s.withTxt b).profile q = s.profile q := by cases q <;> rfl
@[simp] theorem profile_withDlv (b : DeliveryTable) (q : Priority) : (s.withDlv b).profile q = s.profile q := by cases q <;> rfl
@[simp] theorem profile_withClk (b : Clock) (q : Priority) : (s.withClk b).profile q = s.profile q := by cases q <;> rfl
@[simp] theorem profile_withZon (b : ZoneController) (q : Priority) : (s.withZon b).profile q = s.profile q := by cases q <;> rfl
@[simp] theorem profile_withBld (b : Builder) (q : Priority) : (s.withBld b).profile q = s.profile q := by cases q <;> rfl
@[simp] theorem profile_withRcp (b : ReceiptUnit) (q : Priority) : (s.withRcp b).profile q = s.profile q := by cases q <;> rfl
@[simp] theorem profile_withJnl (b : Journal) (q : Priority) : (s.withJnl b).profile q = s.profile q := by cases q <;> rfl
@[simp] theorem profile_withLnk (b : Link) (q : Priority) : (s.withLnk b).profile q = s.profile q := by cases q <;> rfl
@[simp] theorem profile_withPending (p : List Instr) (q : Priority) : (s.withPending p).profile q = s.profile q := by cases q <;> rfl
@[simp] theorem profile_setSub (n : Nat) (u : Subscriber) (q : Priority) : (s.setSub n u).profile q = s.profile q := by cases q <;> rfl
@[simp] theorem profile_bindAddress (a : Word) (o : Option Nat) (q : Priority) : (s.bindAddress a o).profile q = s.profile q := by cases q <;> rfl
@[simp] theorem profile_setBody (n : Nat) (b : Body) (q : Priority) : (s.setBody n b).profile q = s.profile q := by cases q <;> rfl
@[simp] theorem profile_setBlock (n : Nat) (b : Option (List Byte)) (q : Priority) : (s.setBlock n b).profile q = s.profile q := by cases q <;> rfl
@[simp] theorem profile_setRecord (n : Nat) (r : DeliveryRecord) (q : Priority) : (s.setRecord n r).profile q = s.profile q := by cases q <;> rfl
@[simp] theorem profile_setLive (n : Nat) (d : Delivery) (q : Priority) : (s.setLive n d).profile q = s.profile q := by cases q <;> rfl
@[simp] theorem profile_freeRecord (n : Nat) (q : Priority) : (s.freeRecord n).profile q = s.profile q := by cases q <;> rfl
@[simp] theorem profile_setCalList (k : Nat) (l : List Nat) (q : Priority) : (s.setCalList k l).profile q = s.profile q := by cases q <;> rfl
@[simp] theorem profile_setZone (z : Nat) (r : Zone) (q : Priority) : (s.setZone z r).profile q = s.profile q := by cases q <;> rfl
@[simp] theorem profile_setGroup (g : Nat) (r : Group) (q : Priority) : (s.setGroup g r).profile q = s.profile q := by cases q <;> rfl
@[simp] theorem profile_setImages (g : Nat) (r : GroupImages) (q : Priority) : (s.setImages g r).profile q = s.profile q := by cases q <;> rfl
@[simp] theorem profile_setMaps (g : Nat) (r : GroupMaps) (q : Priority) : (s.setMaps g r).profile q = s.profile q := by cases q <;> rfl
@[simp] theorem profile_setQueue (z : Nat) (q : List ReturnRecord) (p2 : Priority) : (s.setQueue z q).profile p2 = s.profile p2 := by cases p2 <;> rfl
@[simp] theorem profile_setCounters (c : ReceiptCounters) (q : Priority) : (s.setCounters c).profile q = s.profile q := by cases q <;> rfl
@[simp] theorem profile_notice (b : Byte) (f : List Byte) (q : Priority) : (s.notice b f).profile q = s.profile q := by cases q <;> rfl
@[simp] theorem profile_lineChoice (q : Priority) : (s.lineChoice).profile q = s.profile q := by cases q <;> rfl

@[simp] theorem body_withDir (b : Directory) (m : Nat) : (s.withDir b).body m = s.body m := rfl
@[simp] theorem body_withAct (b : AccountUnit) (m : Nat) : (s.withAct b).body m = s.body m := rfl
@[simp] theorem body_withDlv (b : DeliveryTable) (m : Nat) : (s.withDlv b).body m = s.body m := rfl
@[simp] theorem body_withClk (b : Clock) (m : Nat) : (s.withClk b).body m = s.body m := rfl
@[simp] theorem body_withZon (b : ZoneController) (m : Nat) : (s.withZon b).body m = s.body m := rfl
@[simp] theorem body_withBld (b : Builder) (m : Nat) : (s.withBld b).body m = s.body m := rfl
@[simp] theorem body_withRcp (b : ReceiptUnit) (m : Nat) : (s.withRcp b).body m = s.body m := rfl
@[simp] theorem body_withJnl (b : Journal) (m : Nat) : (s.withJnl b).body m = s.body m := rfl
@[simp] theorem body_withLnk (b : Link) (m : Nat) : (s.withLnk b).body m = s.body m := rfl
@[simp] theorem body_withPending (p : List Instr) (m : Nat) : (s.withPending p).body m = s.body m := rfl
@[simp] theorem body_setSub (n : Nat) (u : Subscriber) (m : Nat) : (s.setSub n u).body m = s.body m := rfl
@[simp] theorem body_bindAddress (a : Word) (o : Option Nat) (m : Nat) : (s.bindAddress a o).body m = s.body m := rfl
@[simp] theorem body_setAcct (n : Nat) (a : Account) (m : Nat) : (s.setAcct n a).body m = s.body m := rfl
@[simp] theorem body_setTariff (n : Nat) (e : Tariff) (m : Nat) : (s.setTariff n e).body m = s.body m := rfl
@[simp] theorem body_setProfile (p : Priority) (f : Profile) (m : Nat) : (s.setProfile p f).body m = s.body m := by cases p <;> rfl
@[simp] theorem body_setRecord (n : Nat) (r : DeliveryRecord) (m : Nat) : (s.setRecord n r).body m = s.body m := rfl
@[simp] theorem body_setLive (n : Nat) (d : Delivery) (m : Nat) : (s.setLive n d).body m = s.body m := rfl
@[simp] theorem body_freeRecord (n : Nat) (m : Nat) : (s.freeRecord n).body m = s.body m := rfl
@[simp] theorem body_setCalList (k : Nat) (l : List Nat) (m : Nat) : (s.setCalList k l).body m = s.body m := rfl
@[simp] theorem body_setZone (z : Nat) (r : Zone) (m : Nat) : (s.setZone z r).body m = s.body m := rfl
@[simp] theorem body_setGroup (g : Nat) (r : Group) (m : Nat) : (s.setGroup g r).body m = s.body m := rfl
@[simp] theorem body_setImages (g : Nat) (r : GroupImages) (m : Nat) : (s.setImages g r).body m = s.body m := rfl
@[simp] theorem body_setMaps (g : Nat) (r : GroupMaps) (m : Nat) : (s.setMaps g r).body m = s.body m := rfl
@[simp] theorem body_setQueue (z : Nat) (q : List ReturnRecord) (m : Nat) : (s.setQueue z q).body m = s.body m := rfl
@[simp] theorem body_setCounters (c : ReceiptCounters) (m : Nat) : (s.setCounters c).body m = s.body m := rfl
@[simp] theorem body_notice (b : Byte) (f : List Byte) (m : Nat) : (s.notice b f).body m = s.body m := rfl
@[simp] theorem body_lineChoice (m : Nat) : (s.lineChoice).body m = s.body m := rfl

@[simp] theorem block_withDir (b : Directory) (m : Nat) : (s.withDir b).block m = s.block m := rfl
@[simp] theorem block_withAct (b : AccountUnit) (m : Nat) : (s.withAct b).block m = s.block m := rfl
@[simp] theorem block_withDlv (b : DeliveryTable) (m : Nat) : (s.withDlv b).block m = s.block m := rfl
@[simp] theorem block_withClk (b : Clock) (m : Nat) : (s.withClk b).block m = s.block m := rfl
@[simp] theorem block_withZon (b : ZoneController) (m : Nat) : (s.withZon b).block m = s.block m := rfl
@[simp] theorem block_withBld (b : Builder) (m : Nat) : (s.withBld b).block m = s.block m := rfl
@[simp] theorem block_withRcp (b : ReceiptUnit) (m : Nat) : (s.withRcp b).block m = s.block m := rfl
@[simp] theorem block_withJnl (b : Journal) (m : Nat) : (s.withJnl b).block m = s.block m := rfl
@[simp] theorem block_withLnk (b : Link) (m : Nat) : (s.withLnk b).block m = s.block m := rfl
@[simp] theorem block_withPending (p : List Instr) (m : Nat) : (s.withPending p).block m = s.block m := rfl
@[simp] theorem block_setSub (n : Nat) (u : Subscriber) (m : Nat) : (s.setSub n u).block m = s.block m := rfl
@[simp] theorem block_bindAddress (a : Word) (o : Option Nat) (m : Nat) : (s.bindAddress a o).block m = s.block m := rfl
@[simp] theorem block_setAcct (n : Nat) (a : Account) (m : Nat) : (s.setAcct n a).block m = s.block m := rfl
@[simp] theorem block_setTariff (n : Nat) (e : Tariff) (m : Nat) : (s.setTariff n e).block m = s.block m := rfl
@[simp] theorem block_setProfile (p : Priority) (f : Profile) (m : Nat) : (s.setProfile p f).block m = s.block m := by cases p <;> rfl
@[simp] theorem block_setRecord (n : Nat) (r : DeliveryRecord) (m : Nat) : (s.setRecord n r).block m = s.block m := rfl
@[simp] theorem block_setLive (n : Nat) (d : Delivery) (m : Nat) : (s.setLive n d).block m = s.block m := rfl
@[simp] theorem block_freeRecord (n : Nat) (m : Nat) : (s.freeRecord n).block m = s.block m := rfl
@[simp] theorem block_setCalList (k : Nat) (l : List Nat) (m : Nat) : (s.setCalList k l).block m = s.block m := rfl
@[simp] theorem block_setZone (z : Nat) (r : Zone) (m : Nat) : (s.setZone z r).block m = s.block m := rfl
@[simp] theorem block_setGroup (g : Nat) (r : Group) (m : Nat) : (s.setGroup g r).block m = s.block m := rfl
@[simp] theorem block_setImages (g : Nat) (r : GroupImages) (m : Nat) : (s.setImages g r).block m = s.block m := rfl
@[simp] theorem block_setMaps (g : Nat) (r : GroupMaps) (m : Nat) : (s.setMaps g r).block m = s.block m := rfl
@[simp] theorem block_setQueue (z : Nat) (q : List ReturnRecord) (m : Nat) : (s.setQueue z q).block m = s.block m := rfl
@[simp] theorem block_setCounters (c : ReceiptCounters) (m : Nat) : (s.setCounters c).block m = s.block m := rfl
@[simp] theorem block_notice (b : Byte) (f : List Byte) (m : Nat) : (s.notice b f).block m = s.block m := rfl
@[simp] theorem block_lineChoice (m : Nat) : (s.lineChoice).block m = s.block m := rfl

@[simp] theorem record_withDir (b : Directory) (m : Nat) : (s.withDir b).record m = s.record m := rfl
@[simp] theorem record_withAct (b : AccountUnit) (m : Nat) : (s.withAct b).record m = s.record m := rfl
@[simp] theorem record_withTxt (b : TextStore) (m : Nat) : (s.withTxt b).record m = s.record m := rfl
@[simp] theorem record_withClk (b : Clock) (m : Nat) : (s.withClk b).record m = s.record m := rfl
@[simp] theorem record_withZon (b : ZoneController) (m : Nat) : (s.withZon b).record m = s.record m := rfl
@[simp] theorem record_withBld (b : Builder) (m : Nat) : (s.withBld b).record m = s.record m := rfl
@[simp] theorem record_withRcp (b : ReceiptUnit) (m : Nat) : (s.withRcp b).record m = s.record m := rfl
@[simp] theorem record_withJnl (b : Journal) (m : Nat) : (s.withJnl b).record m = s.record m := rfl
@[simp] theorem record_withLnk (b : Link) (m : Nat) : (s.withLnk b).record m = s.record m := rfl
@[simp] theorem record_withPending (p : List Instr) (m : Nat) : (s.withPending p).record m = s.record m := rfl
@[simp] theorem record_setSub (n : Nat) (u : Subscriber) (m : Nat) : (s.setSub n u).record m = s.record m := rfl
@[simp] theorem record_bindAddress (a : Word) (o : Option Nat) (m : Nat) : (s.bindAddress a o).record m = s.record m := rfl
@[simp] theorem record_setAcct (n : Nat) (a : Account) (m : Nat) : (s.setAcct n a).record m = s.record m := rfl
@[simp] theorem record_setTariff (n : Nat) (e : Tariff) (m : Nat) : (s.setTariff n e).record m = s.record m := rfl
@[simp] theorem record_setProfile (p : Priority) (f : Profile) (m : Nat) : (s.setProfile p f).record m = s.record m := by cases p <;> rfl
@[simp] theorem record_setBody (n : Nat) (b : Body) (m : Nat) : (s.setBody n b).record m = s.record m := rfl
@[simp] theorem record_setBlock (n : Nat) (b : Option (List Byte)) (m : Nat) : (s.setBlock n b).record m = s.record m := rfl
@[simp] theorem record_setZone (z : Nat) (r : Zone) (m : Nat) : (s.setZone z r).record m = s.record m := rfl
@[simp] theorem record_setGroup (g : Nat) (r : Group) (m : Nat) : (s.setGroup g r).record m = s.record m := rfl
@[simp] theorem record_setImages (g : Nat) (r : GroupImages) (m : Nat) : (s.setImages g r).record m = s.record m := rfl
@[simp] theorem record_setMaps (g : Nat) (r : GroupMaps) (m : Nat) : (s.setMaps g r).record m = s.record m := rfl
@[simp] theorem record_setQueue (z : Nat) (q : List ReturnRecord) (m : Nat) : (s.setQueue z q).record m = s.record m := rfl
@[simp] theorem record_setCounters (c : ReceiptCounters) (m : Nat) : (s.setCounters c).record m = s.record m := rfl
@[simp] theorem record_notice (b : Byte) (f : List Byte) (m : Nat) : (s.notice b f).record m = s.record m := rfl
@[simp] theorem record_lineChoice (m : Nat) : (s.lineChoice).record m = s.record m := rfl

@[simp] theorem live_withDir (b : Directory) (m : Nat) : (s.withDir b).live m = s.live m := rfl
@[simp] theorem live_withAct (b : AccountUnit) (m : Nat) : (s.withAct b).live m = s.live m := rfl
@[simp] theorem live_withTxt (b : TextStore) (m : Nat) : (s.withTxt b).live m = s.live m := rfl
@[simp] theorem live_withClk (b : Clock) (m : Nat) : (s.withClk b).live m = s.live m := rfl
@[simp] theorem live_withZon (b : ZoneController) (m : Nat) : (s.withZon b).live m = s.live m := rfl
@[simp] theorem live_withBld (b : Builder) (m : Nat) : (s.withBld b).live m = s.live m := rfl
@[simp] theorem live_withRcp (b : ReceiptUnit) (m : Nat) : (s.withRcp b).live m = s.live m := rfl
@[simp] theorem live_withJnl (b : Journal) (m : Nat) : (s.withJnl b).live m = s.live m := rfl
@[simp] theorem live_withLnk (b : Link) (m : Nat) : (s.withLnk b).live m = s.live m := rfl
@[simp] theorem live_withPending (p : List Instr) (m : Nat) : (s.withPending p).live m = s.live m := rfl
@[simp] theorem live_setSub (n : Nat) (u : Subscriber) (m : Nat) : (s.setSub n u).live m = s.live m := rfl
@[simp] theorem live_bindAddress (a : Word) (o : Option Nat) (m : Nat) : (s.bindAddress a o).live m = s.live m := rfl
@[simp] theorem live_setAcct (n : Nat) (a : Account) (m : Nat) : (s.setAcct n a).live m = s.live m := rfl
@[simp] theorem live_setTariff (n : Nat) (e : Tariff) (m : Nat) : (s.setTariff n e).live m = s.live m := rfl
@[simp] theorem live_setProfile (p : Priority) (f : Profile) (m : Nat) : (s.setProfile p f).live m = s.live m := by cases p <;> rfl
@[simp] theorem live_setBody (n : Nat) (b : Body) (m : Nat) : (s.setBody n b).live m = s.live m := rfl
@[simp] theorem live_setBlock (n : Nat) (b : Option (List Byte)) (m : Nat) : (s.setBlock n b).live m = s.live m := rfl
@[simp] theorem live_setZone (z : Nat) (r : Zone) (m : Nat) : (s.setZone z r).live m = s.live m := rfl
@[simp] theorem live_setGroup (g : Nat) (r : Group) (m : Nat) : (s.setGroup g r).live m = s.live m := rfl
@[simp] theorem live_setImages (g : Nat) (r : GroupImages) (m : Nat) : (s.setImages g r).live m = s.live m := rfl
@[simp] theorem live_setMaps (g : Nat) (r : GroupMaps) (m : Nat) : (s.setMaps g r).live m = s.live m := rfl
@[simp] theorem live_setQueue (z : Nat) (q : List ReturnRecord) (m : Nat) : (s.setQueue z q).live m = s.live m := rfl
@[simp] theorem live_setCounters (c : ReceiptCounters) (m : Nat) : (s.setCounters c).live m = s.live m := rfl
@[simp] theorem live_notice (b : Byte) (f : List Byte) (m : Nat) : (s.notice b f).live m = s.live m := rfl
@[simp] theorem live_lineChoice (m : Nat) : (s.lineChoice).live m = s.live m := rfl

@[simp] theorem calList_withDir (b : Directory) (m : Nat) : (s.withDir b).calList m = s.calList m := rfl
@[simp] theorem calList_withAct (b : AccountUnit) (m : Nat) : (s.withAct b).calList m = s.calList m := rfl
@[simp] theorem calList_withTxt (b : TextStore) (m : Nat) : (s.withTxt b).calList m = s.calList m := rfl
@[simp] theorem calList_withClk (b : Clock) (m : Nat) : (s.withClk b).calList m = s.calList m := rfl
@[simp] theorem calList_withZon (b : ZoneController) (m : Nat) : (s.withZon b).calList m = s.calList m := rfl
@[simp] theorem calList_withBld (b : Builder) (m : Nat) : (s.withBld b).calList m = s.calList m := rfl
@[simp] theorem calList_withRcp (b : ReceiptUnit) (m : Nat) : (s.withRcp b).calList m = s.calList m := rfl
@[simp] theorem calList_withJnl (b : Journal) (m : Nat) : (s.withJnl b).calList m = s.calList m := rfl
@[simp] theorem calList_withLnk (b : Link) (m : Nat) : (s.withLnk b).calList m = s.calList m := rfl
@[simp] theorem calList_withPending (p : List Instr) (m : Nat) : (s.withPending p).calList m = s.calList m := rfl
@[simp] theorem calList_setSub (n : Nat) (u : Subscriber) (m : Nat) : (s.setSub n u).calList m = s.calList m := rfl
@[simp] theorem calList_bindAddress (a : Word) (o : Option Nat) (m : Nat) : (s.bindAddress a o).calList m = s.calList m := rfl
@[simp] theorem calList_setAcct (n : Nat) (a : Account) (m : Nat) : (s.setAcct n a).calList m = s.calList m := rfl
@[simp] theorem calList_setTariff (n : Nat) (e : Tariff) (m : Nat) : (s.setTariff n e).calList m = s.calList m := rfl
@[simp] theorem calList_setProfile (p : Priority) (f : Profile) (m : Nat) : (s.setProfile p f).calList m = s.calList m := by cases p <;> rfl
@[simp] theorem calList_setBody (n : Nat) (b : Body) (m : Nat) : (s.setBody n b).calList m = s.calList m := rfl
@[simp] theorem calList_setBlock (n : Nat) (b : Option (List Byte)) (m : Nat) : (s.setBlock n b).calList m = s.calList m := rfl
@[simp] theorem calList_setZone (z : Nat) (r : Zone) (m : Nat) : (s.setZone z r).calList m = s.calList m := rfl
@[simp] theorem calList_setGroup (g : Nat) (r : Group) (m : Nat) : (s.setGroup g r).calList m = s.calList m := rfl
@[simp] theorem calList_setImages (g : Nat) (r : GroupImages) (m : Nat) : (s.setImages g r).calList m = s.calList m := rfl
@[simp] theorem calList_setMaps (g : Nat) (r : GroupMaps) (m : Nat) : (s.setMaps g r).calList m = s.calList m := rfl
@[simp] theorem calList_setQueue (z : Nat) (q : List ReturnRecord) (m : Nat) : (s.setQueue z q).calList m = s.calList m := rfl
@[simp] theorem calList_setCounters (c : ReceiptCounters) (m : Nat) : (s.setCounters c).calList m = s.calList m := rfl
@[simp] theorem calList_notice (b : Byte) (f : List Byte) (m : Nat) : (s.notice b f).calList m = s.calList m := rfl
@[simp] theorem calList_lineChoice (m : Nat) : (s.lineChoice).calList m = s.calList m := rfl

@[simp] theorem ticket_withDir (b : Directory) (m : Nat) : (s.withDir b).ticket m = s.ticket m := rfl
@[simp] theorem ticket_withAct (b : AccountUnit) (m : Nat) : (s.withAct b).ticket m = s.ticket m := rfl
@[simp] theorem ticket_withTxt (b : TextStore) (m : Nat) : (s.withTxt b).ticket m = s.ticket m := rfl
@[simp] theorem ticket_withClk (b : Clock) (m : Nat) : (s.withClk b).ticket m = s.ticket m := rfl
@[simp] theorem ticket_withZon (b : ZoneController) (m : Nat) : (s.withZon b).ticket m = s.ticket m := rfl
@[simp] theorem ticket_withBld (b : Builder) (m : Nat) : (s.withBld b).ticket m = s.ticket m := rfl
@[simp] theorem ticket_withRcp (b : ReceiptUnit) (m : Nat) : (s.withRcp b).ticket m = s.ticket m := rfl
@[simp] theorem ticket_withJnl (b : Journal) (m : Nat) : (s.withJnl b).ticket m = s.ticket m := rfl
@[simp] theorem ticket_withLnk (b : Link) (m : Nat) : (s.withLnk b).ticket m = s.ticket m := rfl
@[simp] theorem ticket_withPending (p : List Instr) (m : Nat) : (s.withPending p).ticket m = s.ticket m := rfl
@[simp] theorem ticket_setSub (n : Nat) (u : Subscriber) (m : Nat) : (s.setSub n u).ticket m = s.ticket m := rfl
@[simp] theorem ticket_bindAddress (a : Word) (o : Option Nat) (m : Nat) : (s.bindAddress a o).ticket m = s.ticket m := rfl
@[simp] theorem ticket_setAcct (n : Nat) (a : Account) (m : Nat) : (s.setAcct n a).ticket m = s.ticket m := rfl
@[simp] theorem ticket_setTariff (n : Nat) (e : Tariff) (m : Nat) : (s.setTariff n e).ticket m = s.ticket m := rfl
@[simp] theorem ticket_setProfile (p : Priority) (f : Profile) (m : Nat) : (s.setProfile p f).ticket m = s.ticket m := by cases p <;> rfl
@[simp] theorem ticket_setBody (n : Nat) (b : Body) (m : Nat) : (s.setBody n b).ticket m = s.ticket m := rfl
@[simp] theorem ticket_setBlock (n : Nat) (b : Option (List Byte)) (m : Nat) : (s.setBlock n b).ticket m = s.ticket m := rfl
@[simp] theorem ticket_setZone (z : Nat) (r : Zone) (m : Nat) : (s.setZone z r).ticket m = s.ticket m := rfl
@[simp] theorem ticket_setGroup (g : Nat) (r : Group) (m : Nat) : (s.setGroup g r).ticket m = s.ticket m := rfl
@[simp] theorem ticket_setImages (g : Nat) (r : GroupImages) (m : Nat) : (s.setImages g r).ticket m = s.ticket m := rfl
@[simp] theorem ticket_setMaps (g : Nat) (r : GroupMaps) (m : Nat) : (s.setMaps g r).ticket m = s.ticket m := rfl
@[simp] theorem ticket_setQueue (z : Nat) (q : List ReturnRecord) (m : Nat) : (s.setQueue z q).ticket m = s.ticket m := rfl
@[simp] theorem ticket_setCounters (c : ReceiptCounters) (m : Nat) : (s.setCounters c).ticket m = s.ticket m := rfl
@[simp] theorem ticket_notice (b : Byte) (f : List Byte) (m : Nat) : (s.notice b f).ticket m = s.ticket m := rfl
@[simp] theorem ticket_lineChoice (m : Nat) : (s.lineChoice).ticket m = s.ticket m := rfl

@[simp] theorem named_withDir (b : Directory) (k : Ticket) : (s.withDir b).named k = s.named k := rfl
@[simp] theorem named_withAct (b : AccountUnit) (k : Ticket) : (s.withAct b).named k = s.named k := rfl
@[simp] theorem named_withTxt (b : TextStore) (k : Ticket) : (s.withTxt b).named k = s.named k := rfl
@[simp] theorem named_withClk (b : Clock) (k : Ticket) : (s.withClk b).named k = s.named k := rfl
@[simp] theorem named_withZon (b : ZoneController) (k : Ticket) : (s.withZon b).named k = s.named k := rfl
@[simp] theorem named_withBld (b : Builder) (k : Ticket) : (s.withBld b).named k = s.named k := rfl
@[simp] theorem named_withRcp (b : ReceiptUnit) (k : Ticket) : (s.withRcp b).named k = s.named k := rfl
@[simp] theorem named_withJnl (b : Journal) (k : Ticket) : (s.withJnl b).named k = s.named k := rfl
@[simp] theorem named_withLnk (b : Link) (k : Ticket) : (s.withLnk b).named k = s.named k := rfl
@[simp] theorem named_withPending (p : List Instr) (k : Ticket) : (s.withPending p).named k = s.named k := rfl
@[simp] theorem named_setSub (n : Nat) (u : Subscriber) (k : Ticket) : (s.setSub n u).named k = s.named k := rfl
@[simp] theorem named_bindAddress (a : Word) (o : Option Nat) (k : Ticket) : (s.bindAddress a o).named k = s.named k := rfl
@[simp] theorem named_setAcct (n : Nat) (a : Account) (k : Ticket) : (s.setAcct n a).named k = s.named k := rfl
@[simp] theorem named_setTariff (n : Nat) (e : Tariff) (k : Ticket) : (s.setTariff n e).named k = s.named k := rfl
@[simp] theorem named_setProfile (p : Priority) (f : Profile) (k : Ticket) : (s.setProfile p f).named k = s.named k := by cases p <;> rfl
@[simp] theorem named_setBody (n : Nat) (b : Body) (k : Ticket) : (s.setBody n b).named k = s.named k := rfl
@[simp] theorem named_setBlock (n : Nat) (b : Option (List Byte)) (k : Ticket) : (s.setBlock n b).named k = s.named k := rfl
@[simp] theorem named_setZone (z : Nat) (r : Zone) (k : Ticket) : (s.setZone z r).named k = s.named k := rfl
@[simp] theorem named_setGroup (g : Nat) (r : Group) (k : Ticket) : (s.setGroup g r).named k = s.named k := rfl
@[simp] theorem named_setImages (g : Nat) (r : GroupImages) (k : Ticket) : (s.setImages g r).named k = s.named k := rfl
@[simp] theorem named_setMaps (g : Nat) (r : GroupMaps) (k : Ticket) : (s.setMaps g r).named k = s.named k := rfl
@[simp] theorem named_setQueue (z : Nat) (q : List ReturnRecord) (k : Ticket) : (s.setQueue z q).named k = s.named k := rfl
@[simp] theorem named_setCounters (c : ReceiptCounters) (k : Ticket) : (s.setCounters c).named k = s.named k := rfl
@[simp] theorem named_notice (b : Byte) (f : List Byte) (k : Ticket) : (s.notice b f).named k = s.named k := rfl
@[simp] theorem named_lineChoice (k : Ticket) : (s.lineChoice).named k = s.named k := rfl

@[simp] theorem zone_withDir (b : Directory) (m : Nat) : (s.withDir b).zone m = s.zone m := rfl
@[simp] theorem zone_withAct (b : AccountUnit) (m : Nat) : (s.withAct b).zone m = s.zone m := rfl
@[simp] theorem zone_withTxt (b : TextStore) (m : Nat) : (s.withTxt b).zone m = s.zone m := rfl
@[simp] theorem zone_withDlv (b : DeliveryTable) (m : Nat) : (s.withDlv b).zone m = s.zone m := rfl
@[simp] theorem zone_withClk (b : Clock) (m : Nat) : (s.withClk b).zone m = s.zone m := rfl
@[simp] theorem zone_withBld (b : Builder) (m : Nat) : (s.withBld b).zone m = s.zone m := rfl
@[simp] theorem zone_withRcp (b : ReceiptUnit) (m : Nat) : (s.withRcp b).zone m = s.zone m := rfl
@[simp] theorem zone_withJnl (b : Journal) (m : Nat) : (s.withJnl b).zone m = s.zone m := rfl
@[simp] theorem zone_withLnk (b : Link) (m : Nat) : (s.withLnk b).zone m = s.zone m := rfl
@[simp] theorem zone_withPending (p : List Instr) (m : Nat) : (s.withPending p).zone m = s.zone m := rfl
@[simp] theorem zone_setSub (n : Nat) (u : Subscriber) (m : Nat) : (s.setSub n u).zone m = s.zone m := rfl
@[simp] theorem zone_bindAddress (a : Word) (o : Option Nat) (m : Nat) : (s.bindAddress a o).zone m = s.zone m := rfl
@[simp] theorem zone_setAcct (n : Nat) (a : Account) (m : Nat) : (s.setAcct n a).zone m = s.zone m := rfl
@[simp] theorem zone_setTariff (n : Nat) (e : Tariff) (m : Nat) : (s.setTariff n e).zone m = s.zone m := rfl
@[simp] theorem zone_setProfile (p : Priority) (f : Profile) (m : Nat) : (s.setProfile p f).zone m = s.zone m := by cases p <;> rfl
@[simp] theorem zone_setBody (n : Nat) (b : Body) (m : Nat) : (s.setBody n b).zone m = s.zone m := rfl
@[simp] theorem zone_setBlock (n : Nat) (b : Option (List Byte)) (m : Nat) : (s.setBlock n b).zone m = s.zone m := rfl
@[simp] theorem zone_setRecord (n : Nat) (r : DeliveryRecord) (m : Nat) : (s.setRecord n r).zone m = s.zone m := rfl
@[simp] theorem zone_setLive (n : Nat) (d : Delivery) (m : Nat) : (s.setLive n d).zone m = s.zone m := rfl
@[simp] theorem zone_freeRecord (n : Nat) (m : Nat) : (s.freeRecord n).zone m = s.zone m := rfl
@[simp] theorem zone_setCalList (k : Nat) (l : List Nat) (m : Nat) : (s.setCalList k l).zone m = s.zone m := rfl
@[simp] theorem zone_setImages (g : Nat) (r : GroupImages) (m : Nat) : (s.setImages g r).zone m = s.zone m := rfl
@[simp] theorem zone_setMaps (g : Nat) (r : GroupMaps) (m : Nat) : (s.setMaps g r).zone m = s.zone m := rfl
@[simp] theorem zone_setQueue (z : Nat) (q : List ReturnRecord) (m : Nat) : (s.setQueue z q).zone m = s.zone m := rfl
@[simp] theorem zone_setCounters (c : ReceiptCounters) (m : Nat) : (s.setCounters c).zone m = s.zone m := rfl
@[simp] theorem zone_notice (b : Byte) (f : List Byte) (m : Nat) : (s.notice b f).zone m = s.zone m := rfl
@[simp] theorem zone_lineChoice (m : Nat) : (s.lineChoice).zone m = s.zone m := rfl

@[simp] theorem group_withDir (b : Directory) (m : Nat) : (s.withDir b).group m = s.group m := rfl
@[simp] theorem group_withAct (b : AccountUnit) (m : Nat) : (s.withAct b).group m = s.group m := rfl
@[simp] theorem group_withTxt (b : TextStore) (m : Nat) : (s.withTxt b).group m = s.group m := rfl
@[simp] theorem group_withDlv (b : DeliveryTable) (m : Nat) : (s.withDlv b).group m = s.group m := rfl
@[simp] theorem group_withClk (b : Clock) (m : Nat) : (s.withClk b).group m = s.group m := rfl
@[simp] theorem group_withBld (b : Builder) (m : Nat) : (s.withBld b).group m = s.group m := rfl
@[simp] theorem group_withRcp (b : ReceiptUnit) (m : Nat) : (s.withRcp b).group m = s.group m := rfl
@[simp] theorem group_withJnl (b : Journal) (m : Nat) : (s.withJnl b).group m = s.group m := rfl
@[simp] theorem group_withLnk (b : Link) (m : Nat) : (s.withLnk b).group m = s.group m := rfl
@[simp] theorem group_withPending (p : List Instr) (m : Nat) : (s.withPending p).group m = s.group m := rfl
@[simp] theorem group_setSub (n : Nat) (u : Subscriber) (m : Nat) : (s.setSub n u).group m = s.group m := rfl
@[simp] theorem group_bindAddress (a : Word) (o : Option Nat) (m : Nat) : (s.bindAddress a o).group m = s.group m := rfl
@[simp] theorem group_setAcct (n : Nat) (a : Account) (m : Nat) : (s.setAcct n a).group m = s.group m := rfl
@[simp] theorem group_setTariff (n : Nat) (e : Tariff) (m : Nat) : (s.setTariff n e).group m = s.group m := rfl
@[simp] theorem group_setProfile (p : Priority) (f : Profile) (m : Nat) : (s.setProfile p f).group m = s.group m := by cases p <;> rfl
@[simp] theorem group_setBody (n : Nat) (b : Body) (m : Nat) : (s.setBody n b).group m = s.group m := rfl
@[simp] theorem group_setBlock (n : Nat) (b : Option (List Byte)) (m : Nat) : (s.setBlock n b).group m = s.group m := rfl
@[simp] theorem group_setRecord (n : Nat) (r : DeliveryRecord) (m : Nat) : (s.setRecord n r).group m = s.group m := rfl
@[simp] theorem group_setLive (n : Nat) (d : Delivery) (m : Nat) : (s.setLive n d).group m = s.group m := rfl
@[simp] theorem group_freeRecord (n : Nat) (m : Nat) : (s.freeRecord n).group m = s.group m := rfl
@[simp] theorem group_setCalList (k : Nat) (l : List Nat) (m : Nat) : (s.setCalList k l).group m = s.group m := rfl
@[simp] theorem group_setImages (g : Nat) (r : GroupImages) (m : Nat) : (s.setImages g r).group m = s.group m := rfl
@[simp] theorem group_setMaps (g : Nat) (r : GroupMaps) (m : Nat) : (s.setMaps g r).group m = s.group m := rfl
@[simp] theorem group_setQueue (z : Nat) (q : List ReturnRecord) (m : Nat) : (s.setQueue z q).group m = s.group m := rfl
@[simp] theorem group_setCounters (c : ReceiptCounters) (m : Nat) : (s.setCounters c).group m = s.group m := rfl
@[simp] theorem group_notice (b : Byte) (f : List Byte) (m : Nat) : (s.notice b f).group m = s.group m := rfl
@[simp] theorem group_lineChoice (m : Nat) : (s.lineChoice).group m = s.group m := rfl

@[simp] theorem images_withDir (b : Directory) (m : Nat) : (s.withDir b).images m = s.images m := rfl
@[simp] theorem images_withAct (b : AccountUnit) (m : Nat) : (s.withAct b).images m = s.images m := rfl
@[simp] theorem images_withTxt (b : TextStore) (m : Nat) : (s.withTxt b).images m = s.images m := rfl
@[simp] theorem images_withDlv (b : DeliveryTable) (m : Nat) : (s.withDlv b).images m = s.images m := rfl
@[simp] theorem images_withClk (b : Clock) (m : Nat) : (s.withClk b).images m = s.images m := rfl
@[simp] theorem images_withZon (b : ZoneController) (m : Nat) : (s.withZon b).images m = s.images m := rfl
@[simp] theorem images_withRcp (b : ReceiptUnit) (m : Nat) : (s.withRcp b).images m = s.images m := rfl
@[simp] theorem images_withJnl (b : Journal) (m : Nat) : (s.withJnl b).images m = s.images m := rfl
@[simp] theorem images_withLnk (b : Link) (m : Nat) : (s.withLnk b).images m = s.images m := rfl
@[simp] theorem images_withPending (p : List Instr) (m : Nat) : (s.withPending p).images m = s.images m := rfl
@[simp] theorem images_setSub (n : Nat) (u : Subscriber) (m : Nat) : (s.setSub n u).images m = s.images m := rfl
@[simp] theorem images_bindAddress (a : Word) (o : Option Nat) (m : Nat) : (s.bindAddress a o).images m = s.images m := rfl
@[simp] theorem images_setAcct (n : Nat) (a : Account) (m : Nat) : (s.setAcct n a).images m = s.images m := rfl
@[simp] theorem images_setTariff (n : Nat) (e : Tariff) (m : Nat) : (s.setTariff n e).images m = s.images m := rfl
@[simp] theorem images_setProfile (p : Priority) (f : Profile) (m : Nat) : (s.setProfile p f).images m = s.images m := by cases p <;> rfl
@[simp] theorem images_setBody (n : Nat) (b : Body) (m : Nat) : (s.setBody n b).images m = s.images m := rfl
@[simp] theorem images_setBlock (n : Nat) (b : Option (List Byte)) (m : Nat) : (s.setBlock n b).images m = s.images m := rfl
@[simp] theorem images_setRecord (n : Nat) (r : DeliveryRecord) (m : Nat) : (s.setRecord n r).images m = s.images m := rfl
@[simp] theorem images_setLive (n : Nat) (d : Delivery) (m : Nat) : (s.setLive n d).images m = s.images m := rfl
@[simp] theorem images_freeRecord (n : Nat) (m : Nat) : (s.freeRecord n).images m = s.images m := rfl
@[simp] theorem images_setCalList (k : Nat) (l : List Nat) (m : Nat) : (s.setCalList k l).images m = s.images m := rfl
@[simp] theorem images_setZone (z : Nat) (r : Zone) (m : Nat) : (s.setZone z r).images m = s.images m := rfl
@[simp] theorem images_setGroup (g : Nat) (r : Group) (m : Nat) : (s.setGroup g r).images m = s.images m := rfl
@[simp] theorem images_setMaps (g : Nat) (r : GroupMaps) (m : Nat) : (s.setMaps g r).images m = s.images m := rfl
@[simp] theorem images_setQueue (z : Nat) (q : List ReturnRecord) (m : Nat) : (s.setQueue z q).images m = s.images m := rfl
@[simp] theorem images_setCounters (c : ReceiptCounters) (m : Nat) : (s.setCounters c).images m = s.images m := rfl
@[simp] theorem images_notice (b : Byte) (f : List Byte) (m : Nat) : (s.notice b f).images m = s.images m := rfl
@[simp] theorem images_lineChoice (m : Nat) : (s.lineChoice).images m = s.images m := rfl

@[simp] theorem maps_withDir (b : Directory) (m : Nat) : (s.withDir b).maps m = s.maps m := rfl
@[simp] theorem maps_withAct (b : AccountUnit) (m : Nat) : (s.withAct b).maps m = s.maps m := rfl
@[simp] theorem maps_withTxt (b : TextStore) (m : Nat) : (s.withTxt b).maps m = s.maps m := rfl
@[simp] theorem maps_withDlv (b : DeliveryTable) (m : Nat) : (s.withDlv b).maps m = s.maps m := rfl
@[simp] theorem maps_withClk (b : Clock) (m : Nat) : (s.withClk b).maps m = s.maps m := rfl
@[simp] theorem maps_withZon (b : ZoneController) (m : Nat) : (s.withZon b).maps m = s.maps m := rfl
@[simp] theorem maps_withBld (b : Builder) (m : Nat) : (s.withBld b).maps m = s.maps m := rfl
@[simp] theorem maps_withJnl (b : Journal) (m : Nat) : (s.withJnl b).maps m = s.maps m := rfl
@[simp] theorem maps_withLnk (b : Link) (m : Nat) : (s.withLnk b).maps m = s.maps m := rfl
@[simp] theorem maps_withPending (p : List Instr) (m : Nat) : (s.withPending p).maps m = s.maps m := rfl
@[simp] theorem maps_setSub (n : Nat) (u : Subscriber) (m : Nat) : (s.setSub n u).maps m = s.maps m := rfl
@[simp] theorem maps_bindAddress (a : Word) (o : Option Nat) (m : Nat) : (s.bindAddress a o).maps m = s.maps m := rfl
@[simp] theorem maps_setAcct (n : Nat) (a : Account) (m : Nat) : (s.setAcct n a).maps m = s.maps m := rfl
@[simp] theorem maps_setTariff (n : Nat) (e : Tariff) (m : Nat) : (s.setTariff n e).maps m = s.maps m := rfl
@[simp] theorem maps_setProfile (p : Priority) (f : Profile) (m : Nat) : (s.setProfile p f).maps m = s.maps m := by cases p <;> rfl
@[simp] theorem maps_setBody (n : Nat) (b : Body) (m : Nat) : (s.setBody n b).maps m = s.maps m := rfl
@[simp] theorem maps_setBlock (n : Nat) (b : Option (List Byte)) (m : Nat) : (s.setBlock n b).maps m = s.maps m := rfl
@[simp] theorem maps_setRecord (n : Nat) (r : DeliveryRecord) (m : Nat) : (s.setRecord n r).maps m = s.maps m := rfl
@[simp] theorem maps_setLive (n : Nat) (d : Delivery) (m : Nat) : (s.setLive n d).maps m = s.maps m := rfl
@[simp] theorem maps_freeRecord (n : Nat) (m : Nat) : (s.freeRecord n).maps m = s.maps m := rfl
@[simp] theorem maps_setCalList (k : Nat) (l : List Nat) (m : Nat) : (s.setCalList k l).maps m = s.maps m := rfl
@[simp] theorem maps_setZone (z : Nat) (r : Zone) (m : Nat) : (s.setZone z r).maps m = s.maps m := rfl
@[simp] theorem maps_setGroup (g : Nat) (r : Group) (m : Nat) : (s.setGroup g r).maps m = s.maps m := rfl
@[simp] theorem maps_setImages (g : Nat) (r : GroupImages) (m : Nat) : (s.setImages g r).maps m = s.maps m := rfl
@[simp] theorem maps_notice (b : Byte) (f : List Byte) (m : Nat) : (s.notice b f).maps m = s.maps m := rfl
@[simp] theorem maps_lineChoice (m : Nat) : (s.lineChoice).maps m = s.maps m := rfl

@[simp] theorem queue_withDir (b : Directory) (m : Nat) : (s.withDir b).queue m = s.queue m := rfl
@[simp] theorem queue_withAct (b : AccountUnit) (m : Nat) : (s.withAct b).queue m = s.queue m := rfl
@[simp] theorem queue_withTxt (b : TextStore) (m : Nat) : (s.withTxt b).queue m = s.queue m := rfl
@[simp] theorem queue_withDlv (b : DeliveryTable) (m : Nat) : (s.withDlv b).queue m = s.queue m := rfl
@[simp] theorem queue_withClk (b : Clock) (m : Nat) : (s.withClk b).queue m = s.queue m := rfl
@[simp] theorem queue_withZon (b : ZoneController) (m : Nat) : (s.withZon b).queue m = s.queue m := rfl
@[simp] theorem queue_withBld (b : Builder) (m : Nat) : (s.withBld b).queue m = s.queue m := rfl
@[simp] theorem queue_withJnl (b : Journal) (m : Nat) : (s.withJnl b).queue m = s.queue m := rfl
@[simp] theorem queue_withLnk (b : Link) (m : Nat) : (s.withLnk b).queue m = s.queue m := rfl
@[simp] theorem queue_withPending (p : List Instr) (m : Nat) : (s.withPending p).queue m = s.queue m := rfl
@[simp] theorem queue_setSub (n : Nat) (u : Subscriber) (m : Nat) : (s.setSub n u).queue m = s.queue m := rfl
@[simp] theorem queue_bindAddress (a : Word) (o : Option Nat) (m : Nat) : (s.bindAddress a o).queue m = s.queue m := rfl
@[simp] theorem queue_setAcct (n : Nat) (a : Account) (m : Nat) : (s.setAcct n a).queue m = s.queue m := rfl
@[simp] theorem queue_setTariff (n : Nat) (e : Tariff) (m : Nat) : (s.setTariff n e).queue m = s.queue m := rfl
@[simp] theorem queue_setProfile (p : Priority) (f : Profile) (m : Nat) : (s.setProfile p f).queue m = s.queue m := by cases p <;> rfl
@[simp] theorem queue_setBody (n : Nat) (b : Body) (m : Nat) : (s.setBody n b).queue m = s.queue m := rfl
@[simp] theorem queue_setBlock (n : Nat) (b : Option (List Byte)) (m : Nat) : (s.setBlock n b).queue m = s.queue m := rfl
@[simp] theorem queue_setRecord (n : Nat) (r : DeliveryRecord) (m : Nat) : (s.setRecord n r).queue m = s.queue m := rfl
@[simp] theorem queue_setLive (n : Nat) (d : Delivery) (m : Nat) : (s.setLive n d).queue m = s.queue m := rfl
@[simp] theorem queue_freeRecord (n : Nat) (m : Nat) : (s.freeRecord n).queue m = s.queue m := rfl
@[simp] theorem queue_setCalList (k : Nat) (l : List Nat) (m : Nat) : (s.setCalList k l).queue m = s.queue m := rfl
@[simp] theorem queue_setZone (z : Nat) (r : Zone) (m : Nat) : (s.setZone z r).queue m = s.queue m := rfl
@[simp] theorem queue_setGroup (g : Nat) (r : Group) (m : Nat) : (s.setGroup g r).queue m = s.queue m := rfl
@[simp] theorem queue_setImages (g : Nat) (r : GroupImages) (m : Nat) : (s.setImages g r).queue m = s.queue m := rfl
@[simp] theorem queue_notice (b : Byte) (f : List Byte) (m : Nat) : (s.notice b f).queue m = s.queue m := rfl
@[simp] theorem queue_lineChoice (m : Nat) : (s.lineChoice).queue m = s.queue m := rfl

end Sys2Proof.Machine.State
end

