-- ==== Sys2Proof/Laws/Link.lean ====
section
/-! SUPPORT. What the operations of the control link can do: the idle line's choice, notices, offers, and a request command
(R184 to R188), and the receiver (R181). -/

namespace Sys2Proof.Machine

/-! ### The idle line's choice (R187) -/

namespace Link

variable (l : Link)

/-- Every outcome of the choice: nothing, the oldest reply, or the oldest notice. -/
theorem choose_cases :
    (l.lineBusy ∧ l.choose = l) ∨
    (∃ r rest, l.sending = none ∧ l.replies = r :: rest ∧
      l.choose = { l with sending := some r.bytes, replies := rest }) ∨
    (∃ r rest, l.sending = none ∧ l.replies = [] ∧ l.notices = r :: rest ∧
      l.choose = { l with sending := some r.bytes, notices := rest }) := by
  unfold choose lineBusy
  rcases l with ⟨_, _, _, _, replies, notices, sending, _, _, _, _, _, _, _⟩
  cases sending <;> cases replies <;> cases notices <;> simp

@[simp] theorem choose_rate : l.choose.rate = l.rate := by
  rcases l.choose_cases with ⟨-, h⟩ | ⟨r, rest, -, -, h⟩ | ⟨r, rest, -, -, -, h⟩ <;> rw [h]
@[simp] theorem choose_receiver : l.choose.receiver = l.receiver := by
  rcases l.choose_cases with ⟨-, h⟩ | ⟨r, rest, -, -, h⟩ | ⟨r, rest, -, -, -, h⟩ <;> rw [h]
@[simp] theorem choose_assembling : l.choose.assembling = l.assembling := by
  rcases l.choose_cases with ⟨-, h⟩ | ⟨r, rest, -, -, h⟩ | ⟨r, rest, -, -, -, h⟩ <;> rw [h]
@[simp] theorem choose_requests : l.choose.requests = l.requests := by
  rcases l.choose_cases with ⟨-, h⟩ | ⟨r, rest, -, -, h⟩ | ⟨r, rest, -, -, -, h⟩ <;> rw [h]
@[simp] theorem choose_signature : l.choose.signature = l.signature := by
  rcases l.choose_cases with ⟨-, h⟩ | ⟨r, rest, -, -, h⟩ | ⟨r, rest, -, -, -, h⟩ <;> rw [h]
@[simp] theorem choose_linkErrors : l.choose.linkErrors = l.linkErrors := by
  rcases l.choose_cases with ⟨-, h⟩ | ⟨r, rest, -, -, h⟩ | ⟨r, rest, -, -, -, h⟩ <;> rw [h]
@[simp] theorem choose_noticeSequence : l.choose.noticeSequence = l.noticeSequence := by
  rcases l.choose_cases with ⟨-, h⟩ | ⟨r, rest, -, -, h⟩ | ⟨r, rest, -, -, -, h⟩ <;> rw [h]

/-- After the choice the line is sending, or nothing waits. -/
theorem lineBusy_choose : l.choose.lineBusy := by
  rcases l.choose_cases with ⟨hb, h⟩ | ⟨r, rest, -, -, h⟩ | ⟨r, rest, -, -, -, h⟩ <;> rw [h]
  · exact hb
  · intro h; simp at h
  · intro h; simp at h

theorem choose_of_lineBusy {l : Link} (h : l.lineBusy) : l.choose = l := by
  rcases l.choose_cases with ⟨-, hl⟩ | ⟨r, rest, hs, hr, -⟩ | ⟨r, rest, hs, -, hn, -⟩
  · exact hl
  · simp [(h hs).1] at hr
  · simp [(h hs).2] at hn

@[simp] theorem choose_choose : l.choose.choose = l.choose := choose_of_lineBusy l.lineBusy_choose

theorem choose_replies_le : l.choose.replies.length ≤ l.replies.length := by
  rcases l.choose_cases with ⟨-, h⟩ | ⟨r, rest, -, hr, h⟩ | ⟨r, rest, -, -, -, h⟩ <;> rw [h]
  simp [hr]

theorem choose_notices_le : l.choose.notices.length ≤ l.notices.length := by
  rcases l.choose_cases with ⟨-, h⟩ | ⟨r, rest, -, hr, h⟩ | ⟨r, rest, -, -, hn, h⟩ <;> rw [h]
  simp [hn]

/-! ### Notices (R188) -/

/-- A notice takes its sequence number, and joins the queue or is counted as dropped. -/
theorem notice_cases (k : Byte) (f : List Byte) :
    (l.notices.length < 64 ∧ l.notice k f =
      { l with noticeSequence := l.noticeSequence + 1,
               notices := l.notices ++ [{ kind := k, tag := 0, payload := num2 l.noticeSequence.toNat ++ f }] }) ∨
    (64 ≤ l.notices.length ∧ l.notice k f =
      { l with noticeSequence := l.noticeSequence + 1,
               droppedNotices := min (l.droppedNotices + 1) 65535 }) := by
  unfold notice satAdd
  by_cases h : l.notices.length < 64
  · exact .inl ⟨h, by simp [h]⟩
  · exact .inr ⟨by omega, by simp [h]⟩

@[simp] theorem notice_requests (k : Byte) (f : List Byte) : (l.notice k f).requests = l.requests := by
  rcases l.notice_cases k f with ⟨-, h⟩ | ⟨-, h⟩ <;> rw [h]
@[simp] theorem notice_replies (k : Byte) (f : List Byte) : (l.notice k f).replies = l.replies := by
  rcases l.notice_cases k f with ⟨-, h⟩ | ⟨-, h⟩ <;> rw [h]
@[simp] theorem notice_sending (k : Byte) (f : List Byte) : (l.notice k f).sending = l.sending := by
  rcases l.notice_cases k f with ⟨-, h⟩ | ⟨-, h⟩ <;> rw [h]
@[simp] theorem notice_receiver (k : Byte) (f : List Byte) : (l.notice k f).receiver = l.receiver := by
  rcases l.notice_cases k f with ⟨-, h⟩ | ⟨-, h⟩ <;> rw [h]
@[simp] theorem notice_noticeSequence (k : Byte) (f : List Byte) :
    (l.notice k f).noticeSequence = l.noticeSequence + 1 := by
  rcases l.notice_cases k f with ⟨-, h⟩ | ⟨-, h⟩ <;> rw [h]

theorem notice_notices_le (k : Byte) (f : List Byte) (h : l.notices.length ≤ 64) : (l.notice k f).notices.length ≤ 64 := by
  rcases l.notice_cases k f with ⟨h', e⟩ | ⟨h', e⟩ <;> rw [e] <;> simp <;> omega

/-! ### Offers (R184) -/

/-- An offered record joins the request queue, or is refused with OVERFLOW, or is refused with no reply. -/
theorem offer_cases (r : LinkRecord) :
    (l.requests.length < 8 ∧ l.offer r =
      { l with requests := l.requests ++ [r], requestsTaken := l.requestsTaken + 1 }) ∨
    (8 ≤ l.requests.length ∧ l.replies.length < 16 ∧ l.offer r =
      { l with overflows := min (l.overflows + 1) 65535,
               replies := l.replies ++ [{ kind := 0x80, tag := r.tag, payload := [r.kind, 19, 0] }] }) ∨
    (8 ≤ l.requests.length ∧ 16 ≤ l.replies.length ∧ l.offer r =
      { l with overflows := min (l.overflows + 1) 65535, lostAnswers := min (l.lostAnswers + 1) 65535 }) := by
  unfold offer satAdd
  by_cases h : l.requests.length < 8
  · exact .inl ⟨h, by simp [h]⟩
  by_cases h' : l.replies.length < 16
  · exact .inr (.inl ⟨by omega, h', by simp [h, h', place, Answer.reply, Answer.refuse, Status.code, Answer.flags, num1]⟩)
  · exact .inr (.inr ⟨by omega, by omega, by simp [h, h']⟩)

end Link

/-! ### Events and requests (R185, R186) -/

@[simp] theorem State.lineChoice_lnk (s : State) : s.lineChoice.lnk = s.lnk.choose := rfl
@[simp] theorem State.notice_lnk (s : State) (k : Byte) (f : List Byte) : (s.notice k f).lnk = s.lnk.notice k f := rfl
@[simp] theorem State.lineChoice_lineChoice (s : State) : s.lineChoice.lineChoice = s.lineChoice := by
  simp [State.lineChoice]

/-- The record can be taken for execution exactly when it is ready. -/
theorem takes_iff (s : State) (r : LinkRecord) : s.lnk.takes r = true ↔ s.ready r := by simp [Link.takes, State.ready]

/-- A request whose record is ready is served and answered. -/
theorem request_of_ready {kind tag : Byte} {payload : List Byte} {serve : List Byte → State → State × Answer} {s : State}
    (h : s.ready { kind := kind, tag := tag, payload := payload }) :
    request kind tag payload serve s =
      .next ((serve payload s.taken).1.answered { kind := kind, tag := tag, payload := payload }
        (serve payload s.taken).2) := by
  have h := (takes_iff ..).2 h
  simp [request, reachLink, h, event, serveHead, State.answered, State.taken]

/-- Everything a request command can do: come in on the line unless it is ready, and then be served if it is. -/
theorem request_cases (kind tag : Byte) (payload : List Byte) (serve : List Byte → State → State × Answer) (s : State) :
    ∃ u : State, (u = s ∨ u = s.arrival { kind := kind, tag := tag, payload := payload }) ∧
      (request kind tag payload serve s = .next u.lineChoice ∨
        (u.ready { kind := kind, tag := tag, payload := payload } ∧
          request kind tag payload serve s =
            .next ((serve payload u.taken).1.answered { kind := kind, tag := tag, payload := payload }
              (serve payload u.taken).2))) := by
  refine ⟨reachLink { kind := kind, tag := tag, payload := payload } s, ?_, ?_⟩
  · unfold reachLink; split <;> simp
  · dsimp only [request]
    split
    · rename_i h
      exact .inr ⟨(takes_iff ..).1 h, by simp [event, serveHead, State.answered, State.taken]⟩
    · exact .inl rfl

/-! ### The receiver (R181, R182) -/

/-- Entry to LINK ERROR changes nothing but the link. -/
theorem enterLinkError_eq (s : State) (c : LinkCause) (t : Receiver) (bytes : List Byte) :
    s.enterLinkError c t bytes = s.withLnk (s.enterLinkError c t bytes).lnk := rfl

/-- Everything a byte can do: nothing; start a record; be stored; end the record in LINK ERROR; or complete a record that is
offered. -/
theorem receive_cases (s : State) (b : Byte) :
    s.receive b = s ∨
    (s.lnk.receiver = .hunt ∧ b = 0xA5 ∧
      s.receive b = s.withLnk { s.lnk with receiver := .receiving, assembling := [b] }) ∨
    (s.lnk.receiver = .receiving ∧
      (s.receive b = s.withLnk { s.lnk with assembling := s.lnk.assembling ++ [b] } ∨
       (∃ c, s.receive b = s.enterLinkError c .receiving (s.lnk.assembling ++ [b])) ∨
       s.receive b = s.withLnk ({ s.lnk with receiver := .hunt, assembling := [] }.offer
         (recordOf (s.lnk.assembling ++ [b]))))) := by
  unfold State.receive
  cases h : s.lnk.receiver
  · dsimp only
    split
    · exact .inr (.inl ⟨rfl, ‹_›, rfl⟩)
    · exact .inl rfl
  · refine .inr (.inr ⟨rfl, ?_⟩)
    dsimp only [State.storeByte]
    split
    · exact .inr (.inl ⟨_, rfl⟩)
    · split
      · split
        · exact .inr (.inr rfl)
        · exact .inr (.inl ⟨_, rfl⟩)
      · exact .inl rfl
  · exact .inl rfl

/-- A byte changes nothing but the link. -/
theorem receive_eq (s : State) (b : Byte) : s.receive b = s.withLnk (s.receive b).lnk := by
  rcases receive_cases s b with h | ⟨-, -, h⟩ | ⟨-, h | ⟨c, h⟩ | h⟩ <;> rw [h]
  · rfl
  · rfl
  · rfl
  · exact enterLinkError_eq ..
  · rfl

/-- What every byte keeps, the arrival of a record keeps. -/
theorem arrival_keeps {P : State → Prop} (byte : ∀ (s : State) (b : Byte), P s → P (s.receive b).lineChoice) (s : State)
    (r : LinkRecord) (h : P s) : P (s.arrival r) := by
  unfold State.arrival
  induction r.bytes generalizing s with
  | nil => exact h
  | cons b l ih => exact ih _ (byte s b h)

/-- The arrival of a record changes nothing but the link. -/
theorem arrival_eq (s : State) (r : LinkRecord) : s.arrival r = s.withLnk (s.arrival r).lnk := by
  refine arrival_keeps (P := fun t => t = s.withLnk t.lnk) (fun t b h => ?_) s r rfl
  rw [receive_eq]
  dsimp only [State.lineChoice, State.withLnk] at h ⊢
  rw [h]

/-- In LINK ERROR a byte is discarded (R181). -/
theorem receive_of_linkError (s : State) (b : Byte) (h : s.lnk.receiver = .linkError) : s.receive b = s := by
  simp [State.receive, h]

/-- In LINK ERROR the characters of a record are discarded (R181). -/
theorem arrival_of_linkError (s : State) (r : LinkRecord) (h : s.lnk.receiver = .linkError) :
    s.arrival r = s.lineChoice := by
  have keep : ∀ l : List Byte, l.foldl (fun s b => (s.receive b).lineChoice) s.lineChoice = s.lineChoice := by
    intro l
    induction l with
    | nil => rfl
    | cons b l ih =>
      rw [List.foldl_cons, receive_of_linkError _ _ (by simpa using h), State.lineChoice_lineChoice, ih]
  rw [State.arrival, LinkRecord.bytes, List.cons_append, List.foldl_cons, receive_of_linkError s _ h, keep]

/-- An event's outcome is always a next state. -/
theorem event_eq (s : State) : event s = .next s.lineChoice := rfl

end Sys2Proof.Machine
end

