-- ==== Sys2Proof/Laws/Moments.lean ====
section
/-! SUPPORT. The moments of a frame: what `State.nextMoment` and `State.atMoment` can answer, once for all the
commands that stand at a moment (R92, R94, R114; log 3). -/

namespace Sys2Proof.Machine

theorem le_foldl_min (l : List Nat) (b q : Nat) : q ≤ l.foldl min b ↔ q ≤ b ∧ ∀ e ∈ l, q ≤ e := by
  induction l generalizing b with
  | nil => simp
  | cons a l ih => simp [ih, and_assoc]

theorem mem_zoneNumbers (z : Nat) : z ∈ zoneNumbers ↔ z < 8 := by
  simp only [zoneNumbers, List.mem_cons, List.not_mem_nil, or_false]; omega

theorem fieldEnd_eq_some (s : State) (z e : Nat) :
    s.fieldEnd z = some e ↔
      ∃ p, (s.zone z).keyed = true ∧ s.zonePlan z = some p ∧ e = 100 * (p.settle + 4 + p.capacity) := by
  unfold State.fieldEnd
  cases (s.zone z).keyed <;> cases s.zonePlan z <;> simp [Plan.dataEnd, Config.wordTicks, eq_comm (b := e)]

/-- A position is at or before the earliest event of the frame not taken. -/
theorem le_nextMoment (s : State) (q : Nat) :
    q ≤ s.nextMoment ↔
      (if s.clk.buildPassed then q ≤ 49935 + s.clk.trim else q ≤ 40000) ∧
      ∀ z < 8, ∀ p, (s.zone z).keyed = true → s.zonePlan z = some p → q ≤ 100 * (p.settle + 4 + p.capacity) := by
  rw [State.nextMoment, le_foldl_min]
  refine and_congr ?_ ⟨fun h z hz p k hp => ?_, fun h e he => ?_⟩
  · cases s.clk.buildPassed
    · simp
    · simp only [if_pos, Clock.lastPosition, Clock.frameLength, Config.frameBase]; omega
  · exact h _ (List.mem_filterMap.2 ⟨z, (mem_zoneNumbers z).2 hz, (fieldEnd_eq_some ..).2 ⟨p, k, hp, rfl⟩⟩)
  · obtain ⟨z, hz, hf⟩ := List.mem_filterMap.1 he
    obtain ⟨p, k, hp, rfl⟩ := (fieldEnd_eq_some ..).1 hf
    exact h z ((mem_zoneNumbers z).1 hz) p k hp

/-- A moment of the frame is reached exactly when no event is left behind. -/
theorem reaches_iff (s : State) (q : Nat) :
    s.reaches q ↔ s.clk.state = .running ∧ s.clk.position ≤ q ∧ q < 49936 + s.clk.trim ∧ q ≤ s.nextMoment := by
  rw [le_nextMoment, State.reaches]
  refine and_congr_right fun _ => and_congr_right fun _ => and_congr_right fun h => and_congr_left fun _ => ?_
  cases s.clk.buildPassed <;> simp; omega

theorem atMoment_of_reaches {s : State} {q : Nat} (h : s.reaches q) :
    s.atMoment q = some (s.withClk { s.clk with position := q }) := by
  obtain ⟨a, b, -, c⟩ := (reaches_iff s q).1 h
  simp [State.atMoment, a, b, c]

theorem atMoment_of_not_reaches {s : State} {q : Nat} (hq : q < 49936 + s.clk.trim) (h : ¬s.reaches q) :
    s.atMoment q = none := by
  rw [reaches_iff] at h
  rw [State.atMoment, if_neg]
  exact fun ⟨a, b, c⟩ => h ⟨a, b, hq, c⟩

end Sys2Proof.Machine
end

