-- ==== Sys2Proof/Laws/Operands.lean ====
section
/-! SUPPORT. What a field of a payload reads back as: numbers, codes, sets and return records (R192, R194, R196). -/

namespace Sys2Proof.Machine

/-! ### Numbers (R192) -/

@[simp] theorem length_num1 (n : Nat) : (num1 n).length = 1 := rfl
@[simp] theorem length_num2 (n : Nat) : (num2 n).length = 2 := rfl
@[simp] theorem length_num4 (n : Nat) : (num4 n).length = 4 := rfl
@[simp] theorem length_ser4 (x : Serial) : (ser4 x).length = 4 := rfl
@[simp] theorem length_int4 (i : Int) : (int4 i).length = 4 := rfl
@[simp] theorem length_flag1 (b : Bool) : (flag1 b).length = 1 := rfl
@[simp] theorem length_ticket3 (k : Ticket) : (ticket3 k).length = 3 := rfl
@[simp] theorem length_groups1 (g : GroupSet) : (groups1 g).length = 1 := rfl
@[simp] theorem length_slots2 (j : SlotSet) : (slots2 j).length = 2 := rfl
@[simp] theorem length_zeros (n : Nat) : (zeros n).length = n := List.length_replicate ..

/-- Fields past the front of a payload. -/
theorem get1_append (a p : List Byte) (i : Nat) : get1 (a ++ p) (a.length + i) = get1 p i := by
  simp [get1, List.getElem?_append_right]

theorem get2_append (a p : List Byte) (i : Nat) : get2 (a ++ p) (a.length + i) = get2 p i := by
  unfold get2; rw [Nat.add_assoc, get1_append, get1_append]

theorem get4_append (a p : List Byte) (i : Nat) : get4 (a ++ p) (a.length + i) = get4 p i := by
  unfold get4; rw [Nat.add_assoc, get2_append, get2_append]

@[simp] theorem get1_cons_zero (b : Byte) (p : List Byte) : get1 (b :: p) 0 = b.toNat := rfl
@[simp] theorem get1_cons_succ (b : Byte) (p : List Byte) (i : Nat) : get1 (b :: p) (i + 1) = get1 p i := rfl

/-- The first field of a payload. -/
theorem get1_num1 {n : Nat} (h : n < 256) (p : List Byte) : get1 (num1 n ++ p) 0 = n := by
  simp [num1]; omega

theorem get2_num2 {n : Nat} (h : n < 65536) (p : List Byte) : get2 (num2 n ++ p) 0 = n := by
  simp [num2, get2]; omega

theorem get4_num4 {n : Nat} (h : n < 4294967296) (p : List Byte) : get4 (num4 n ++ p) 0 = n := by
  simp [num4, get4, get2]; omega

theorem getSer_ser4 (x : Serial) (p : List Byte) : getSer (ser4 x ++ p) 0 = x := by
  unfold getSer ser4; rw [get4_num4 x.isLt]; simp

theorem getInt_int4 {i : Int} (lo : -2147483648 ≤ i) (hi : i ≤ 2147483647) (p : List Byte) : getInt (int4 i ++ p) 0 = i := by
  unfold getInt int4
  rw [get4_num4 (BitVec.isLt _), BitVec.ofNat_toNat, BitVec.setWidth_eq, BitVec.toInt_ofInt,
    Int.bmod_eq_of_le (by omega) (by omega)]

theorem getTicket_ticket3 {k : Ticket} (h : k.number < 65536) (p : List Byte) : getTicket (ticket3 k ++ p) 0 = k := by
  unfold getTicket ticket3
  rw [List.append_assoc, get2_num2 h]
  simp [num2]

/-! ### Codes (R192, R194) -/

@[simp] theorem PagerClass.ofCode_code (x : PagerClass) : PagerClass.ofCode x.code = some x := by cases x <;> rfl
@[simp] theorem Priority.ofCode_code (x : Priority) : Priority.ofCode x.code = some x := by cases x <;> rfl
@[simp] theorem Encoding.ofCode_code (x : Encoding) : Encoding.ofCode x.code = some x := by cases x <;> rfl
@[simp] theorem NoticeMode.ofCode_code (x : NoticeMode) : NoticeMode.ofCode x.code = some x := by cases x <;> rfl
@[simp] theorem Polarity.ofCode_code (x : Polarity) : Polarity.ofCode x.code = some x := by cases x <;> rfl
@[simp] theorem NoticeEdge.ofCode_code (x : NoticeEdge) : NoticeEdge.ofCode x.code = some x := by cases x <;> rfl
@[simp] theorem OrderMode.ofCode_code (x : OrderMode) : OrderMode.ofCode x.code = some x := by cases x <;> rfl

theorem PagerClass.code_lt (x : PagerClass) : x.code < 256 := by cases x <;> decide
theorem Priority.code_lt (x : Priority) : x.code < 256 := by cases x <;> decide
theorem Encoding.code_lt (x : Encoding) : x.code < 256 := by cases x <;> decide
theorem NoticeMode.code_lt (x : NoticeMode) : x.code < 256 := by cases x <;> decide
theorem Polarity.code_lt (x : Polarity) : x.code < 256 := by cases x <;> decide
theorem NoticeEdge.code_lt (x : NoticeEdge) : x.code < 256 := by cases x <;> decide
theorem OrderMode.code_lt (x : OrderMode) : x.code < 256 := by cases x <;> decide

/-- The only codes of a priority are 0, 1 and 2. -/
theorem Priority.ofCode_none {n : Nat} (h : 3 ≤ n) : Priority.ofCode n = none := by
  unfold Priority.ofCode; split <;> simp_all

theorem groupSetOfCode_setWidth (g : GroupSet) : groupSetOfCode (g.setWidth 8).toNat = some g := by
  revert g; decide

theorem boolOfCode_flag (b : Bool) : boolOfCode (if b then (1 : Byte) else 0).toNat = some b := by cases b <;> rfl

/-! ### Sums and return records (R196) -/

/-- The check byte makes the sum of all bytes 0. -/
theorem byteSum_check (bytes : List Byte) : byteSum (bytes ++ [BitVec.ofNat 8 (256 - byteSum bytes)]) = 0 := by
  simp only [byteSum, List.map_append, List.sum_append, List.map_cons, List.map_nil, List.sum_cons, List.sum_nil,
    BitVec.toNat_ofNat]
  omega

/-- The words that a text fills are those that intake counts (R46, R65). -/
theorem length_numericWords : ∀ text : List Byte, (numericWords text).length = (text.length + 3) / 4
  | [] => rfl
  | [_] => by simp [numericWords]
  | [_, _] => by simp [numericWords]
  | [_, _, _] => by simp [numericWords]
  | a :: b :: c :: d :: rest => by
    simp only [numericWords, List.length_cons, length_numericWords rest]; omega

theorem length_alphaWords : ∀ text : List Byte, (alphaWords text).length = (text.length + 1) / 2
  | [] => rfl
  | [_] => by simp [alphaWords]
  | a :: b :: rest => by simp only [alphaWords, List.length_cons, length_alphaWords rest]; omega

theorem length_textWords (e : Encoding) (text : List Byte) : (textWords e text).length = bodyWordsOf e text.length := by
  cases e
  · rfl
  · exact length_numericWords text
  · exact length_alphaWords text

/-- Cutting into enough blocks loses nothing. -/
theorem flatten_cutBlocks : ∀ (k : Nat) (text : List Byte), text.length ≤ 32 * k → (cutBlocks k text).flatten = text
  | 0, [], _ => rfl
  | 0, _ :: _, h => by simp at h
  | k + 1, text, h => by
    simp only [cutBlocks, List.flatten_cons]
    rw [flatten_cutBlocks k (text.drop 32) (by simp; omega), List.take_append_drop]

theorem length_cutBlocks : ∀ (k : Nat) (text : List Byte), (cutBlocks k text).length = k
  | 0, _ => rfl
  | k + 1, text => by simp [cutBlocks, length_cutBlocks k]

end Sys2Proof.Machine
end

