-- ==== Sys2Proof/Laws/Payloads.lean ====
section
/-! SUPPORT. What each request, and each return record, built from its fields is read as (R44, R60, R192, R194, R196). -/

namespace Sys2Proof.Machine

/-- A four-byte field with another field in front of it. -/
theorem getInt_append (a p : List Byte) (i : Nat) : getInt (a ++ p) (a.length + i) = getInt p i := by
  unfold getInt; rw [get4_append]

namespace Payload

/-! ### The unit directory (R8, R9) -/

theorem number_assign {n : Nat} (h : n < 65536) (u : Subscriber) : get2 (assign n u) 0 = n := get2_num2 h _

theorem settings_assign (n : Nat) (u : Subscriber) (hs : u.service = .active) (ha : u.address ≠ 0)
    (hi : intervalDefined u.interval = true) (hh : u.home ≠ 0) (hc : groupSubset u.home u.coverage = true)
    (hk : u.account < 65536) (ht : u.trim < 256) (hz : u.live = 0 ∧ u.heard = none ∧ u.checkIns = 0 ∧ u.receipts = 0) :
    assignSettings (assign n u) = some u := by
  have hi' : u.interval < 256 := by simp [intervalDefined] at hi; omega
  have g2 : get2 (assign n u) 2 = u.address.toNat := by
    have := u.address.isLt
    simp [assign, settings, get2, num2, num1]; omega
  have g4 : get1 (assign n u) 4 = u.pager.code := by
    have := u.pager.code_lt
    simp [assign, settings, num2, num1]; omega
  have g5 : get1 (assign n u) 5 = u.interval := by simp [assign, settings, num2, num1]; omega
  have g6 : get1 (assign n u) 6 = (u.home.setWidth 8).toNat := by simp [assign, settings, num2, num1, groups1]
  have g7 : get1 (assign n u) 7 = (u.coverage.setWidth 8).toNat := by simp [assign, settings, num2, num1, groups1]
  have g8 : get2 (assign n u) 8 = u.account := by simp [assign, settings, get2, num2, num1, groups1]; omega
  have g10 : get1 (assign n u) 10 = u.trim := by simp [assign, settings, num2, num1, groups1]; omega
  have ha' : u.address.toNat ≠ 0 := fun h => ha (BitVec.eq_of_toNat_eq h)
  simp only [assignSettings, g2, g4, g5, g6, g7, g8, g10, PagerClass.ofCode_code, groupSetOfCode_setWidth]
  rw [if_pos ⟨ha', hi, hh, hc⟩]
  rcases u with ⟨⟩
  simp_all

theorem number_modify {n : Nat} (h : n < 65536) (selection : Byte) (u : Subscriber) :
    get2 (modify n selection u) 0 = n := get2_num2 h _

theorem selection_modify (n bit : Nat) (selection : Byte) (u : Subscriber) :
    namesSetting (modify n selection u) bit = selection.getLsbD bit := rfl

/-- The seven values of MODIFY SUBSCRIBER. -/
theorem values_modify (n : Nat) (selection : Byte) (u : Subscriber) (hi : u.interval < 256) (hk : u.account < 65536)
    (ht : u.trim < 256) :
    get2 (modify n selection u) 3 = u.address.toNat ∧ get1 (modify n selection u) 5 = u.pager.code ∧
    get1 (modify n selection u) 6 = u.interval ∧ get1 (modify n selection u) 7 = (u.home.setWidth 8).toNat ∧
    get1 (modify n selection u) 8 = (u.coverage.setWidth 8).toNat ∧ get2 (modify n selection u) 9 = u.account ∧
    get1 (modify n selection u) 11 = u.trim := by
  have := u.address.isLt
  have := u.pager.code_lt
  refine ⟨?_, ?_, ?_, ?_, ?_, ?_, ?_⟩ <;> simp [modify, settings, get2, num2, num1, groups1] <;> omega

/-! ### Accounts (R23, R32, R35) -/

theorem fields_openAccount (n tariff credit : Nat) (balance : Int) (hn : n < 65536) (ht : tariff < 256)
    (hl : -2147483648 ≤ balance) (hh : balance ≤ 2147483647) (hc : credit < 4294967296) :
    get2 (openAccount n tariff balance credit) 0 = n ∧ get1 (openAccount n tariff balance credit) 2 = tariff ∧
    getInt (openAccount n tariff balance credit) 3 = balance ∧ get4 (openAccount n tariff balance credit) 7 = credit := by
  refine ⟨?_, ?_, ?_, ?_⟩
  · simp only [openAccount, List.append_assoc]; exact get2_num2 hn _
  · simp only [openAccount, List.append_assoc]; exact (get1_append (num2 n) _ 0).trans (get1_num1 ht _)
  · have h := getInt_append (num2 n ++ num1 tariff) (int4 balance ++ num4 credit) 0
    simp only [openAccount, List.append_assoc] at h ⊢
    exact h.trans (getInt_int4 hl hh _)
  · have h := get4_append (num2 n ++ num1 tariff ++ int4 balance) (num4 credit ++ []) 0
    simp only [openAccount, List.append_assoc, List.append_nil] at h ⊢
    exact h.trans (by simpa using get4_num4 hc [])

theorem class_tariff {k : Nat} (h : k < 256) (e : Tariff) : get1 (num1 k ++ e.bytes) 0 = k := get1_num1 h _

theorem tariffOf_bytes (k : Nat) (e : Tariff) (hb : e.base < 65536) (hk : e.perWord < 65536) (h1 : e.f1 < 256)
    (h2 : e.f2 < 256) (h3 : e.f3 < 256) (h4 : e.f4 < 256) (hu : e.urgent < 256) (hl : e.low < 256)
    (hm : e.minimum < 65536) (he : e.expiry < 65536) : tariffOf (num1 k ++ e.bytes) = e := by
  rcases e with ⟨⟩
  simp only [tariffOf, Tariff.bytes, num1, num2, get2, List.cons_append, List.nil_append, get1_cons_succ, get1_cons_zero,
    Tariff.mk.injEq, BitVec.toNat_ofNat]
  simp only at hb hk h1 h2 h3 h4 hu hl hm he
  refine ⟨?_, ?_, ?_, ?_, ?_, ?_, ?_, ?_, ?_, ?_⟩ <;> omega

theorem profileOf_bytes (k : Nat) (f : Profile) (ha : f.allowance < 256) (hr : f.repeats < 256) (hb : f.base < 256)
    (hl : f.lifetime < 256) : profileOf (num1 k ++ f.bytes) = f := by
  rcases f with ⟨⟩
  simp only [profileOf, Profile.bytes, num1, List.cons_append, List.nil_append, get1_cons_succ, get1_cons_zero,
    Profile.mk.injEq, BitVec.toNat_ofNat]
  simp only at ha hr hb hl
  refine ⟨?_, ?_, ?_, ?_⟩ <;> omega

/-! ### Submissions (11.1.1, 11.1.2) -/

theorem readPage_page (n : Nat) (x : Submission) (hn : n < 65536) (hl : x.lifetime < 256) (ht : x.text.length < 256) :
    readPage (page n x) = some (n, x) := by
  have h1 := x.priority.code_lt
  have h2 := x.encoding.code_lt
  have h3 := x.noticeMode.code_lt
  have hp : page n x = BitVec.ofNat 8 (n / 256) :: BitVec.ofNat 8 n :: BitVec.ofNat 8 x.priority.code ::
      BitVec.ofNat 8 x.encoding.code :: BitVec.ofNat 8 x.noticeMode.code :: BitVec.ofNat 8 x.lifetime ::
      BitVec.ofNat 8 x.text.length :: x.text := rfl
  rw [hp]
  simp only [readPage, submissionOf, List.length_cons, get2, get1_cons_succ, get1_cons_zero, BitVec.toNat_ofNat,
    Nat.mod_eq_of_lt h1, Nat.mod_eq_of_lt h2, Nat.mod_eq_of_lt h3, Nat.mod_eq_of_lt hl, Nat.mod_eq_of_lt ht,
    Priority.ofCode_code, Encoding.ofCode_code, NoticeMode.ofCode_code, List.drop_succ_cons, List.drop_zero, Nat.reducePow]
  rw [if_pos (by omega)]
  simp only [Option.map_some, Option.some.injEq, Prod.mk.injEq, and_true]
  omega

theorem memberList_cons : ∀ (list : List Nat) (front text : List Byte), (∀ m ∈ list, m < 65536) →
    (List.range list.length).map (fun k => get2 (front ++ (list.map num2).flatten ++ text) (front.length + 2 * k)) = list
  | [], _, _, _ => rfl
  | m :: rest, front, text, h => by
    have ih := memberList_cons rest (front ++ num2 m) text (fun k hk => h k (List.mem_cons_of_mem _ hk))
    simp only [List.length_cons, List.range_succ_eq_map, List.map_cons, List.map_map, List.flatten_cons, Nat.mul_zero]
    refine List.cons_eq_cons.2 ⟨?_, ?_⟩
    · rw [List.append_assoc, List.append_assoc]
      exact (get2_append front _ 0).trans (get2_num2 (h m List.mem_cons_self) _)
    · refine Eq.trans (List.map_congr_left fun k _ => ?_) ih
      simp only [Function.comp, List.append_assoc, List.length_append, length_num2]
      rw [show front.length + 2 * (k + 1) = front.length + 2 + 2 * k by omega]

theorem length_numbers (list : List Nat) : ((list.map num2).flatten).length = 2 * list.length := by
  induction list with
  | nil => rfl
  | cons m rest ih => simp [ih]; omega

theorem readGroupPage_groupPage (list : List Nat) (x : Submission) (hn : list ≠ []) (h64 : list.length ≤ 64)
    (hm : ∀ m ∈ list, m < 65536) (hl : x.lifetime < 256) (ht : x.text.length < 256) :
    readGroupPage (groupPage list x) = some (list, x) := by
  have h1 := x.priority.code_lt
  have h2 := x.encoding.code_lt
  have h3 := x.noticeMode.code_lt
  have h0 : 0 < list.length := List.length_pos_of_ne_nil hn
  have hc : list.length < 256 := by omega
  let front : List Byte := [BitVec.ofNat 8 x.priority.code, BitVec.ofNat 8 x.encoding.code, BitVec.ofNat 8 x.noticeMode.code,
    BitVec.ofNat 8 x.lifetime, BitVec.ofNat 8 x.text.length, BitVec.ofNat 8 list.length]
  have hp : groupPage list x = front ++ (list.map num2).flatten ++ x.text := rfl
  have hlist := memberList_cons list front x.text hm
  have g (i : Nat) (hi : i < 6) : get1 (groupPage list x) i = get1 front i := by
    have hi' : i < front.length := hi
    rw [hp, List.append_assoc]; simp [get1, List.getElem?_append_left hi']
  have g4 : get1 (groupPage list x) 4 = x.text.length := by rw [g 4 (by omega)]; simp [front]; omega
  have g5 : get1 (groupPage list x) 5 = list.length := by rw [g 5 (by omega)]; simp [front]; omega
  have hlen : (groupPage list x).length = 6 + 2 * list.length + x.text.length := by
    rw [hp, List.length_append, List.length_append, length_numbers]; rfl
  have hdrop : (groupPage list x).drop (6 + 2 * list.length) = x.text := by
    have : (front ++ (list.map num2).flatten).length = 6 + 2 * list.length := by
      rw [List.length_append, length_numbers]; rfl
    rw [hp, ← this, List.drop_left]
  have hml : memberList (groupPage list x) = list := by
    unfold memberList; rw [g5, hp]; exact hlist
  have hsub : submissionOf (groupPage list x) 0 x.text = some x := by
    unfold submissionOf
    rw [g 0 (by omega), g 1 (by omega), g 2 (by omega), g 3 (by omega)]
    simp [front, Nat.mod_eq_of_lt h1, Nat.mod_eq_of_lt h2, Nat.mod_eq_of_lt h3, Nat.mod_eq_of_lt hl]
  unfold readGroupPage; dsimp only
  rw [g4, g5, hlen, hdrop, hsub, hml, if_pos (by omega)]; rfl

/-! ### Return records (R196) -/

theorem readReturn_receipt {frame slot reply : Nat} (hf : frame < 64) (hs : slot < 16) (hr : reply < 16) (check : Byte) :
    readReturn (receipt frame slot reply check) = some (.receipt frame slot reply check) := by
  have hb : byteSum (receipt frame slot reply check) = 0 := byteSum_check _
  have h (a b c d : Byte) : readReturn [0x31, 3, a, b, c, d] =
      if byteSum [0x31, 3, a, b, c, d] = 0 then some (.receipt (a.toNat / 4) (b.toNat / 16) (b.toNat % 16) c) else none := rfl
  refine (h _ _ _ _).trans ((if_pos hb).trans ?_)
  simp only [Option.some.injEq, ReturnFields.receipt.injEq, BitVec.toNat_ofNat]
  refine ⟨?_, ?_, ?_, trivial⟩ <;> omega

theorem readReturn_checkIn (a : Word) : readReturn (checkIn a) = some (.checkIn a) := by
  have hb : byteSum (checkIn a) = 0 := byteSum_check _
  have hlt := a.isLt
  have h (b c d : Byte) : readReturn [0x32, 2, b, c, d] =
      if byteSum [0x32, 2, b, c, d] = 0 then some (.checkIn (BitVec.ofNat 16 (b.toNat * 256 + c.toNat))) else none := rfl
  refine (h _ _ _).trans ((if_pos hb).trans ?_)
  simp only [Option.some.injEq, ReturnFields.checkIn.injEq, BitVec.toNat_ofNat]
  apply BitVec.eq_of_toNat_eq
  simp only [BitVec.toNat_ofNat]; omega

end Payload

end Sys2Proof.Machine
end

