-- ==== Sys2Proof/Laws/Traffic.lean ====
section
/-! SUPPORT. What the operations on deliveries can do: filing, the release of a body, slots, settlement, re-filing and reverts
(R64, R66, R75, R79, R85, R164). -/

namespace Sys2Proof.Machine.State

variable (s : State)

/-! ### Filing (R74, R75) -/

/-- Taking a delivery out of its list: the list of a waiting delivery loses it, and nothing else happens. -/
theorem unfile_cases (n : Nat) :
    (∃ d, s.live n = some d ∧ d.state.waiting = true ∧
      s.unfile n = s.setCalList (frameNumber d.due) ((s.calList (frameNumber d.due)).filter (fun m => m ≠ n))) ∨
    ((∀ d, s.live n = some d → d.state.waiting = false) ∧ s.unfile n = s) := by
  unfold unfile
  cases h : s.live n with
  | none => exact .inr ⟨by simp, rfl⟩
  | some d =>
    by_cases hw : d.state.waiting = true
    · exact .inl ⟨d, rfl, hw, by simp [hw]⟩
    · exact .inr ⟨by simpa using hw, by simp [hw]⟩

@[simp] theorem unfile_dir (n : Nat) : (s.unfile n).dir = s.dir := by rcases s.unfile_cases n with ⟨d, -, -, h⟩ | ⟨-, h⟩ <;> simp [h]
@[simp] theorem unfile_act (n : Nat) : (s.unfile n).act = s.act := by rcases s.unfile_cases n with ⟨d, -, -, h⟩ | ⟨-, h⟩ <;> simp [h]
@[simp] theorem unfile_txt (n : Nat) : (s.unfile n).txt = s.txt := by rcases s.unfile_cases n with ⟨d, -, -, h⟩ | ⟨-, h⟩ <;> simp [h]
@[simp] theorem unfile_clk (n : Nat) : (s.unfile n).clk = s.clk := by rcases s.unfile_cases n with ⟨d, -, -, h⟩ | ⟨-, h⟩ <;> simp [h]
@[simp] theorem unfile_zon (n : Nat) : (s.unfile n).zon = s.zon := by rcases s.unfile_cases n with ⟨d, -, -, h⟩ | ⟨-, h⟩ <;> simp [h]
@[simp] theorem unfile_bld (n : Nat) : (s.unfile n).bld = s.bld := by rcases s.unfile_cases n with ⟨d, -, -, h⟩ | ⟨-, h⟩ <;> simp [h]
@[simp] theorem unfile_rcp (n : Nat) : (s.unfile n).rcp = s.rcp := by rcases s.unfile_cases n with ⟨d, -, -, h⟩ | ⟨-, h⟩ <;> simp [h]
@[simp] theorem unfile_jnl (n : Nat) : (s.unfile n).jnl = s.jnl := by rcases s.unfile_cases n with ⟨d, -, -, h⟩ | ⟨-, h⟩ <;> simp [h]
@[simp] theorem unfile_lnk (n : Nat) : (s.unfile n).lnk = s.lnk := by rcases s.unfile_cases n with ⟨d, -, -, h⟩ | ⟨-, h⟩ <;> simp [h]
@[simp] theorem unfile_pending (n : Nat) : (s.unfile n).pending = s.pending := by rcases s.unfile_cases n with ⟨d, -, -, h⟩ | ⟨-, h⟩ <;> simp [h]
@[simp] theorem unfile_record (n m : Nat) : (s.unfile n).record m = s.record m := by
  rcases s.unfile_cases n with ⟨d, -, -, h⟩ | ⟨-, h⟩ <;> simp [h]
@[simp] theorem unfile_live (n m : Nat) : (s.unfile n).live m = s.live m := by
  rcases s.unfile_cases n with ⟨d, -, -, h⟩ | ⟨-, h⟩ <;> simp [h]
@[simp] theorem unfile_ticket (n m : Nat) : (s.unfile n).ticket m = s.ticket m := by
  rcases s.unfile_cases n with ⟨d, -, -, h⟩ | ⟨-, h⟩ <;> simp [h]
@[simp] theorem unfile_sequence (n : Nat) : (s.unfile n).dlv.sequence = s.dlv.sequence := by
  rcases s.unfile_cases n with ⟨d, -, -, h⟩ | ⟨-, h⟩ <;> simp [h]

/-- The lists after a delivery was taken out of its list. -/
theorem calList_unfile (n k : Nat) :
    (s.unfile n).calList k =
      if ∃ d, s.live n = some d ∧ d.state.waiting = true ∧ frameNumber d.due = k then
        (s.calList k).filter (fun m => m ≠ n)
      else s.calList k := by
  rcases s.unfile_cases n with ⟨d, hd, hw, h⟩ | ⟨hw, h⟩ <;> rw [h]
  · rw [calList_setCalList]
    by_cases hk : k = frameNumber d.due
    · subst hk; simp [hd, hw]
    · rw [if_neg hk, if_neg]; simp [hd, hw]; exact fun h => hk h.symm
  · rw [if_neg]; rintro ⟨d, hd, hw', -⟩; simp [hw d hd] at hw'

/-- The place at which a delivery enters a list keeps the rest in order. -/
theorem insertInList_perm (n : Nat) (d : Delivery) (l : List Nat) : (insertInList s n d l).Perm (n :: l) := by
  induction l with
  | nil => exact .refl _
  | cons m rest ih =>
    unfold insertInList
    split
    · split <;> first | exact .refl _ | exact (ih.cons m).trans (.swap n m rest)
    · simp only [Bool.false_eq_true, if_false]; exact (ih.cons m).trans (.swap n m rest)

@[simp] theorem file_dir (n : Nat) (d : Delivery) : (s.file n d).dir = s.dir := by rfl
@[simp] theorem file_act (n : Nat) (d : Delivery) : (s.file n d).act = s.act := by rfl
@[simp] theorem file_txt (n : Nat) (d : Delivery) : (s.file n d).txt = s.txt := by rfl
@[simp] theorem file_clk (n : Nat) (d : Delivery) : (s.file n d).clk = s.clk := by rfl
@[simp] theorem file_zon (n : Nat) (d : Delivery) : (s.file n d).zon = s.zon := by rfl
@[simp] theorem file_bld (n : Nat) (d : Delivery) : (s.file n d).bld = s.bld := by rfl
@[simp] theorem file_rcp (n : Nat) (d : Delivery) : (s.file n d).rcp = s.rcp := by rfl
@[simp] theorem file_jnl (n : Nat) (d : Delivery) : (s.file n d).jnl = s.jnl := by rfl
@[simp] theorem file_lnk (n : Nat) (d : Delivery) : (s.file n d).lnk = s.lnk := by rfl
@[simp] theorem file_pending (n : Nat) (d : Delivery) : (s.file n d).pending = s.pending := by rfl
@[simp] theorem file_sequence (n : Nat) (d : Delivery) : (s.file n d).dlv.sequence = s.dlv.sequence := by rfl
theorem live_file (n m : Nat) (d : Delivery) : (s.file n d).live m = if m = n then some d else s.live m := live_setLive ..
@[simp] theorem file_issue (n m : Nat) (d : Delivery) : ((s.file n d).record m).issue = (s.record m).issue := issue_setLive ..
@[simp] theorem file_ticket (n m : Nat) (d : Delivery) : (s.file n d).ticket m = s.ticket m := by simp [ticket]
theorem file_record_other {n m : Nat} (h : m ≠ n) (d : Delivery) : (s.file n d).record m = s.record m :=
  record_setRecord_other _ h ..
theorem calList_file (n k : Nat) (d : Delivery) :
    (s.file n d).calList k =
      if k = frameNumber d.due then insertInList (s.setLive n d) n d (s.calList k) else s.calList k := by
  unfold file; rw [calList_setCalList]; split
  · subst k; simp
  · simp

/-! ### Bodies (R64, R66) -/

theorem writeBlocks_eq (l : List (Nat × List Byte)) :
    writeBlocks s l = s.withTxt { s.txt with blocks := (writeBlocks s l).txt.blocks } := by
  induction l generalizing s with
  | nil => rfl
  | cons p rest ih => exact (ih _).trans rfl

theorem dropBlocks_eq (l : List Nat) : dropBlocks s l = s.withTxt { s.txt with blocks := (dropBlocks s l).txt.blocks } := by
  induction l generalizing s with
  | nil => rfl
  | cons b rest ih => exact (ih _).trans rfl

@[simp] theorem writeBlocks_dir (l : List (Nat × List Byte)) : (writeBlocks s l).dir = s.dir := by rw [writeBlocks_eq]; rfl
@[simp] theorem writeBlocks_act (l : List (Nat × List Byte)) : (writeBlocks s l).act = s.act := by rw [writeBlocks_eq]; rfl
@[simp] theorem writeBlocks_dlv (l : List (Nat × List Byte)) : (writeBlocks s l).dlv = s.dlv := by rw [writeBlocks_eq]; rfl
@[simp] theorem writeBlocks_clk (l : List (Nat × List Byte)) : (writeBlocks s l).clk = s.clk := by rw [writeBlocks_eq]; rfl
@[simp] theorem writeBlocks_zon (l : List (Nat × List Byte)) : (writeBlocks s l).zon = s.zon := by rw [writeBlocks_eq]; rfl
@[simp] theorem writeBlocks_bld (l : List (Nat × List Byte)) : (writeBlocks s l).bld = s.bld := by rw [writeBlocks_eq]; rfl
@[simp] theorem writeBlocks_rcp (l : List (Nat × List Byte)) : (writeBlocks s l).rcp = s.rcp := by rw [writeBlocks_eq]; rfl
@[simp] theorem writeBlocks_jnl (l : List (Nat × List Byte)) : (writeBlocks s l).jnl = s.jnl := by rw [writeBlocks_eq]; rfl
@[simp] theorem writeBlocks_lnk (l : List (Nat × List Byte)) : (writeBlocks s l).lnk = s.lnk := by rw [writeBlocks_eq]; rfl
@[simp] theorem writeBlocks_pending (l : List (Nat × List Byte)) : (writeBlocks s l).pending = s.pending := by rw [writeBlocks_eq]; rfl
@[simp] theorem writeBlocks_body (l : List (Nat × List Byte)) (m : Nat) : (writeBlocks s l).body m = s.body m := by
  rw [writeBlocks_eq]; rfl
@[simp] theorem dropBlocks_dir (l : List Nat) : (dropBlocks s l).dir = s.dir := by rw [dropBlocks_eq]; rfl
@[simp] theorem dropBlocks_act (l : List Nat) : (dropBlocks s l).act = s.act := by rw [dropBlocks_eq]; rfl
@[simp] theorem dropBlocks_dlv (l : List Nat) : (dropBlocks s l).dlv = s.dlv := by rw [dropBlocks_eq]; rfl
@[simp] theorem dropBlocks_clk (l : List Nat) : (dropBlocks s l).clk = s.clk := by rw [dropBlocks_eq]; rfl
@[simp] theorem dropBlocks_zon (l : List Nat) : (dropBlocks s l).zon = s.zon := by rw [dropBlocks_eq]; rfl
@[simp] theorem dropBlocks_bld (l : List Nat) : (dropBlocks s l).bld = s.bld := by rw [dropBlocks_eq]; rfl
@[simp] theorem dropBlocks_rcp (l : List Nat) : (dropBlocks s l).rcp = s.rcp := by rw [dropBlocks_eq]; rfl
@[simp] theorem dropBlocks_jnl (l : List Nat) : (dropBlocks s l).jnl = s.jnl := by rw [dropBlocks_eq]; rfl
@[simp] theorem dropBlocks_lnk (l : List Nat) : (dropBlocks s l).lnk = s.lnk := by rw [dropBlocks_eq]; rfl
@[simp] theorem dropBlocks_pending (l : List Nat) : (dropBlocks s l).pending = s.pending := by rw [dropBlocks_eq]; rfl
@[simp] theorem dropBlocks_body (l : List Nat) (m : Nat) : (dropBlocks s l).body m = s.body m := by
  rw [dropBlocks_eq]; rfl

theorem block_dropBlocks (l : List Nat) (m : Nat) :
    (dropBlocks s l).block m = if m ∈ l then none else s.block m := by
  induction l generalizing s with
  | nil => simp [dropBlocks]
  | cons b rest ih =>
    rw [dropBlocks, ih, block_setBlock]
    by_cases h : m = b <;> simp [h]

theorem block_writeBlocks_other (l : List (Nat × List Byte)) (m : Nat) (h : m ∉ l.map (·.1)) :
    (writeBlocks s l).block m = s.block m := by
  induction l generalizing s with
  | nil => rfl
  | cons p rest ih =>
    rw [writeBlocks, ih _ (by simp_all), block_setBlock_other]; simp_all

theorem block_writeBlocks_mem {l : List (Nat × List Byte)} (hn : (l.map (·.1)).Nodup) {b : Nat} {chars : List Byte}
    (h : (b, chars) ∈ l) : (writeBlocks s l).block b = some chars := by
  induction l generalizing s with
  | nil => simp at h
  | cons p rest ih =>
    simp only [List.map_cons, List.nodup_cons] at hn
    rcases List.mem_cons.1 h with rfl | h
    · rw [writeBlocks, block_writeBlocks_other _ _ _ hn.1, block_setBlock_same]
    · exact ih _ hn.2 h

@[simp] theorem createBody_dir (n : Nat) (e : Encoding) (text : List Byte) : (s.createBody n e text).dir = s.dir := by simp [createBody]
@[simp] theorem createBody_act (n : Nat) (e : Encoding) (text : List Byte) : (s.createBody n e text).act = s.act := by simp [createBody]
@[simp] theorem createBody_dlv (n : Nat) (e : Encoding) (text : List Byte) : (s.createBody n e text).dlv = s.dlv := by simp [createBody]
@[simp] theorem createBody_clk (n : Nat) (e : Encoding) (text : List Byte) : (s.createBody n e text).clk = s.clk := by simp [createBody]
@[simp] theorem createBody_zon (n : Nat) (e : Encoding) (text : List Byte) : (s.createBody n e text).zon = s.zon := by simp [createBody]
@[simp] theorem createBody_bld (n : Nat) (e : Encoding) (text : List Byte) : (s.createBody n e text).bld = s.bld := by simp [createBody]
@[simp] theorem createBody_rcp (n : Nat) (e : Encoding) (text : List Byte) : (s.createBody n e text).rcp = s.rcp := by simp [createBody]
@[simp] theorem createBody_jnl (n : Nat) (e : Encoding) (text : List Byte) : (s.createBody n e text).jnl = s.jnl := by simp [createBody]
@[simp] theorem createBody_lnk (n : Nat) (e : Encoding) (text : List Byte) : (s.createBody n e text).lnk = s.lnk := by simp [createBody]
@[simp] theorem createBody_pending (n : Nat) (e : Encoding) (text : List Byte) : (s.createBody n e text).pending = s.pending := by simp [createBody]
theorem body_createBody (n m : Nat) (e : Encoding) (text : List Byte) :
    (s.createBody n e text).body m =
      if m = n then { inUse := true, refs := 1, encoding := e, length := text.length,
                      blocks := s.freeBlocks (blocksOf text.length) }
      else s.body m := by
  simp [createBody, body_setBody]

@[simp] theorem shareBody_dir (n : Nat) : (s.shareBody n).dir = s.dir := by rfl
@[simp] theorem shareBody_act (n : Nat) : (s.shareBody n).act = s.act := by rfl
@[simp] theorem shareBody_dlv (n : Nat) : (s.shareBody n).dlv = s.dlv := by rfl
@[simp] theorem shareBody_clk (n : Nat) : (s.shareBody n).clk = s.clk := by rfl
@[simp] theorem shareBody_zon (n : Nat) : (s.shareBody n).zon = s.zon := by rfl
@[simp] theorem shareBody_bld (n : Nat) : (s.shareBody n).bld = s.bld := by rfl
@[simp] theorem shareBody_rcp (n : Nat) : (s.shareBody n).rcp = s.rcp := by rfl
@[simp] theorem shareBody_jnl (n : Nat) : (s.shareBody n).jnl = s.jnl := by rfl
@[simp] theorem shareBody_lnk (n : Nat) : (s.shareBody n).lnk = s.lnk := by rfl
@[simp] theorem shareBody_pending (n : Nat) : (s.shareBody n).pending = s.pending := by rfl
@[simp] theorem releaseBody_dir (n : Nat) : (s.releaseBody n).dir = s.dir := by unfold releaseBody; dsimp only; split <;> simp
@[simp] theorem releaseBody_act (n : Nat) : (s.releaseBody n).act = s.act := by unfold releaseBody; dsimp only; split <;> simp
@[simp] theorem releaseBody_dlv (n : Nat) : (s.releaseBody n).dlv = s.dlv := by unfold releaseBody; dsimp only; split <;> simp
@[simp] theorem releaseBody_clk (n : Nat) : (s.releaseBody n).clk = s.clk := by unfold releaseBody; dsimp only; split <;> simp
@[simp] theorem releaseBody_zon (n : Nat) : (s.releaseBody n).zon = s.zon := by unfold releaseBody; dsimp only; split <;> simp
@[simp] theorem releaseBody_bld (n : Nat) : (s.releaseBody n).bld = s.bld := by unfold releaseBody; dsimp only; split <;> simp
@[simp] theorem releaseBody_rcp (n : Nat) : (s.releaseBody n).rcp = s.rcp := by unfold releaseBody; dsimp only; split <;> simp
@[simp] theorem releaseBody_jnl (n : Nat) : (s.releaseBody n).jnl = s.jnl := by unfold releaseBody; dsimp only; split <;> simp
@[simp] theorem releaseBody_lnk (n : Nat) : (s.releaseBody n).lnk = s.lnk := by unfold releaseBody; dsimp only; split <;> simp
@[simp] theorem releaseBody_pending (n : Nat) : (s.releaseBody n).pending = s.pending := by unfold releaseBody; dsimp only; split <;> simp

/-- The release of a body reference: the last one frees the body and its blocks. -/
theorem body_releaseBody (n m : Nat) :
    (s.releaseBody n).body m =
      if m = n then (if (s.body n).refs ≤ 1 then .free else { s.body n with refs := (s.body n).refs - 1 })
      else s.body m := by
  unfold releaseBody; dsimp only
  by_cases h : (s.body n).refs ≤ 1 <;> simp [h, body_setBody]

theorem block_releaseBody (n b : Nat) :
    (s.releaseBody n).block b = if (s.body n).refs ≤ 1 ∧ b ∈ (s.body n).blocks then none else s.block b := by
  unfold releaseBody; dsimp only
  by_cases h : (s.body n).refs ≤ 1 <;> simp [h, block_dropBlocks]

/-! ### Slots (R79, R148) -/

@[simp] theorem writeSlots_dir (f : Serial) (x : Slot) (l : List (Nat × Nat)) : (writeSlots f x s l).dir = s.dir := by
  induction l generalizing s with
  | nil => rfl
  | cons p rest ih => exact (ih _).trans rfl
@[simp] theorem writeSlots_act (f : Serial) (x : Slot) (l : List (Nat × Nat)) : (writeSlots f x s l).act = s.act := by
  induction l generalizing s with
  | nil => rfl
  | cons p rest ih => exact (ih _).trans rfl
@[simp] theorem writeSlots_txt (f : Serial) (x : Slot) (l : List (Nat × Nat)) : (writeSlots f x s l).txt = s.txt := by
  induction l generalizing s with
  | nil => rfl
  | cons p rest ih => exact (ih _).trans rfl
@[simp] theorem writeSlots_dlv (f : Serial) (x : Slot) (l : List (Nat × Nat)) : (writeSlots f x s l).dlv = s.dlv := by
  induction l generalizing s with
  | nil => rfl
  | cons p rest ih => exact (ih _).trans rfl
@[simp] theorem writeSlots_clk (f : Serial) (x : Slot) (l : List (Nat × Nat)) : (writeSlots f x s l).clk = s.clk := by
  induction l generalizing s with
  | nil => rfl
  | cons p rest ih => exact (ih _).trans rfl
@[simp] theorem writeSlots_zon (f : Serial) (x : Slot) (l : List (Nat × Nat)) : (writeSlots f x s l).zon = s.zon := by
  induction l generalizing s with
  | nil => rfl
  | cons p rest ih => exact (ih _).trans rfl
@[simp] theorem writeSlots_bld (f : Serial) (x : Slot) (l : List (Nat × Nat)) : (writeSlots f x s l).bld = s.bld := by
  induction l generalizing s with
  | nil => rfl
  | cons p rest ih => exact (ih _).trans rfl
@[simp] theorem writeSlots_jnl (f : Serial) (x : Slot) (l : List (Nat × Nat)) : (writeSlots f x s l).jnl = s.jnl := by
  induction l generalizing s with
  | nil => rfl
  | cons p rest ih => exact (ih _).trans rfl
@[simp] theorem writeSlots_lnk (f : Serial) (x : Slot) (l : List (Nat × Nat)) : (writeSlots f x s l).lnk = s.lnk := by
  induction l generalizing s with
  | nil => rfl
  | cons p rest ih => exact (ih _).trans rfl
@[simp] theorem writeSlots_pending (f : Serial) (x : Slot) (l : List (Nat × Nat)) : (writeSlots f x s l).pending = s.pending := by
  induction l generalizing s with
  | nil => rfl
  | cons p rest ih => exact (ih _).trans rfl
@[simp] theorem writeSlots_queue (f : Serial) (x : Slot) (l : List (Nat × Nat)) (z : Nat) : (writeSlots f x s l).queue z = s.queue z := by
  induction l generalizing s with
  | nil => rfl
  | cons p rest ih => exact (ih _).trans rfl
@[simp] theorem writeSlots_counters (f : Serial) (x : Slot) (l : List (Nat × Nat)) : (writeSlots f x s l).rcp.counters = s.rcp.counters := by
  induction l generalizing s with
  | nil => rfl
  | cons p rest ih => exact (ih _).trans rfl

/-! ### Settlement (R85, R164) -/

/-- Step 3: the journal takes the record, and a JOURNAL NOTICE goes out at the watermark. -/
theorem appendUsage_cases (u : UsageRecord) :
    s.appendUsage u =
      if s.jnl.records.length + 1 = s.jnl.watermark then
        (s.withJnl (s.jnl.append u)).notice 0x84 ((s.jnl.append u).noticeFields u)
      else s.withJnl (s.jnl.append u) := by
  simp [appendUsage, Journal.append]

@[simp] theorem appendUsage_dir (u : UsageRecord) : (s.appendUsage u).dir = s.dir := by rw [appendUsage_cases]; split <;> rfl
@[simp] theorem appendUsage_act (u : UsageRecord) : (s.appendUsage u).act = s.act := by rw [appendUsage_cases]; split <;> rfl
@[simp] theorem appendUsage_txt (u : UsageRecord) : (s.appendUsage u).txt = s.txt := by rw [appendUsage_cases]; split <;> rfl
@[simp] theorem appendUsage_dlv (u : UsageRecord) : (s.appendUsage u).dlv = s.dlv := by rw [appendUsage_cases]; split <;> rfl
@[simp] theorem appendUsage_clk (u : UsageRecord) : (s.appendUsage u).clk = s.clk := by rw [appendUsage_cases]; split <;> rfl
@[simp] theorem appendUsage_zon (u : UsageRecord) : (s.appendUsage u).zon = s.zon := by rw [appendUsage_cases]; split <;> rfl
@[simp] theorem appendUsage_bld (u : UsageRecord) : (s.appendUsage u).bld = s.bld := by rw [appendUsage_cases]; split <;> rfl
@[simp] theorem appendUsage_rcp (u : UsageRecord) : (s.appendUsage u).rcp = s.rcp := by rw [appendUsage_cases]; split <;> rfl
@[simp] theorem appendUsage_pending (u : UsageRecord) : (s.appendUsage u).pending = s.pending := by rw [appendUsage_cases]; split <;> rfl
@[simp] theorem appendUsage_jnl (u : UsageRecord) : (s.appendUsage u).jnl = s.jnl.append u := by
  rw [appendUsage_cases]; split <;> rfl
@[simp] theorem deliveryNotice_dir (m : NoticeMode) (u : UsageRecord) : (s.deliveryNotice m u).dir = s.dir := by unfold deliveryNotice; split <;> rfl
@[simp] theorem deliveryNotice_act (m : NoticeMode) (u : UsageRecord) : (s.deliveryNotice m u).act = s.act := by unfold deliveryNotice; split <;> rfl
@[simp] theorem deliveryNotice_txt (m : NoticeMode) (u : UsageRecord) : (s.deliveryNotice m u).txt = s.txt := by unfold deliveryNotice; split <;> rfl
@[simp] theorem deliveryNotice_dlv (m : NoticeMode) (u : UsageRecord) : (s.deliveryNotice m u).dlv = s.dlv := by unfold deliveryNotice; split <;> rfl
@[simp] theorem deliveryNotice_clk (m : NoticeMode) (u : UsageRecord) : (s.deliveryNotice m u).clk = s.clk := by unfold deliveryNotice; split <;> rfl
@[simp] theorem deliveryNotice_zon (m : NoticeMode) (u : UsageRecord) : (s.deliveryNotice m u).zon = s.zon := by unfold deliveryNotice; split <;> rfl
@[simp] theorem deliveryNotice_bld (m : NoticeMode) (u : UsageRecord) : (s.deliveryNotice m u).bld = s.bld := by unfold deliveryNotice; split <;> rfl
@[simp] theorem deliveryNotice_rcp (m : NoticeMode) (u : UsageRecord) : (s.deliveryNotice m u).rcp = s.rcp := by unfold deliveryNotice; split <;> rfl
@[simp] theorem deliveryNotice_jnl (m : NoticeMode) (u : UsageRecord) : (s.deliveryNotice m u).jnl = s.jnl := by unfold deliveryNotice; split <;> rfl
@[simp] theorem deliveryNotice_pending (m : NoticeMode) (u : UsageRecord) : (s.deliveryNotice m u).pending = s.pending := by unfold deliveryNotice; split <;> rfl
@[simp] theorem lowerLive_act (n : Nat) : (s.lowerLive n).act = s.act := by rfl
@[simp] theorem lowerLive_txt (n : Nat) : (s.lowerLive n).txt = s.txt := by rfl
@[simp] theorem lowerLive_dlv (n : Nat) : (s.lowerLive n).dlv = s.dlv := by rfl
@[simp] theorem lowerLive_clk (n : Nat) : (s.lowerLive n).clk = s.clk := by rfl
@[simp] theorem lowerLive_zon (n : Nat) : (s.lowerLive n).zon = s.zon := by rfl
@[simp] theorem lowerLive_bld (n : Nat) : (s.lowerLive n).bld = s.bld := by rfl
@[simp] theorem lowerLive_rcp (n : Nat) : (s.lowerLive n).rcp = s.rcp := by rfl
@[simp] theorem lowerLive_jnl (n : Nat) : (s.lowerLive n).jnl = s.jnl := by rfl
@[simp] theorem lowerLive_lnk (n : Nat) : (s.lowerLive n).lnk = s.lnk := by rfl
@[simp] theorem lowerLive_pending (n : Nat) : (s.lowerLive n).pending = s.pending := by rfl

/-- The link after a settlement: a JOURNAL NOTICE at the watermark, then a DELIVERY NOTICE where one is due. -/
theorem settle_lnk (n : Nat) (d : Delivery) (e : Ending) (r : Reason) :
    (s.settle n d e r).lnk =
      let u := s.usageOf n d e r
      let l := if s.jnl.records.length + 1 = s.jnl.watermark then
        s.lnk.notice 0x84 ((s.jnl.append u).noticeFields u) else s.lnk
      if noticeDue d.noticeMode e then l.notice 0x81 (deliveryNoticeFields u) else l := by
  have hu : (s.usageOf n d e r).ending = e := rfl
  simp only [settle, freeRecord_lnk, releaseBody_lnk, lowerLive_lnk, deliveryNotice, hu, appendUsage_cases, setAcct_jnl]
  by_cases hj : s.jnl.records.length + 1 = s.jnl.watermark <;> by_cases hn : noticeDue d.noticeMode e = true <;>
    simp [hj, hn]

@[simp] theorem settle_clk (n : Nat) (d : Delivery) (e : Ending) (r : Reason) : (s.settle n d e r).clk = s.clk := by
  simp [settle]
@[simp] theorem settle_zon (n : Nat) (d : Delivery) (e : Ending) (r : Reason) : (s.settle n d e r).zon = s.zon := by
  simp [settle]
@[simp] theorem settle_bld (n : Nat) (d : Delivery) (e : Ending) (r : Reason) : (s.settle n d e r).bld = s.bld := by
  simp [settle]
@[simp] theorem settle_rcp (n : Nat) (d : Delivery) (e : Ending) (r : Reason) : (s.settle n d e r).rcp = s.rcp := by
  simp [settle]
@[simp] theorem settle_pending (n : Nat) (d : Delivery) (e : Ending) (r : Reason) :
    (s.settle n d e r).pending = s.pending := by
  simp [settle]
@[simp] theorem settle_jnl (n : Nat) (d : Delivery) (e : Ending) (r : Reason) :
    (s.settle n d e r).jnl = s.jnl.append (s.usageOf n d e r) := by
  simp [settle]

end Sys2Proof.Machine.State
end

