-- ==== Sys2Proof/Laws/Slots.lean ====
section
/-! SUPPORT. What a write of receipt map slots does, once: exactly the slots named take the entry, in every role of the map of
the frame, and all else of the maps stands (R143, R144); and the raising of several notices. -/

namespace Sys2Proof.Machine

/-! ### One map -/

theorem ReceiptMap.slot_setSlot (m : ReceiptMap) (j k : Nat) (x : Slot) :
    (m.setSlot j x).slot k = if k = j then x else m.slot k := Table.read_put ..

theorem ReceiptMap.rewritten_refl (m : ReceiptMap) (x : Slot) {p : Nat → Prop} (h : ∀ j, ¬p j) : m.rewritten m p x :=
  ⟨rfl, fun j => ⟨fun a => absurd a (h j), fun _ => rfl⟩⟩

theorem ReceiptMap.rewritten_congr {m t : ReceiptMap} {x : Slot} {p q : Nat → Prop} (h : ∀ j, p j ↔ q j)
    (a : m.rewritten t p x) : m.rewritten t q x := by
  have e : p = q := funext fun j => propext (h j)
  exact e ▸ a

theorem ReceiptMap.rewritten_setSlot (m : ReceiptMap) (j : Nat) (x : Slot) :
    m.rewritten (m.setSlot j x) (fun k => k = j) x :=
  ⟨rfl, fun k => ⟨fun h => by rw [slot_setSlot, if_pos h], fun h => by rw [slot_setSlot, if_neg h]⟩⟩

theorem ReceiptMap.rewritten_trans {m a t : ReceiptMap} {x : Slot} {p q : Nat → Prop} (h : m.rewritten a p x)
    (g : a.rewritten t q x) : m.rewritten t (fun j => q j ∨ p j) x := by
  refine ⟨by rw [g.1, h.1], fun j => ?_⟩
  by_cases c : q j
  · exact ⟨fun _ => (g.2 j).1 c, fun n => absurd (.inl c) n⟩
  · exact ⟨fun n => ((g.2 j).2 c).trans ((h.2 j).1 (n.resolve_left c)),
      fun n => ((g.2 j).2 c).trans ((h.2 j).2 fun b => n (.inr b))⟩

/-! ### The maps of a group -/

theorem rewrittenRole_refl (o : Option ReceiptMap) (x : Slot) {p : Serial → Nat → Prop} (h : ∀ f j, ¬p f j) :
    rewrittenRole p x o o := by
  cases o with
  | none => rfl
  | some m => exact m.rewritten_refl x (h m.serial)

theorem rewrittenRole_congr {o t : Option ReceiptMap} {x : Slot} {p q : Serial → Nat → Prop} (h : ∀ f j, p f j ↔ q f j)
    (a : rewrittenRole p x o t) : rewrittenRole q x o t := by
  have e : p = q := funext fun f => funext fun j => propext (h f j)
  exact e ▸ a

theorem rewrittenRole_setSlotOfFrame (frame : Serial) (j : Nat) (x : Slot) (o : Option ReceiptMap) :
    rewrittenRole (fun f k => f = frame ∧ k = j) x o (setSlotOfFrame frame j x o) := by
  cases o with
  | none => rfl
  | some m =>
    by_cases h : m.serial = frame
    · simpa [setSlotOfFrame, rewrittenRole, h] using m.rewritten_setSlot j x
    · simpa [setSlotOfFrame, rewrittenRole, h] using m.rewritten_refl x (p := fun _ => False) (fun _ => id)

theorem rewrittenRole_trans {o a t : Option ReceiptMap} {x : Slot} {p q : Serial → Nat → Prop}
    (h : rewrittenRole p x o a) (g : rewrittenRole q x a t) : rewrittenRole (fun f j => q f j ∨ p f j) x o t := by
  match o, a, t, h, g with
  | none, none, none, _, _ => rfl
  | some m, some b, some c, h, g =>
    have e : b.serial = m.serial := by rw [h.1]
    simp only [rewrittenRole, e] at h g ⊢
    exact ReceiptMap.rewritten_trans h g
  | none, some _, _, h, _ => cases h
  | some _, none, _, h, _ => exact h.elim
  | none, none, some _, _, g => cases g
  | some _, some _, none, _, g => exact g.elim

theorem GroupMaps.rewritten_trans {r a t : GroupMaps} {x : Slot} {p q : Serial → Nat → Prop} (h : r.rewritten a p x)
    (g : a.rewritten t q x) : r.rewritten t (fun f j => q f j ∨ p f j) x :=
  ⟨rewrittenRole_trans h.1 g.1, rewrittenRole_trans h.2.1 g.2.1, rewrittenRole_trans h.2.2 g.2.2⟩

theorem GroupMaps.rewritten_refl (r : GroupMaps) (x : Slot) {p : Serial → Nat → Prop} (h : ∀ f j, ¬p f j) :
    r.rewritten r p x := ⟨rewrittenRole_refl _ x h, rewrittenRole_refl _ x h, rewrittenRole_refl _ x h⟩

theorem GroupMaps.rewritten_congr {r t : GroupMaps} {x : Slot} {p q : Serial → Nat → Prop} (h : ∀ f j, p f j ↔ q f j)
    (a : r.rewritten t p x) : r.rewritten t q x :=
  ⟨rewrittenRole_congr h a.1, rewrittenRole_congr h a.2.1, rewrittenRole_congr h a.2.2⟩

/-- A slot written: that slot of that group's maps of that frame, and no other. -/
theorem maps_setSlot (s : State) (frame : Serial) (g j : Nat) (x : Slot) (h : Nat) :
    (s.maps h).rewritten ((s.setSlot frame g j x).maps h) (fun f k => f = frame ∧ h = g ∧ k = j) x := by
  rw [State.setSlot, State.maps_setMaps]
  by_cases c : h = g
  · subst c
    simp only [if_pos, true_and]
    exact ⟨rewrittenRole_setSlotOfFrame .., rewrittenRole_setSlotOfFrame .., rewrittenRole_setSlotOfFrame ..⟩
  · rw [if_neg c]
    exact GroupMaps.rewritten_refl _ x fun f k a => c a.2.1

/-- All that a write of several slots can do to the maps: the slots named take the entry in the maps of the frame, and the
others stand (R79, R129, R148). -/
theorem maps_writeSlots (frame : Serial) (x : Slot) (h : Nat) (l : List (Nat × Nat)) :
    ∀ s : State, (s.maps h).rewritten ((writeSlots frame x s l).maps h) (fun f j => f = frame ∧ (h, j) ∈ l) x := by
  induction l with
  | nil => exact fun s => GroupMaps.rewritten_refl _ x fun f j a => by simp at a
  | cons a l ih =>
    intro s
    refine GroupMaps.rewritten_congr (fun f j => ?_) (GroupMaps.rewritten_trans (maps_setSlot s frame a.1 a.2 x h) (ih _))
    rw [List.mem_cons, Prod.ext_iff, ← and_or_left, or_comm]

/-! ### Several notices -/

@[simp] theorem Link.raise_nil (l : Link) : l.raise [] = l := rfl
@[simp] theorem Link.raise_cons (l : Link) (m : Byte × List Byte) (r : List (Byte × List Byte)) :
    l.raise (m :: r) = (l.notice m.1 m.2).raise r := rfl
theorem Link.raise_append (l : Link) (a b : List (Byte × List Byte)) : l.raise (a ++ b) = (l.raise a).raise b :=
  List.foldl_append ..

end Sys2Proof.Machine
end

