-- ==== Sys2Proof/Tests/Slice0.lean ====
section
/-! SUPPORT. Tests of the model: ill-formed commands refused by the checks, the worked cases of the spec, and for each
statement with hypotheses a concrete state and operands that meet them together. Every expected value is the spec's own. -/

namespace Sys2Proof.Tests

-- The kernel evaluates these theorems one after another: side by side each would hold a thread while it waits.
set_option Elab.async false

open Sys2Proof.Machine

/-! ### Sample states, from the worked cases 2.10.1 and 3.8.4 -/

/-- The state that a command answers with. -/
def after (c : Instr) (s : State) : State :=
  match exec c s with
  | .next t => t
  | .fault _ => s
  | .refused _ => s

def theRecord (kind : Byte) (p : List Byte) : LinkRecord := { kind := kind, tag := 7, payload := p }

/-- The state with one request waiting, of tag 7. -/
def asked (s : State) (kind : Byte) (p : List Byte) : State :=
  s.withLnk { s.lnk with requests := [theRecord kind p] }

theorem ready_asked (s : State) (kind : Byte) (p : List Byte) (h : s.lnk.replies = []) :
    (asked s kind p).ready { kind := kind, tag := 7, payload := p } :=
  ⟨rfl, by simp [asked, State.withLnk, h]⟩

def unit305 : Subscriber :=
  { Subscriber.unassigned with
    service := .active, address := 1234, pager := .twoWay, interval := 16, home := 2, coverage := 14, account := 17,
    trim := 144 }

def class2 : Tariff :=
  { base := 200, perWord := 40, f1 := 16, f2 := 24, f3 := 32, f4 := 40, urgent := 12, low := 6, minimum := 50,
    expiry := 30 }

def account17 : Account := { Account.closed with state := .opened, tariff := 2, balance := 5000, links := 1 }

def base : State :=
  (((State.reset.setSub 305 unit305).bindAddress 1234 (some 305)).setAcct 17 account17).setTariff 2 class2

def running : State := base.withClk { base.clk with state := .running, serial := 1009 }

def alpha70 : Submission :=
  { priority := .urgent, encoding := .alpha, noticeMode := .final, lifetime := 0, text := List.replicate 70 0x41 }

/-- Delivery 12 in the given state of its life, on the ground of `running`. -/
def page (x : DeliveryState) (kind : ClassKind) (last : Option Attempt) : Delivery :=
  { running.newDelivery 305 alpha70 0 with state := x, kind := kind, last := last }

def attempt : Attempt := { serial := 1008, carried := 6, slots := [(1, 5), (2, 0)], mark := .first, checkedIn := false }

def holding (d : Delivery) : State := running.setRecord 12 { issue := 5, live := some d }

/-- Group 0 as in 6.10.1: its plan, and an image and a map on it. -/
def plan0 : Plan :=
  { serial := 1010, members := 3, settle := 13, guard := 2, slotCount := 4, depth := 4, order := .sequential,
    mask := 0xFFFF, capacity := 449 }

def entry0 : PageEntry :=
  { ticket := { number := 12, issue := 5 }, address := 1234, encoding := .numeric, bodyWords := 2, mark := .retry,
    slot := some 5 }

def image0 : Image := { plan0.image 0 with pages := [entry0] }

def zone0 : ZoneSettings :=
  { ZoneSettings.powerOn with enabled := true, group := some 0, settle := 62, edge := .rising, autoRemove := true,
                              noticeEnable := true }

/-- On air: groups 0 to 3 with an empty next image, group 0 with plan and image in force and zone 0 keyed. -/
def onAir : State :=
  let s := running.withBld { running.bld with air := .on }
  let s := s.setGroup 0 { Group.powerOn with current := some plan0, next := some plan0 }
  let s := s.setImages 0 { GroupImages.powerOn with current := some image0, next := some image0 }
  s.setZone 0 { Zone.powerOn false with settings := zone0, keyed := true, offered := 5, wordsTaken := 4 }

def receiptMap2 : ReceiptMap :=
  { serial := 1008, group := 2, members := 2, slotCount := 4, usable := 15, slots := [] }

/-- A map of group 2 in force with slot 3 as given, and a receipt of zone 1 for it waiting. -/
def hearing (s : State) (x : Slot) (check : Byte) : State :=
  (s.setMaps 2 { GroupMaps.absent with current := some (receiptMap2.setSlot 3 x) }).setQueue 1
    [.receipt 48 3 4 check]

def ticket12 : Ticket := { number := 12, issue := 5 }

/-- The frame of `onAir` at a position past its build point. -/
def later (position : Nat) : State := onAir.withClk { onAir.clk with position := position, buildPassed := true }

/-- The last tick of that frame, with delivery 12 as given, zone 0 judged, and the map of frame 1,008 in group 2 PREVIOUS with
slot 3 as given. Group 0 is launched at the boundary. -/
def lastTick (d : Delivery) (x : Slot) : State :=
  let s := (later 49999).setZone 0 { (later 49999).zone 0 with keyed := false }
  (s.setRecord 12 { issue := 5, live := some d }).setMaps 2
    { GroupMaps.absent with previous := some (receiptMap2.setSlot 3 x) }

/-! ### Ill-formed commands -/

theorem test_long_payload_refused : (Instr.submitPage 0 (List.replicate 1023 0)).wf = false := by decide +kernel
theorem test_full_payload_passes : (Instr.submitPage 0 (List.replicate 1022 0)).wf = true := by decide +kernel
theorem test_known_kind_refused : (Instr.unknownKindRequest 0x41 0 []).wf = false := by decide
theorem test_offer_after_frame_refused : (Instr.wordOffer 500).wf = false := by decide
theorem test_field_end_after_frame_refused : (Instr.dataFieldEnd 500).wf = false := by decide
theorem test_part_of_record_refused : (Instr.returnRecordArrival 0 [0x31, 3, 8, 0x54, 0xD2]).wf = false := by decide

/-! ### Worked cases of the spec -/

/-- 1.4.1. -/
theorem test_next_eligible :
    [1000, 1010, 1011, 4294967290].map unit305.nextEligible = [1010, 1010, 1026, 2] := by decide

/-- 2.10.1: hold and charge of one alpha page, and both figures of the account after settlement. -/
theorem test_hold_and_charge :
    class2.hold 37 3 .urgent 144 = 932 ∧ (class2.charge .delivered 37 2 .urgent 144 932).1 = 699 := by decide
theorem test_settled_account :
    let a := (holding { page .awaitReceipt .twoWay (some attempt) with hold := 932 }).endDelivery 12
      { page .awaitReceipt .twoWay (some attempt) with hold := 932 } .delivered .none
    (a.acct 17).balance = 4301 ∧ (a.acct 17).settled = 1 ∧ (a.acct 17).charged = 699 := by decide +kernel

/-- 3.8.1: packing. -/
theorem test_numeric_packing :
    textWords .numeric [0x28, 0x32, 0x31, 0x32, 0x29, 0x20, 0x35, 0x35, 0x35] = [0xC212, 0xDA55, 0x5FFF] := by decide
theorem test_alpha_packing : textWords .alpha [0x48, 0x69, 0x21] = [0x4869, 0x2100] := by decide
theorem test_number_sign_refused :
    textOk .numeric [0x35, 0x35, 0x35, 0x2D, 0x30, 0x31, 0x34, 0x32, 0x23] = false := by decide

/-- 3.8.3: the due serial before and after the build point, and the deadline of an URGENT page (8 cycles). -/
theorem test_due_serial :
    (running.newDelivery 305 alpha70 0).due = 1010 ∧
    ((running.withClk { running.clk with buildPassed := true }).newDelivery 305 alpha70 0).due = 1026 ∧
    (running.newDelivery 305 alpha70 0).deadline = 1521 := by decide +kernel

/-- 3.8.4: an accepted page: ticket 0/1, hold 932, due 1,010, with CLAMPED. -/
theorem test_submit_page :
    (after (.submitPage 7 (Payload.page 305 alpha70)) running).lnk.sending =
      some (LinkRecord.bytes { kind := 0x80, tag := 7,
                               payload := [0x30, 0, 1, 0, 0, 1, 0x03, 0xA4, 0, 0, 0x03, 0xF2] }) := by decide +kernel

/-- 6.10.1: the plans of groups 0 and 1. -/
theorem test_plan_capacity :
    500 - 13 - 4 - 2 - 8 * 4 = plan0.capacity ∧ plan0.dataEnd = 466 := by decide
theorem test_plan_of_settle_127 :
    let z := { Zone.powerOn false with settings := { zone0 with group := some 1, settle := 127 } }
    let s := (running.setZone 2 z).setGroup 1
      { Group.powerOn with settings := { GroupSettings.powerOn with guard := 8, slotCount := 16 } }
    ((after .buildPoint s).group 1).next.map (fun p => (p.members, p.settle, p.capacity)) = some (4, 26, 334) := by
  decide +kernel

/-- 7.9.3: the order of words within a block. -/
theorem test_sequential_order :
    let i := { image0 with pages := List.replicate 41 entry0 }
    (List.range 4).map (fun k => i.offeredIndex (45 + k)) = [47, 48, 45, 46] := by decide
theorem test_interleaved_order :
    let i := { image0 with serial := 51, depth := 8, order := .interleaved, pages := List.replicate 41 entry0 }
    (List.range 8).map (fun k => i.offeredIndex (45 + k) - 45) = [3, 2, 1, 0, 7, 6, 5, 4] := by decide

/-- 7.9.1: the room test of entries X, Y and V. -/
theorem test_room :
    paddedTo 8 326 = 328 ∧ paddedTo 4 383 = 384 ∧ paddedTo 8 293 = 296 ∧ paddedTo 8 295 = 296 := by decide

/-- 10.7.1: a record and its check byte. -/
theorem test_record_bytes :
    LinkRecord.bytes { kind := 0x41, tag := 0x17, payload := [0, 0, 3, 0xE8] } =
      [0xA5, 0, 6, 0x41, 0x17, 0, 0, 3, 0xE8, 0xB7] := by decide

/-- 10.7.2: a bad length, and the BREAK that follows. -/
theorem test_bad_length :
    let t := after (.inboundByte 0xD0) (after (.inboundByte 0x07) (after (.inboundByte 0xA5) State.reset))
    t.lnk.receiver = .linkError ∧ t.lnk.linkErrors = 1 ∧
      t.lnk.signature.map (fun g => (g.cause, g.taken, g.count, g.length)) = some (.badLength, .receiving, 3, 2000) := by
  decide
theorem test_break :
    (after .breakLine (after .framingError State.reset)).lnk.receiver = .hunt ∧
      (after .breakLine (after .framingError State.reset)).lnk.linkErrors = 1 := by decide

/-- 11.2.1: frame word, field word and descriptor word. -/
theorem test_air_words :
    let i := { image0 with serial := 1026, group := 1, depth := 8, order := .interleaved, slotCount := 16,
                           pages := List.replicate 32 entry0 }
    i.frameWord = 0x09E0 ∧ i.fieldWord = 0x2080 ∧ entry0.descriptor = 0x4145 := by decide

/-- R196: the bytes of a receipt. -/
theorem test_receipt_bytes : Payload.receipt 2 5 4 0xD2 = [0x31, 3, 8, 0x54, 0xD2, 0x9E] := by decide
theorem test_receipt_ignored_bits :
    Payload.receiptWith 2 3 5 4 0xD2 = [0x31, 3, 11, 0x54, 0xD2, 0x9B] ∧
    readReturn [0x31, 3, 11, 0x54, 0xD2, 0x9B] = some (.receipt 2 5 4 0xD2) := by decide
theorem test_receipt_arrives :
    (after (.returnRecordArrival 1 [0x31, 3, 8, 0x54, 0xD2, 0x9E]) State.reset).queue 1 = [.receipt 2 5 4 0xD2] := by
  decide

/-- R92, R95: ticks and marks. -/
theorem test_tick : (after .tick running).clk.position = 1 ∧ (after .tick State.reset).clk.position = 0 := by
  decide +kernel
theorem test_tick_waits_for_build_point :
    (after .tick (running.withClk { running.clk with position := 40000 })).clk.position = 40000 := by decide +kernel

/-- R93: a boundary before the build point, or before its last tick, is none. -/
theorem test_no_early_boundary : (after (.boundary .endedMissedDropped) running).clk.serial = 1009 := by decide +kernel

/-- R105, R115: a polarity taken into force makes an alarm edge. -/
theorem test_polarity_taken :
    let z := { Zone.powerOn false with settings := zone0, recorded := .inService, pendingFlag := true,
                                       pending := { zone0 with polarity := .inverted } }
    let t := after .buildPoint (running.setZone 3 z)
    (t.zone 3).alarm = .active ∧ (t.zone 3).flags = 3 ∧ t.lnk.noticeSequence = 2 := by decide +kernel

theorem test_mark :
    (after .markEdge State.reset).clk.markCount = 1 ∧ (after .markEdge State.reset).clk.latestMark = none := by
  decide

/-! ### Witnesses of the statements: the link -/

theorem witness_StepRunsFrontCommand : (State.reset.withPending [.tick]).pending = .tick :: [] := rfl

theorem witness_ReadyRequestIsAnswered :
    (Instr.queryClock 7 []).record = some { kind := 0x40, tag := 7, payload := [] } ∧
    (asked base 0x40 []).ready { kind := 0x40, tag := 7, payload := [] } :=
  ⟨rfl, ready_asked _ _ _ (by decide +kernel)⟩

def linked (requests replies : Nat) : State :=
  State.reset.withLnk { State.reset.lnk with
    requests := List.replicate requests (theRecord 0x41 []), replies := List.replicate replies (theRecord 0x80 []),
    sending := some [] }

/-- Not ready in each way: LINK ERROR, with the record at the head and without, an empty queue, one with places behind a
record or a full reply queue, a full queue with and without a free reply entry; a record that fits its frame, and one equal
to a head that must wait. -/
theorem witness_RequestWaitsForItsTurn :
    (Instr.queryClock 7 []).record = some (theRecord 0x40 []) ∧
    (Instr.setClock 7 []).record = some (theRecord 0x41 []) ∧ (theRecord 0x40 []).payload.length ≤ 1022 ∧
    (let l := base.withLnk { base.lnk with receiver := .linkError }
     l.lnk.requests.head? ≠ some (theRecord 0x40 []) ∧ l.lnk.receiver = .linkError ∧ l.lnk.lineBusy) ∧
    (let l := (linked 1 16).withLnk { (linked 1 16).lnk with receiver := .linkError }
     l.lnk.requests.head? = some (theRecord 0x41 []) ∧ 16 ≤ l.lnk.replies.length ∧ l.lnk.lineBusy) ∧
    ((linked 0 15).lnk.requests.head? ≠ some (theRecord 0x40 []) ∧ (linked 0 15).lnk.requests = [] ∧
      (linked 0 15).lnk.replies.length < 16) ∧
    ((linked 7 15).lnk.requests.head? ≠ some (theRecord 0x40 []) ∧ (linked 7 15).lnk.requests ≠ [] ∧
      (linked 7 15).lnk.requests.length < 8) ∧
    ((linked 1 16).lnk.requests.head? = some (theRecord 0x41 []) ∧ 16 ≤ (linked 1 16).lnk.replies.length) ∧
    ((linked 8 15).lnk.requests.head? ≠ some (theRecord 0x40 []) ∧ 8 ≤ (linked 8 15).lnk.requests.length ∧
      (linked 8 15).lnk.replies.length < 16) ∧
    (8 ≤ (linked 8 16).lnk.requests.length ∧ 16 ≤ (linked 8 16).lnk.replies.length) ∧
    (linked 8 16).lnk.receiver = .hunt ∧ (linked 8 16).lnk.assembling = [] ∧ (linked 8 16).lnk.sending ≠ none := by
  unfold Link.lineBusy
  decide

/-- A request that comes in on the line of a receiver in HUNT is executed at once; in LINK ERROR it is discarded, and in the
middle of a record its characters are stored (R181). -/
theorem test_request_comes_in :
    ∃ t, exec (.queryClock 7 []) base = .next t ∧ t.lnk.requestsTaken = base.lnk.requestsTaken + 1 ∧
      t.lnk.requests = [] ∧ t.lnk.sending.isSome = true := ⟨_, rfl, by decide +kernel⟩
theorem test_request_lost_in_link_error :
    let s := base.withLnk { base.lnk with receiver := .linkError }
    ∃ t, exec (.queryClock 7 []) s = .next t ∧ t.lnk = s.lnk := ⟨_, rfl, by decide +kernel⟩
theorem test_request_stored_in_record :
    let s := base.withLnk { base.lnk with receiver := .receiving, assembling := [0xA5, 0, 16] }
    ∃ t, exec (.queryClock 7 []) s = .next t ∧ t.lnk.assembling.length = 9 ∧ t.lnk.requests = [] :=
  ⟨_, rfl, by decide +kernel⟩

/-- A second record equal to a head that waits joins the tail (R184). -/
theorem test_equal_record_joins_tail :
    ∃ t, exec (.setClock 7 []) (linked 1 16) = .next t ∧ t.lnk.requests = [theRecord 0x41 [], theRecord 0x41 []] :=
  ⟨_, rfl, by decide +kernel⟩

/-- A malformed payload of each request whose one check is its form, and of those with a table of checks. -/
theorem witness_malformed_requests :
    let bad (k : Byte) (p : List Byte) := (asked base k p).lnk.requests.head? = some (theRecord k p)
    (bad 0x7E [0] ∧ bad 0x7F [0] ∧ bad 0x42 [0] ∧ bad 0x43 [0] ∧ bad 0x60 [0] ∧ bad 0x61 [0] ∧ bad 0x73 [0] ∧
      [(0 : Byte)].length ≠ 0) ∧
    (bad 0x28 [] ∧ ([] : List Byte).length ≠ 15) ∧ (bad 0x33 [] ∧ ([] : List Byte).length ≠ 3) ∧
    (bad 0x41 [] ∧ ([] : List Byte).length ≠ 4) ∧ (bad 0x44 [] ∧ ([] : List Byte).length ≠ 1) ∧ base.lnk.replies = [] := by
  decide +kernel

theorem witness_FramedRecordIsOffered :
    State.reset.lnk.receiver = .hunt ∧ State.reset.lnk.assembling = [] ∧ State.reset.pending = [] ∧
    (theRecord 0x41 (List.replicate 1022 0)).payload.length ≤ 1022 := by decide +kernel

def receiving (bytes : List Byte) : State :=
  State.reset.withLnk { State.reset.lnk with receiver := .receiving, assembling := bytes }

/-- Both ends of the range of L, a byte before it and a byte after it. -/
theorem witness_ReceiverFollowsItsTable :
    State.reset.lnk.receiver = .hunt ∧ (0x3C : Byte) ≠ 0xA5 ∧
    (after .framingError State.reset).lnk.receiver = .linkError ∧
    (receiving [0xA5]).lnk.assembling.length < 2 ∧
    ((receiving [0xA5, 0]).lnk.assembling.length = 2 ∧ get2 ((receiving [0xA5, 0]).lnk.assembling ++ [2]) 1 = 2) ∧
    ((receiving [0xA5, 4]).lnk.assembling.length = 2 ∧ get2 ((receiving [0xA5, 4]).lnk.assembling ++ [0]) 1 = 1024) ∧
    (3 ≤ (receiving [0xA5, 0, 2]).lnk.assembling.length ∧
      (receiving [0xA5, 0, 2]).lnk.assembling.length + 1 ≠ get2 (receiving [0xA5, 0, 2]).lnk.assembling 1 + 4) := by decide

def signature (cause : LinkCause) (taken : Receiver) (count length : Nat) (kind tag : Byte) : Signature :=
  { cause := cause, taken := taken, count := count, length := length, kind := kind, tag := tag, serial := 0 }

/-- A framing error in HUNT and in RECEIVING, lengths 1 and 1,025, and a check byte that is wrong. -/
theorem witness_LinkErrorEntry :
    (State.reset.lnk.receiver = .hunt ∧ (signature .framing .hunt 0 0 0 0).serial = State.reset.clk.serial) ∧
    ((receiving [0xA5, 0, 6, 0x41]).lnk.assembling.length = (signature .framing .receiving 4 6 0x41 0).count ∧
      get2 (receiving [0xA5, 0, 6, 0x41]).lnk.assembling 1 = 6) ∧
    ((receiving [0xA5, 0]).lnk.assembling = [0xA5, 0] ∧ (0 : Byte).toNat * 256 + (1 : Byte).toNat < 2) ∧
    ((receiving [0xA5, 4]).lnk.assembling = [0xA5, 4] ∧ 1024 < (4 : Byte).toNat * 256 + (1 : Byte).toNat) ∧
    (5 ≤ (receiving [0xA5, 0, 2, 0x42, 7]).lnk.assembling.length ∧
      (receiving [0xA5, 0, 2, 0x42, 7]).lnk.assembling.length + 1 =
        get2 (receiving [0xA5, 0, 2, 0x42, 7]).lnk.assembling 1 + 4 ∧
      (byteSum ((receiving [0xA5, 0, 2, 0x42, 7]).lnk.assembling.drop 1) + (0xB4 : Byte).toNat) % 256 ≠ 0 ∧
      (signature .badCheck .receiving 6 2 0x42 7).count = (receiving [0xA5, 0, 2, 0x42, 7]).lnk.assembling.length + 1) := by
  decide

theorem witness_BreakReturnsToHunt :
    (State.reset.lnk.sending = none → State.reset.lnk.replies = [] ∧ State.reset.lnk.notices = []) ∧
    State.reset.lnk.receiver = .hunt ∧ State.reset.lnk.assembling = [] ∧
    (after .breakLine (receiving [0xA5, 0])).lnk.receiver = .hunt := by decide

def noticed : State := State.reset.withLnk { State.reset.lnk with notices := [theRecord 0x85 []] }

theorem witness_LineSendsRepliesFirst :
    (linked 0 1).lnk.replies = theRecord 0x80 [] :: [] ∧
    (noticed.lnk.replies = [] ∧ noticed.lnk.notices = theRecord 0x85 [] :: []) ∧
    (State.reset.lnk.replies = [] ∧ State.reset.lnk.notices = []) := by decide

theorem witness_LinkServesItsOwnRequests :
    (asked base 0x7E []).ready { kind := 0x7E, tag := 7, payload := [] } ∧ (0x00 : Byte) ∉ requestKinds ∧
    (asked base 0 []).ready { kind := 0, tag := 7, payload := [] } :=
  ⟨ready_asked _ _ _ (by decide +kernel), by decide, ready_asked _ _ _ (by decide +kernel)⟩

theorem witness_ResetsReturnPowerOnValues : (asked running 0x7F []).ready { kind := 0x7F, tag := 7, payload := [] } :=
  ready_asked _ _ _ (by decide +kernel)

/-! ### Witnesses: directory, accounts, charges -/

/-- A unit for the empty record 8,191, the last, on account 17. -/
def unit8191 : Subscriber := { unit305 with address := 65535, interval := 64, home := 15, coverage := 15, trim := 255 }

theorem witness_AssignAndReleaseMoveRecordInAndOutOfUse :
    (8191 < 8192 ∧ unit8191.service = .active ∧ unit8191.address ≠ 0 ∧ intervalDefined unit8191.interval = true ∧
      unit8191.home ≠ 0 ∧ groupSubset unit8191.home unit8191.coverage = true ∧ unit8191.account < 2048 ∧
      unit8191.trim < 256 ∧ unit8191.live = 0 ∧ unit8191.heard = none ∧ unit8191.checkIns = 0 ∧ unit8191.receipts = 0 ∧
      ((asked base 0x10 (Payload.assign 8191 unit8191)).sub 8191).service = .unassigned ∧
      ((asked base 0x10 (Payload.assign 8191 unit8191)).acct unit8191.account).state = .opened ∧
      (asked base 0x10 (Payload.assign 8191 unit8191)).lookup unit8191.address = none) ∧
    (((asked base 0x14 (num2 305)).sub 305).inUse = true ∧ ((asked base 0x14 (num2 305)).sub 305).live = 0) ∧
    (asked base 0x14 (num2 305)).lnk.replies = [] := by decide +kernel

/-- The lists of checks as they stand in the statements. -/
def assignChecks (s : State) (p : List Byte) : List (Bool × Status) :=
  [ (p.length ≠ 11, .badRequest),
    (8192 ≤ get2 p 0, .noSuch),
    (decide (get2 p 2 = 0) || 4 ≤ get1 p 4 || !intervalDefined (get1 p 5) || 16 ≤ get1 p 6 || decide (get1 p 6 = 0) ||
      16 ≤ get1 p 7 || !groupSubset (BitVec.ofNat 4 (get1 p 6)) (BitVec.ofNat 4 (get1 p 7)), .outOfRange),
    ((s.sub (get2 p 0)).inUse, .wrongState),
    (2048 ≤ get2 p 8 || decide ((s.acct (get2 p 8)).state = .closed), .noSuch),
    (decide ((s.acct (get2 p 8)).state = .locked), .wrongState),
    ((s.lookup (BitVec.ofNat 16 (get2 p 2))).isSome, .duplicateAddress) ]

/-- Each check of ASSIGN SUBSCRIBER fails first somewhere, and so does each of RELEASE. -/
theorem witness_AssignAndReleaseMoveRecordInAndOutOfUse_refused :
    firstFailing (assignChecks base []) = some .badRequest ∧
    firstFailing (assignChecks base (Payload.assign 8192 unit8191)) = some .noSuch ∧
    firstFailing (assignChecks base (Payload.assign 8191 { unit8191 with address := 0 })) = some .outOfRange ∧
    firstFailing (assignChecks base (Payload.assign 305 unit8191)) = some .wrongState ∧
    firstFailing (assignChecks base (Payload.assign 8191 { unit8191 with account := 2048 })) = some .noSuch ∧
    firstFailing (assignChecks (base.setAcct 17 { account17 with state := .locked }) (Payload.assign 8191 unit8191)) =
      some .wrongState ∧
    firstFailing (assignChecks base (Payload.assign 8191 { unit8191 with address := 1234 })) = some .duplicateAddress ∧
    (asked base 0x10 []).lnk.requests.head? = some (theRecord 0x10 []) ∧
    (base.sub 8191).inUse = false ∧ 0 < ((base.setSub 305 { unit305 with live := 1 }).sub 305).live ∧
    base.lnk.replies = [] := by decide +kernel

/-- All seven settings written: a new address, and account 2,047. -/
def richer : State := base.setAcct 2047 account17

theorem witness_ModifyWritesNamedSettings :
    let v := { unit8191 with account := 2047 }
    let s := asked richer 0x11 (Payload.modify 305 0x7F v)
    v.interval < 256 ∧ v.account < 65536 ∧ v.trim < 256 ∧ (s.sub 305).inUse = true ∧ v.address ≠ 0 ∧
    intervalDefined v.interval = true ∧ v.home ≠ 0 ∧ groupSubset v.home v.coverage = true ∧
    v.address ≠ (s.sub 305).address ∧ (s.sub 305).live = 0 ∧ s.lookup v.address = none ∧
    v.account ≠ (s.sub 305).account ∧ v.account < 2048 ∧ (s.acct v.account).state = .opened ∧
    s.lnk.requests.head? = some (theRecord 0x11 (Payload.modify 305 0x7F v)) ∧ s.lnk.replies = [] := by decide +kernel

def modifyChecks (s : State) (p : List Byte) (u : Subscriber) (address : Word) (home coverage : GroupSet) (account : Nat) :
    List (Bool × Status) :=
  [ (p.length ≠ 12, .badRequest),
    (8192 ≤ get2 p 0, .noSuch),
    (((p.getD 2 0).getLsbD 0 && decide (get2 p 3 = 0)) || ((p.getD 2 0).getLsbD 1 && 4 ≤ get1 p 5) ||
      ((p.getD 2 0).getLsbD 2 && !intervalDefined (get1 p 6)) || ((p.getD 2 0).getLsbD 3 && 16 ≤ get1 p 7) ||
      ((p.getD 2 0).getLsbD 4 && 16 ≤ get1 p 8) || decide (home = 0) || !groupSubset home coverage, .outOfRange),
    (!u.inUse, .wrongState),
    (decide (address ≠ u.address) && 0 < u.live, .busy),
    (decide (address ≠ u.address) && (s.lookup address).isSome, .duplicateAddress),
    (decide (account ≠ u.account) && (2048 ≤ account || decide ((s.acct account).state = .closed)), .noSuch),
    (decide (account ≠ u.account) && decide ((s.acct account).state = .locked), .wrongState) ]

/-- All seven settings named: each check of MODIFY SUBSCRIBER fails first somewhere. -/
theorem witness_ModifyWritesNamedSettings_refused :
    let f (s : State) (n : Nat) (v : Subscriber) :=
      firstFailing (modifyChecks s (Payload.modify n 0x7F v) (s.sub n) v.address v.home v.coverage v.account)
    firstFailing (modifyChecks base [] (base.sub 0) 0 1 1 0) = some .badRequest ∧
    f base 8192 unit8191 = some .noSuch ∧ f base 305 { unit8191 with interval := 5 } = some .outOfRange ∧
    f base 8191 unit8191 = some .wrongState ∧
    f (base.setSub 305 { unit305 with live := 1 }) 305 unit8191 = some .busy ∧
    f (base.bindAddress 65535 (some 7)) 305 unit8191 = some .duplicateAddress ∧
    f base 305 { unit8191 with account := 2048 } = some .noSuch ∧
    f (base.setAcct 2047 { account17 with state := .locked }) 305 { unit8191 with account := 2047 } = some .wrongState := by
  decide +kernel

def suspended : State := base.setSub 305 { unit305 with service := .suspended }

theorem witness_SuspendAndResumeMoveService :
    ([] : List Byte).length ≠ 2 ∧
    ((num2 8192).length = 2 ∧ 8192 ≤ get2 (num2 8192) 0) ∧
    ((num2 8191).length = 2 ∧ get2 (num2 8191) 0 < 8192 ∧
      ((asked base 0x12 (num2 8191)).sub (get2 (num2 8191) 0)).service ≠ .active ∧
      ((asked base 0x13 (num2 8191)).sub (get2 (num2 8191) 0)).service ≠ .suspended) ∧
    ((num2 305).length = 2 ∧ get2 (num2 305) 0 < 8192 ∧
      ((asked base 0x12 (num2 305)).sub (get2 (num2 305) 0)).service = .active ∧
      ((asked suspended 0x13 (num2 305)).sub (get2 (num2 305) 0)).service = .suspended) ∧
    suspended.lnk.replies = [] := by decide +kernel

theorem witness_NextEligibleIsFirstEligible :
    intervalDefined unit305.interval = true ∧ unit305.eligible 1010 = true ∧
    11 < (unit305.nextEligible 1011 - 1011).toNat := by decide

theorem witness_AccountRequestsWriteTheirFields :
    ((base.acct 2047).state = .closed ∧ (-8388608 : Int) ≤ 8388607 ∧ (8388608 : Nat) < 2 ^ 32) ∧
    ((base.acct 17).state ≠ .closed ∧ (8388607 : Int) = (base.acct 17).balance + 8383607 ∧
      (8388608 : Int) = (base.acct 17).balance + 8383608 ∧ (-8388609 : Int) = (base.acct 17).balance + -8393609) ∧
    base.lnk.replies = [] := by decide +kernel

/-- The refusals of the four requests, each check failing first somewhere. -/
theorem witness_AccountRequestsWriteTheirFields_refused :
    let opening (s : State) (p : List Byte) := firstFailing [
      (p.length ≠ 11, .badRequest), (2048 ≤ get2 p 0, .noSuch),
      (8 ≤ get1 p 2 || decide (getInt p 3 < -8388608) || decide (8388607 < getInt p 3), .outOfRange),
      (decide ((s.acct (get2 p 0)).state ≠ .closed), .wrongState) ]
    let crediting (s : State) (p : List Byte) := firstFailing [
      (p.length ≠ 6, .badRequest), (2048 ≤ get2 p 0, .noSuch),
      (decide ((s.acct (get2 p 0)).state = .closed), .wrongState) ]
    opening base [] = some .badRequest ∧ opening base (Payload.openAccount 2048 0 0 0) = some .noSuch ∧
    opening base (Payload.openAccount 2047 8 0 0) = some .outOfRange ∧
    opening base (Payload.openAccount 2047 7 8388608 0) = some .outOfRange ∧
    opening base (Payload.openAccount 2047 7 (-8388609) 0) = some .outOfRange ∧
    opening base (Payload.openAccount 17 7 0 0) = some .wrongState ∧
    opening base (Payload.openAccount 2047 7 (-8388608) 0) = none ∧
    crediting base [] = some .badRequest ∧ crediting base (num2 2048 ++ num4 0) = some .noSuch ∧
    crediting base (num2 2047 ++ num4 0) = some .wrongState := by decide +kernel

def locked : State := base.setAcct 17 { account17 with state := .locked }

theorem witness_LockAndUnlockMoveState :
    ([] : List Byte).length ≠ 2 ∧
    ((num2 2048).length = 2 ∧ 2048 ≤ get2 (num2 2048) 0) ∧
    ((num2 2047).length = 2 ∧ get2 (num2 2047) 0 < 2048 ∧
      ((asked base 0x24 (num2 2047)).acct (get2 (num2 2047) 0)).state ≠ .opened ∧
      ((asked base 0x25 (num2 2047)).acct (get2 (num2 2047) 0)).state ≠ .locked) ∧
    ((num2 17).length = 2 ∧ get2 (num2 17) 0 < 2048 ∧
      ((asked base 0x24 (num2 17)).acct (get2 (num2 17) 0)).state = .opened ∧
      ((asked locked 0x25 (num2 17)).acct (get2 (num2 17) 0)).state = .locked) ∧
    locked.lnk.replies = [] := by decide +kernel

theorem witness_CloseReportsAndClears :
    ((asked base 0x26 (num2 17)).acct 17).state ≠ .closed ∧ 0 < ((asked base 0x26 (num2 17)).acct 17).links ∧
    ((asked richer 0x26 (num2 2047)).acct 2047).state ≠ .closed ∧
    (let s := base.setAcct 2047 { account17 with links := 0 }
     ((asked s 0x26 (num2 2047)).acct 2047).state ≠ .closed ∧ ((asked s 0x26 (num2 2047)).acct 2047).links = 0 ∧
       ((asked s 0x26 (num2 2047)).acct 2047).reserved = 0 ∧ s.lnk.replies = []) := by decide +kernel

def topTariff : Tariff :=
  { base := 4095, perWord := 4095, f1 := 64, f2 := 64, f3 := 64, f4 := 64, urgent := 32, low := 8, minimum := 4095,
    expiry := 4095 }

theorem witness_LoadTariffReplacesWholeEntry :
    topTariff.base < 65536 ∧ topTariff.perWord < 65536 ∧ topTariff.f4 < 256 ∧ topTariff.urgent < 256 ∧
    topTariff.minimum < 65536 ∧ topTariff.expiry < 65536 ∧ topTariff.inRange = true ∧
    { topTariff with base := 4096 }.inRange = false ∧ { topTariff with f2 := 15 }.inRange = false ∧
    (asked base 0x28 (num1 7 ++ topTariff.bytes)).ready { kind := 0x28, tag := 7, payload := num1 7 ++ topTariff.bytes } :=
  ⟨by decide, by decide, by decide, by decide, by decide, by decide, by decide, by decide, by decide,
    ready_asked _ _ _ (by decide +kernel)⟩

theorem witness_SetProfileClampsEachField :
    let f : Profile := { allowance := 16, repeats := 0, base := 65, lifetime := 0 }
    let g : Profile := { allowance := 15, repeats := 1, base := 64, lifetime := 1 }
    ([] : List Byte).length ≠ 5 ∧ ((num1 3 ++ f.bytes).length = 5 ∧ 3 ≤ get1 (num1 3 ++ f.bytes) 0) ∧
    f.allowance < 256 ∧ f.repeats < 256 ∧ f.base < 256 ∧ f.lifetime < 256 ∧
    g.allowance = (if f.allowance = 0 then 1 else if 15 < f.allowance then 15 else f.allowance) ∧
    g.repeats = (if f.repeats = 0 then 1 else if 4 < f.repeats then 4 else f.repeats) ∧
    g.base = (if f.base = 0 then 1 else if 64 < f.base then 64 else f.base) ∧
    g.lifetime = (if f.lifetime = 0 then 1 else f.lifetime) ∧
    (asked base 0x2A (num1 2 ++ f.bytes)).lnk.requests.head? = some (theRecord 0x2A (num1 2 ++ f.bytes)) ∧
    base.lnk.replies = [] := by decide +kernel

theorem witness_QueriesReadOnly :
    base.lookup 1234 = some 305 ∧
    (holding (page .queued .twoWay none)).named ticket12 = some (page .queued .twoWay none) ∧
    (holding (page .queued .twoWay none)).lnk.replies = [] ∧ base.lnk.replies = [] := by decide +kernel

/-- The refusals of the queries: each check fails first somewhere, at the least value that fails it. -/
theorem witness_QueriesReadOnly_refused :
    let unit (p : List Byte) := firstFailing [
      (p.length ≠ 3, .badRequest), (2 ≤ get1 p 0, .badRequest), (decide (get1 p 0 = 0) && 8192 ≤ get2 p 1, .noSuch),
      (decide (get1 p 0 = 1) && (base.lookup (BitVec.ofNat 16 (get2 p 1))).isNone, .noSuch) ]
    let store (p : List Byte) := firstFailing [
      (2 ≤ get1 p 0 || p.length ≠ (if get1 p 0 = 0 then 1 else 3), .badRequest),
      (decide (get1 p 0 = 1) && 6144 ≤ get2 p 1, .noSuch) ]
    let delivery (p : List Byte) := firstFailing [
      (2 ≤ get1 p 0 || p.length ≠ (if get1 p 0 = 0 then 4 else 1), .badRequest),
      (decide (get1 p 0 = 0) && (base.named (getTicket p 1)).isNone, .noSuch) ]
    let zone (p : List Byte) := firstFailing [
      (2 ≤ get1 p 0 || p.length ≠ 2, .badRequest), (decide (get1 p 0 = 0) && 8 ≤ get1 p 1, .noSuch),
      (decide (get1 p 0 = 1) && 4 ≤ get1 p 1, .noSuch) ]
    let air (p : List Byte) := firstFailing [
      (2 ≤ get1 p 0 || p.length ≠ (if get1 p 0 = 0 then 1 else 4), .badRequest),
      (decide (get1 p 0 = 1) && 2 ≤ get1 p 2, .badRequest), (decide (get1 p 0 = 1) && 4 ≤ get1 p 1, .noSuch) ]
    (unit [] = some .badRequest ∧ unit [2, 0, 0] = some .badRequest ∧ unit (0 :: num2 8192) = some .noSuch ∧
      unit (1 :: num2 4) = some .noSuch ∧ unit (0 :: num2 8191) = none) ∧
    (store [] = some .badRequest ∧ store [2] = some .badRequest ∧ store (1 :: num2 6144) = some .noSuch ∧
      store (1 :: num2 6143) = none) ∧
    (delivery [0] = some .badRequest ∧ delivery (0 :: ticket3 ticket12) = some .noSuch ∧ delivery [1] = none) ∧
    (zone [2, 0] = some .badRequest ∧ zone [0, 8] = some .noSuch ∧ zone [1, 4] = some .noSuch ∧ zone [1, 3] = none) ∧
    (air [0, 0] = some .badRequest ∧ air [1, 3, 2, 0] = some .badRequest ∧ air [1, 4, 1, 0] = some .noSuch ∧
      air [1, 3, 1, 0] = none) := by decide +kernel

/-- The greatest product of stage 4 belongs to the greatest entry. -/
theorem witness_StagedChargeNeverWraps :
    topTariff.inRange = true ∧
    (16 * topTariff.base + topTariff.perWord * 122) * topTariff.f4 / 16 * topTariff.urgent / 8 * (128 + 255) =
      3462994080 := by decide

theorem witness_ChargeLimitsInOrder :
    topTariff.inRange = true ∧ 65535 < topTariff.staged 122 4 .urgent 255 ∧
    { topTariff with base := 0, perWord := 0 }.inRange = true ∧
    { topTariff with base := 0, perWord := 0 }.staged 2 1 .low 0 < 4095 ∧
    class2.inRange = true ∧ class2.minimum ≤ class2.staged 37 3 .urgent 144 ∧ class2.staged 37 3 .urgent 144 ≤ 65535 := by
  decide

theorem witness_ChargeNeverExceedsHold :
    class2.inRange = true ∧ 2 ≤ 3 ∧ 932 = class2.hold 37 3 .urgent 144 ∧
    698 < (class2.computed 37 2 .urgent 144).1 ∧ 29 < class2.expiry := by decide

/-! ### Witnesses: intake, store, deliveries -/

/-- Check 1: a payload cut short, a text length that is not that of the text, and each code one above its last. -/
theorem witness_SubmissionsAreCheckedInOrder_malformed :
    let p (pr e m len : Byte) : List Byte := [1, 49, pr, e, m, 0, len, 65]
    ([1, 49] : List Byte).length < 7 ∧ (p 0 0 0 2).length ≠ 7 + get1 (p 0 0 0 2) 6 ∧ 3 ≤ get1 (p 3 2 2 1) 2 ∧
    3 ≤ get1 (p 2 3 2 1) 3 ∧ 3 ≤ get1 (p 2 2 3 1) 4 ∧ readPage (p 2 2 2 1) ≠ none := by decide

/-- Each of checks 2 to 8 and 11 fails first somewhere; 8,192 is the least number of no subscriber. -/
theorem witness_SubmissionsAreCheckedInOrder :
    base.intakeCheck 8192 alpha70 false = some .noSuch ∧ base.intakeCheck 8191 alpha70 false = some .noSuch ∧
    suspended.intakeCheck 305 alpha70 false = some .suspended ∧
    (base.setSub 305 { unit305 with pager := .numeric }).intakeCheck 305 alpha70 false = some .wrongClass ∧
    base.intakeCheck 305 { alpha70 with text := [0x7F] } false = some .badText ∧
    (base.setSub 305 { unit305 with live := 32 }).intakeCheck 305 alpha70 false = some .subscriberFull ∧
    locked.intakeCheck 305 alpha70 false = some .locked ∧
    (base.withJnl { base.jnl with reservation := 8192 }).intakeCheck 305 alpha70 false = some .journalFull ∧
    (base.setAcct 17 { account17 with balance := 931 }).intakeCheck 305 alpha70 false = some .credit ∧
    base.intakeCheck 305 alpha70 false = none := by decide +kernel

/-- The premise of the statement as it stands there, over the numbers 0 to 6,143. -/
def firstFailed (numbers : List Nat) (s : State) (n : Nat) (x : Submission) : Option Status :=
  ([ (8192 ≤ n || decide ((s.sub n).service = .unassigned), Status.noSuch),
     (decide ((s.sub n).service = .suspended), .suspended),
     (!(s.sub n).pager.accepts x.encoding, .wrongClass),
     (!textOk x.encoding x.text, .badText),
     (decide ((s.sub n).live = 32), .subscriberFull),
     (decide ((s.acct (s.sub n).account).state = .locked), .locked),
     (decide (s.jnl.records.length + s.jnl.reservation = 8192), .journalFull),
     (numbers.all (fun k => (s.live k).isSome), .tableFull),
     (numbers.all (fun b => (s.body b).inUse) || decide (8192 - s.blocksInUse < (x.text.length + 31) / 32),
       .storeFull),
     (decide ((s.acct (s.sub n).account).available < (s.holdFor (s.sub n) x : Int)), .credit) ].find?
      (fun c => c.1)).map (fun c => c.2)

def poor : State := base.setAcct 17 { account17 with balance := 931 }

theorem witness_SubmissionsAreCheckedInOrder_first :
    let s := asked base 0x30 (Payload.page 8192 alpha70)
    firstFailed (List.range 6144) s 8192 alpha70 = some .noSuch ∧ s.lnk.replies = [] ∧ alpha70.text.length < 256 ∧
    s.lnk.requests.head? = some (theRecord 0x30 (Payload.page 8192 alpha70)) := by decide +kernel

theorem witness_SubmissionsAreCheckedInOrder_last :
    let s := asked poor 0x30 (Payload.page 305 alpha70)
    firstFailed (List.range 6144) s 305 alpha70 = some .credit ∧ s.lnk.replies = [] ∧
    s.lnk.requests.head? = some (theRecord 0x30 (Payload.page 305 alpha70)) := by decide +kernel

/-- A table that lists the same entry for each number of a list reads as that entry there. -/
theorem read_full {α : Type} (dflt v : α) (l : List Nat) (n : Nat) (h : n ∈ l) :
    Table.read dflt (l.map (fun k => (k, v))) n = v := by
  induction l with
  | nil => cases h
  | cons k l ih =>
    by_cases e : k = n
    · simp [Table.read, e]
    · simpa [Table.read, e] using ih ((List.mem_cons.1 h).resolve_left (fun x => e x.symm))

/-- The state with the given delivery records, and with the given bodies. -/
def withRecords (r : Table DeliveryRecord) : State := running.withDlv { running.dlv with records := r }
def withBodies (b : Table Body) : State := running.withTxt { running.txt with bodies := b }

/-- Checks 2 to 8 pass in any state that differs from `running` only in its delivery table, store and link. -/
theorem early_checks_pass (s : State) (hd : s.dir = running.dir) (ha : s.act = running.act) (hj : s.jnl = running.jnl) :
    (8192 ≤ 305 || decide ((s.sub 305).service = .unassigned)) = false ∧
    decide ((s.sub 305).service = .suspended) = false ∧
    (!(s.sub 305).pager.accepts alpha70.encoding) = false ∧ (!textOk alpha70.encoding alpha70.text) = false ∧
    decide ((s.sub 305).live = 32) = false ∧ decide ((s.acct (s.sub 305).account).state = .locked) = false ∧
    decide (s.jnl.records.length + s.jnl.reservation = 8192) = false := by
  have hs : s.sub = running.sub := by funext n; simp [State.sub, hd]
  have hc : s.acct = running.acct := by funext n; simp [State.acct, ha]
  rw [hs, hc, hj]; decide +kernel

theorem full_table_fails (l : List Nat) (r : Table DeliveryRecord)
    (h : ∀ k ∈ l, (Table.read .fresh r k).live.isSome = true) :
    firstFailed l (asked (withRecords r) 0x30 (Payload.page 305 alpha70)) 305 alpha70 = some .tableFull := by
  obtain ⟨p1, p2, p3, p4, p5, p6, p7⟩ :=
    early_checks_pass (asked (withRecords r) 0x30 (Payload.page 305 alpha70)) rfl rfl rfl
  have live : l.all (fun k => ((asked (withRecords r) 0x30 (Payload.page 305 alpha70)).live k).isSome) = true :=
    List.all_eq_true.2 h
  simp only [firstFailed, p1, p2, p3, p4, p5, p6, p7, live, List.find?, Option.map]

theorem full_store_fails (l : List Nat) (zero : 0 ∈ l) (b : Table Body)
    (h : ∀ k ∈ l, (Table.read .free b k).inUse = true) :
    firstFailed l (asked (withBodies b) 0x30 (Payload.page 305 alpha70)) 305 alpha70 = some .storeFull := by
  obtain ⟨p1, p2, p3, p4, p5, p6, p7⟩ :=
    early_checks_pass (asked (withBodies b) 0x30 (Payload.page 305 alpha70)) rfl rfl rfl
  have used : l.all (fun k => ((asked (withBodies b) 0x30 (Payload.page 305 alpha70)).body k).inUse) = true :=
    List.all_eq_true.2 h
  have live : l.all (fun k => ((asked (withBodies b) 0x30 (Payload.page 305 alpha70)).live k).isSome) = false := by
    have : ((asked (withBodies b) 0x30 (Payload.page 305 alpha70)).live 0).isSome = false := by
      show ((running.live 0).isSome) = false
      decide +kernel
    exact Bool.eq_false_iff.2 (fun e => by rw [List.all_eq_true.1 e 0 zero] at this; cases this)
  simp only [firstFailed, p1, p2, p3, p4, p5, p6, p7, live, used, Bool.true_or, List.find?, Option.map]

/-- Every delivery record live; every body of the store in use. -/
theorem witness_SubmissionsAreCheckedInOrder_full (d : Delivery) (l : List Nat) (e : l = List.range 6144) :
    firstFailed l (asked (withRecords (l.map (fun k => (k, { issue := 1, live := some d })))) 0x30
      (Payload.page 305 alpha70)) 305 alpha70 = some .tableFull ∧
    firstFailed l (asked (withBodies (l.map (fun k => (k, { Body.free with inUse := true, refs := 1 })))) 0x30
      (Payload.page 305 alpha70)) 305 alpha70 = some .storeFull :=
  ⟨full_table_fails l _ (fun k hk => by rw [read_full _ _ l k hk]; rfl),
    full_store_fails l (by rw [e]; exact List.mem_range.2 (by omega)) _ (fun k hk => by rw [read_full _ _ l k hk])⟩

theorem witness_AcceptedPageCreatesDelivery :
    let s := asked running 0x30 (Payload.page 305 alpha70)
    s.intakeCheck 305 alpha70 false = none ∧ s.freeDelivery = some 0 ∧ s.freeBody = some 0 ∧
    s.lnk.requests.head? = some (theRecord 0x30 (Payload.page 305 alpha70)) ∧ s.lnk.replies = [] := by decide +kernel

theorem witness_GroupPageSharesOneBody :
    let list := 305 :: List.replicate 63 306
    let s := asked running 0x31 (Payload.groupPage list alpha70)
    (list.length = 64 ∧ (∀ m ∈ list, m < 65536) ∧ alpha70.text.length < 256 ∧
      s.intakeCheck 305 alpha70 false = none ∧ s.intakeCheck 306 alpha70 true = some .noSuch ∧
      s.lnk.requests.head? = some (theRecord 0x31 (Payload.groupPage list alpha70)) ∧ s.lnk.replies = []) ∧
    (get1 (Payload.groupPage [] alpha70) 5 = 0 ∧ 64 < get1 [0, 0, 0, 0, 0, 65] 5 ∧ 3 ≤ get1 [3, 0, 0, 0, 0, 1] 0) := by
  decide +kernel

theorem witness_TextIsStoredAndPacked :
    (alpha70.text.length + 31) / 32 ≤ 8192 - base.blocksInUse ∧ (35 - 1) < (alpha70.text.length + 1) / 2 ∧
    17 < (alpha70.text.length + 3) / 4 := by decide +kernel

theorem witness_CancelWithdrawsWaitingDelivery :
    base.named ticket12 = none ∧
    (holding (page .onAir .twoWay none)).named ticket12 = some (page .onAir .twoWay none) ∧
    (page .onAir .twoWay none).state = .onAir ∧
    (holding (page .retryWait .twoWay none)).named ticket12 = some (page .retryWait .twoWay none) ∧
    (page .retryWait .twoWay none).state = .retryWait ∧
    (holding (page .retryWait .twoWay none)).lnk.replies = [] := by decide +kernel

/-- A list of one delivery, and a delivery with the next order key. -/
def listed : State :=
  (holding (page .queued .twoWay none)).setCalList 50 [12]

theorem witness_FilingKeepsListOrder :
    let d := { page .queued .twoWay none with orderKey := 1 }
    [12] = listed.calList (frameNumber d.due) ∧ 13 ∉ [12] ∧ listed.live 12 = some (page .queued .twoWay none) ∧
    ((page .queued .twoWay none).orderKey - 0).toNat < 2 ^ 31 ∧ (d.orderKey - 0).toNat < 2 ^ 31 ∧
    [12].Pairwise (fun _ _ => False) := by
  refine ⟨?_, ?_, ?_, ?_, ?_, List.pairwise_singleton _ _⟩ <;> decide +kernel

/-- A placed delivery whose revert files it, and one whose deadline has passed. -/
theorem witness_RevertUndoesPlacement :
    (holding (page .placed .twoWay (some attempt))).live 12 = some (page .placed .twoWay (some attempt)) ∧
    (page .placed .twoWay (some attempt)).state = .placed ∧ (page .placed .twoWay (some attempt)).last = some attempt ∧
    atOrBefore (unit305.nextEligible running.clk.earliestUnbuilt) (page .placed .twoWay (some attempt)).deadline = true ∧
    atOrBefore (unit305.nextEligible running.clk.earliestUnbuilt) 1009 = false := by decide +kernel

/-- The last repeat, one before it, and a deadline of 1,009; the last attempt, one before it, and the same deadline. -/
theorem witness_FrameEndsRepeatOrRetry :
    (let d := { page .onAir .oneWay (some attempt) with repeatsLeft := 2 }
     (holding d).live 12 = some d ∧ d.state = .onAir ∧ d.kind = .oneWay ∧
     atOrBefore (((holding d).sub d.subscriber).nextEligible ((holding d).clk.serial + 1)) d.deadline = true ∧
     atOrBefore (((holding d).sub d.subscriber).nextEligible ((holding d).clk.serial + 1)) 1009 = false) ∧
    (let d := { page .awaitReceipt .twoWay (some attempt) with attemptsLeft := 2, attemptsMade := 1 }
     (holding d).live 12 = some d ∧ d.state = .awaitReceipt ∧ d.last = some attempt ∧
     (1014 : Serial) = attempt.serial + 2 +
       BitVec.ofNat 32 (min (((holding d).profile d.priority).base * 2 ^ (d.attemptsMade - 1)) 256) + 2 ∧
     atOrBefore (((holding d).sub d.subscriber).nextEligible 1012) d.deadline = true ∧
     atOrBefore (((holding d).sub d.subscriber).nextEligible 1012) 1009 = false) := by decide +kernel

/-! ### Witnesses: clock, zones, air -/

theorem witness_SerialAndTrimAreSet :
    running.clk.state = .running ∧ base.clk.state = .stopped ∧ (127 : Byte).toNat ≤ 127 ∧ 128 ≤ (128 : Byte).toNat ∧
    base.lnk.replies = [] ∧ running.lnk.replies = [] := by decide +kernel

theorem witness_ClockStartsAndStops :
    (base.clk.state = .stopped ∧ base.bld.air = .halted ∧
      (∀ g < 4, (base.group g).next = none ∧ (base.images g).next = none) ∧ base.liveNumbers = []) ∧
    (running.clk.state = .running ∧ running.bld.air = .halted ∧ running.deliveriesNeedClock = false) ∧
    (onAir.clk.state = .running ∧ onAir.bld.air ≠ .halted) ∧
    (holding (page .awaitReceipt .twoWay none)).live 12 = some (page .awaitReceipt .twoWay none) ∧
    running.lnk.replies = [] ∧ onAir.lnk.replies = [] := by decide +kernel

theorem witness_MarkEdgeIsCountedAndCaptured : running.clk.state = .running ∧ base.clk.state = .stopped := by
  decide +kernel

def beforeBuild : State := running.withClk { running.clk with position := 40000 }

theorem witness_TickRaisesPosition :
    (running.clk.state = .running ∧ running.eventDue = false) ∧ base.clk.state = .stopped ∧
    (beforeBuild.eventDue = true ∧ (later 49999).eventDue = true ∧ (later 46600).eventDue = true ∧
      (later 46599).eventDue = false) ∧
    (0 < 40000 ∧ running.pending = [] ∧ running.reaches (running.clk.position + 40000) ∧
      ¬running.reaches (running.clk.position + 40001)) :=
  ⟨by decide +kernel, by decide +kernel, by decide +kernel, by decide, rfl,
    (reaches_iff _ _).2 (by decide +kernel), fun h => absurd ((reaches_iff _ _).1 h) (by decide +kernel)⟩

theorem witness_BoundaryTurnsFrame :
    (lastTick (page .onAir .twoWay none) .empty).reaches (49935 + 64) ∧ ¬running.reaches (49935 + 64) ∧
    ¬(later 49999).reaches (49935 + 64) ∧ ((later 49999).images 0).next = some image0 :=
  ⟨(reaches_iff _ _).2 (by decide +kernel), fun h => absurd ((reaches_iff _ _).1 h) (by decide +kernel),
    fun h => absurd ((reaches_iff _ _).1 h) (by decide +kernel), by decide +kernel⟩

/-- The groups launched, from a test that can be computed. -/
theorem kept_of {s : State} {kept : GroupSet}
    (h : ∀ g < 4, kept.getLsbD g = ((s.images g).next.isSome && (List.range 8).any (fun z => (s.zone z).inService &&
      (s.group g).next.any (fun p => p.members.getLsbD z)))) :
    ∀ g < 4, kept.getLsbD g = true ↔ (s.images g).next ≠ none ∧
      ∃ z < 8, (s.zone z).inService = true ∧ ∃ p : Plan, (s.group g).next = some p ∧ p.members.getLsbD z = true := by
  intro g hg
  rw [h g hg]
  simp [Option.isSome_iff_ne_none, Option.any_eq_true, List.any_eq_true]

/-- Group 0 alone is launched. Delivery 12 on air, with its last repeat and one before it; placed in a group kept and in groups
dropped; awaiting a receipt, missed and not, with its last attempt and one before it. -/
theorem witness_BoundaryTurnsFrame_deliveries :
    let one := { page .onAir .oneWay (some attempt) with repeatsLeft := 2 }
    let placed (c : GroupSet) := page .placed .twoWay (some { attempt with carried := c, serial := 1010 })
    let waiting := { page .awaitReceipt .twoWay (some attempt) with attemptsLeft := 2, attemptsMade := 1 }
    let s (d : Delivery) := lastTick d (.claimed ticket12)
    (∀ g < 4, (1 : GroupSet).getLsbD g = true ↔ ((s one).images g).next ≠ none ∧
      ∃ z < 8, ((s one).zone z).inService = true ∧
        ∃ p : Plan, ((s one).group g).next = some p ∧ p.members.getLsbD z = true) ∧
    (s one).reaches (49935 + (s one).clk.trim) ∧ (∃ t, exec (.boundary .endedMissedDropped) (s one) = .next t) ∧
    Table.wf .fresh (s one).dlv.records = true ∧
    ((s one).live 12 = some one ∧ one.state = .onAir ∧ one.kind = .oneWay ∧ 2 ≤ one.repeatsLeft ∧
      ¬2 ≤ { one with repeatsLeft := 1 }.repeatsLeft) ∧
    ((s (placed 3)).live 12 = some (placed 3) ∧ (s (placed 3)).inNextImage 12 = true ∧
      (s (placed 3)).inNextImage 13 = false ∧ (3 : GroupSet) &&& 1 ≠ 0 ∧ (6 : GroupSet) &&& 1 = 0) ∧
    ((s waiting).live 12 = some waiting ∧ waiting.last = some attempt ∧ 2 ≤ waiting.attemptsLeft ∧
      ((s waiting).maps 2).previous = some (receiptMap2.setSlot 3 (.claimed ticket12)) ∧
      (receiptMap2.setSlot 3 (.claimed ticket12)).slot 3 = .claimed ((s waiting).ticket 12)) := by
  refine ⟨kept_of (by decide +kernel), (reaches_iff _ _).2 (by decide +kernel), ?_, by decide +kernel, by decide +kernel,
    by decide +kernel, by decide +kernel⟩
  have r : ∀ s : State, s.reaches s.clk.lastPosition → ∃ t, exec (.boundary .endedMissedDropped) s = .next t :=
    fun s h => ⟨_, by simp only [exec, execBoundary, atMoment_of_reaches h]; rfl⟩
  exact r _ ((reaches_iff _ _).2 (by decide +kernel))

theorem zone_on_air (z : Nat) (h : z ≠ 0) : onAir.zone z = .powerOn false := by
  have e : onAir.zon.zones =
      [(0, { Zone.powerOn false with settings := zone0, keyed := true, offered := 5, wordsTaken := 4 })] := by
    decide +kernel
  simp [State.zone, e, Table.read, Ne.symm h]

theorem group_on_air (g : Nat) (h : g ≠ 0) : onAir.group g = .powerOn := by
  have e : onAir.zon.groups = [(0, { Group.powerOn with current := some plan0, next := some plan0 })] := by
    decide +kernel
  simp [State.group, e, Table.read, Ne.symm h]

theorem on_air_reaches (q : Nat) (h : q ≤ 40000) : onAir.reaches q := by
  refine (reaches_iff _ _).2 ⟨by decide +kernel, ?_, ?_, ?_⟩
  · have : onAir.clk.position = 0 := by decide +kernel
    omega
  · omega
  · have : onAir.nextMoment = 40000 := by decide +kernel
    omega

theorem witness_BuildPointMakesPlans :
    onAir.reaches 40000 ∧ onAir.clk.buildPassed = false ∧ onAir.plansInRange := by
  have hz : ∀ z, (onAir.zone z).settings = zone0 ∨ (onAir.zone z).settings = .powerOn := fun z => by
    by_cases h : z = 0
    · subst h; exact .inl (by decide +kernel)
    · exact .inr (by rw [zone_on_air z h]; rfl)
  have hp : ∀ z, (onAir.zone z).pending = .powerOn := fun z => by
    by_cases h : z = 0
    · subst h; decide +kernel
    · rw [zone_on_air z h]; rfl
  have hg : ∀ g, (onAir.group g).settings = .powerOn ∧ (onAir.group g).pending = .powerOn ∧
      ∀ p, (onAir.group g).next = some p ∨ (onAir.group g).current = some p → p = plan0 := fun g => by
    by_cases h : g = 0
    · subst h
      have e : onAir.group 0 = { Group.powerOn with current := some plan0, next := some plan0 } := by decide +kernel
      simp [e, Group.powerOn, eq_comm]
    · simp [group_on_air g h, Group.powerOn]
  have w : ZoneSettings.powerOn.inRange := by simp [ZoneSettings.inRange, ZoneSettings.powerOn]
  have w0 : zone0.inRange := by simp [ZoneSettings.inRange, zone0, ZoneSettings.powerOn]
  have v : GroupSettings.powerOn.inRange := by simp [GroupSettings.inRange, GroupSettings.powerOn]
  refine ⟨on_air_reaches _ (by decide), by decide +kernel, fun z => ?_, fun g => ?_, fun g p h => ?_⟩
  · rw [hp z]
    rcases hz z with e | e <;> rw [e] <;> exact ⟨by assumption, w⟩
  · rw [(hg g).1, (hg g).2.1]; exact ⟨v, v⟩
  · rw [(hg g).2.2 p h]; simp [Plan.fillsFrame, plan0]

/-- The state on air with delivery 12 as given in the list of frame number 50, which the build of 1,010 visits. -/
def visited (d : Delivery) : State := (onAir.setRecord 12 { issue := 5, live := some d }).setCalList 50 [12]

theorem visited_subs (d : Delivery) : (visited d).dir.subs = [(305, unit305)] := by
  show onAir.dir.subs = _
  decide +kernel

/-- Delivery 12 is due at 1,010, later, beyond its deadline, and for a subscriber that is not eligible. -/
theorem witness_BuildPointOpensImages :
    let d := page .queued .twoWay none
    (visited d).reaches 40000 ∧ (visited d).clk.buildPassed = false ∧ (visited d).bld.air = .on ∧
    [12] = (visited d).calList (frameNumber ((visited d).clk.serial + 1)) ∧ [12].Nodup ∧
    (∀ m, ((visited d).sub m).interval ≤ 64) ∧
    ((visited d).live 12 = some d ∧ beyond d.due 1010 = false ∧ beyond { d with due := 1011 }.due 1010 = true ∧
      beyond 1010 d.deadline = false ∧ beyond 1010 1009 = true ∧ ((visited d).sub 305).eligible 1010 = true ∧
      ((visited d).sub 0).eligible 1010 = false) := by
  refine ⟨(reaches_iff _ _).2 (by decide +kernel), by decide +kernel, by decide +kernel, by decide +kernel, by decide,
    fun m => ?_, by decide +kernel⟩
  by_cases h : 305 = m <;> simp [State.sub, visited_subs, Table.read, h, unit305, Subscriber.unassigned]

/-- The words: B of each code, the greatest p, A and body word count, slot 30 and no slot; an image that is full. -/
theorem witness_BuildPointOpensImages_words :
    (image0.depth = 4 ∧ image0.group < 4 ∧ image0.p < 256 ∧ image0.slotCount < 32) ∧
    (entry0.bodyWords < 128 ∧ ∀ j ∈ entry0.slot, j < 31) ∧ 1 ≤ image0.depth ∧ image0.used ≤ image0.capacity ∧
    (∀ e ∈ image0.pages, ([0x555B, 0x0142] : List Word).length = e.bodyWords) := by decide

theorem witness_ZoneRequestsWriteTheirFields :
    (∀ g, zone0.group = some g → g < 4) ∧ { zone0 with settle := 128 }.settle < 256 ∧
    (let v := { GroupSettings.powerOn with depth := 8, guard := 9, slotCount := 17 }
     (v.depth = 1 ∨ v.depth = 2 ∨ v.depth = 4 ∨ v.depth = 8) ∧ v.guard < 256 ∧ v.slotCount < 256) ∧
    (asked base 0x52 (num1 7 ++ [7])).ready { kind := 0x52, tag := 7, payload := num1 7 ++ [7] } :=
  ⟨by simp [zone0], by decide, by decide, ready_asked _ _ _ (by decide +kernel)⟩

/-- Each check of SET ZONE, SET GROUP and CLEAR ZONE FLAGS fails first somewhere. -/
theorem witness_ZoneRequestsWriteTheirFields_refused :
    let zone (p : List Byte) := firstFailing [
      (p.length ≠ 8, .badRequest),
      (2 ≤ get1 p 1 || 2 ≤ get1 p 4 || 4 ≤ get1 p 5 || 2 ≤ get1 p 6 || 2 ≤ get1 p 7, .badRequest),
      (8 ≤ get1 p 0, .noSuch), (4 ≤ get1 p 2 && decide (get1 p 2 ≠ 255), .outOfRange) ]
    let group (p : List Byte) := firstFailing [
      (p.length ≠ 7, .badRequest), (2 ≤ get1 p 2, .badRequest), (4 ≤ get1 p 0, .noSuch),
      (!decide (get1 p 1 ∈ [1, 2, 4, 8]), .outOfRange) ]
    zone [] = some .badRequest ∧ zone [8, 2, 4, 0, 0, 0, 0, 0] = some .badRequest ∧
    zone [8, 1, 4, 0, 0, 0, 0, 0] = some .noSuch ∧ zone [7, 1, 4, 0, 0, 0, 0, 0] = some .outOfRange ∧
    zone [7, 1, 254, 0, 0, 0, 0, 0] = some .outOfRange ∧ zone [7, 1, 255, 0, 0, 0, 0, 0] = none ∧
    group [] = some .badRequest ∧ group [4, 3, 2, 0, 0, 0, 0] = some .badRequest ∧
    group [4, 3, 1, 0, 0, 0, 0] = some .noSuch ∧ group [3, 3, 1, 0, 0, 0, 0] = some .outOfRange ∧
    group [3, 8, 1, 0, 0, 0, 0] = none := by decide

/-- A rise that hits, a rise that does not hit, and no change. -/
theorem witness_AlarmEdgeUnkeysAndFlags :
    (onAir.zone 0).alarm = .inactive ∧ (onAir.zone 0).settings.edge = .rising ∧ (onAir.zone 0).flags.getLsbD 0 = false ∧
    (onAir.zone 0).settings.noticeEnable = true ∧ (onAir.zone 0).settings.polarity = .normal ∧
    (onAir.zone 1).alarm = .inactive ∧ (onAir.zone 1).settings.edge = .none := by decide +kernel

theorem witness_WordOfferDrivesKeyedPorts :
    onAir.reaches (100 * 13) ∧ (later 46500).reaches (100 * 465) ∧ (later 46500).reaches (100 * 466) ∧
    ¬(later 46500).reaches (100 * 467) ∧
    (onAir.planGroup 0 = some 0 ∧ (onAir.group 0).current = some plan0 ∧ (onAir.images 0).current = some image0 ∧
      (onAir.zone 0).keyed = true ∧
      (plan0.settle ≤ 13 ∧ ¬plan0.settle ≤ 12 ∧ 465 < plan0.settle + 4 + plan0.capacity ∧
        plan0.settle + 4 + plan0.capacity ≤ 466) ∧
      (onAir.zone 1).keyed = false ∧ onAir.planGroup 7 = none) :=
  ⟨on_air_reaches _ (by decide), (reaches_iff _ _).2 (by decide +kernel), (reaches_iff _ _).2 (by decide +kernel),
    fun h => absurd ((reaches_iff _ _).1 h) (by decide +kernel), by decide +kernel⟩

theorem witness_OfferOrderIsPermutation :
    image0.depth = 4 ∧ 4 + image0.p ≤ 5 ∧ 5 < 4 + image0.used ∧ 4 < 4 + image0.p ∧ 4 + image0.used ≤ 9 := by decide

theorem witness_WordsTakenAreCountedAndJudged :
    ((onAir.zone 0).keyed = true ∧ (onAir.zone 0).wordsTaken < (onAir.zone 0).offered) ∧
    ((onAir.zone 1).keyed = false ∧ (later 40000).zonePlan 0 = some plan0 ∧ (later 40000).zonePlan 7 = none ∧
      plan0.settle + 4 + plan0.capacity = 466 ∧ plan0.settle + 4 + plan0.capacity ≠ 465) ∧
    (later 40000).reaches (100 * 466) ∧ (later 40000).reaches (100 * 465) ∧ ¬onAir.reaches (100 * 466) :=
  ⟨by decide +kernel, by decide +kernel, (reaches_iff _ _).2 (by decide +kernel), (reaches_iff _ _).2 (by decide +kernel),
    fun h => absurd ((reaches_iff _ _).1 h) (by decide +kernel)⟩

def inState (x : AirState) : State := running.withBld { running.bld with air := x }

theorem witness_AirTurnsOnAndOff :
    (inState .on).bld.air = .on ∧ (inState .stopping).bld.air = .stopping ∧
    (running.bld.air = .halted ∧ running.clk.state = .running) ∧
    (base.bld.air = .halted ∧ base.clk.state = .stopped) ∧
    (onAir.inNextImage 12 = true ∧ onAir.inNextImage 13 = false) ∧
    running.lnk.replies = [] ∧ onAir.lnk.replies = [] ∧ (inState .stopping).lnk.replies = [] := by decide +kernel

/-- Delivery 12 placed in a next image while the air is ON, and no other delivery. -/
theorem witness_AirTurnsOnAndOff_reverts :
    let s := asked (onAir.setRecord 12 { issue := 5, live := some (page .placed .twoWay (some attempt)) }) 0x61 []
    s.bld.air = .on ∧ Table.wf .fresh s.dlv.records = true ∧ [12].Pairwise (· < ·) ∧
    s.lnk.requests.head? = some (theRecord 0x61 []) ∧ s.lnk.replies = [] ∧
    (∃ t, exec (.airOff 7 []) s = .next t) ∧
    ∀ n, n ∈ [12] ↔ s.inNextImage n = true ∧ ∃ d, s.live n = some d ∧ d.state = .placed := by
  refine ⟨by decide +kernel, by decide +kernel, List.pairwise_singleton _ _, by decide +kernel, by decide +kernel,
    ⟨_, by simp only [exec, execAirOff]; rw [request_of_ready (ready_asked _ _ _ (by decide +kernel))]⟩, fun n => ?_⟩
  by_cases h : 12 = n
  · subst h
    simp only [List.mem_singleton, true_iff]
    exact ⟨by decide +kernel, page .placed .twoWay (some attempt), by decide +kernel, by decide +kernel⟩
  · have l : (onAir.setRecord 12 { issue := 5, live := some (page .placed .twoWay (some attempt)) }).live n = none := by
      simp only [State.live]
      rw [State.record_setRecord_other _ (Ne.symm h)]
      have e : onAir.dlv.records = [] := by decide +kernel
      simp [State.record, e, Table.read, DeliveryRecord.fresh]
    exact ⟨fun m => absurd (List.mem_singleton.1 m).symm h, fun ⟨_, d, x, _⟩ => nomatch l.symm.trans x⟩

/-- A build of 1,010 with the images of groups 1 to 3 open: both candidate groups pass, and with one full the entry fails. -/
def building (capacity : Nat) : State :=
  let s := holding (page .queued .twoWay none)
  let s := (s.setImages 1 { GroupImages.powerOn with next := some { plan0.image 1 with pages := [entry0] } }).setMaps 1
    { GroupMaps.absent with building := some (plan0.receiptMap 1) }
  (s.setImages 2 { GroupImages.powerOn with next := some { plan0.image 2 with capacity := capacity } }).setMaps 2
    { GroupMaps.absent with building := some (plan0.receiptMap 2) }

theorem witness_PlacementIsAllOrNothing :
    let d := { page .queued .twoWay none with attemptsMade := 2 }
    let s (c : Nat) := (building c).setRecord 12 { issue := 5, live := some d }
    (s 449).live 12 = some d ∧ (s 449).candidates d 1010 = 6 ∧
    (∀ g ∈ members 4 6, (s 449).groupPasses d g = true) ∧
    ((s 36).candidates d 1010 = 6 ∧ (s 36).groupPasses d 2 = false) ∧
    (holding d).candidates d 1010 = 0 := by decide +kernel

/-- Last heard is fresh at the age of 1,024 frames and not at 1,025, and in coverage alone; attempts 1, 2 and 3. -/
theorem witness_PlacementIsAllOrNothing_targets :
    let u (h : Serial) (g : Nat) := { unit305 with heard := some { group := g, serial := h } }
    (∀ g, (∃ h, (u 1009 2).heard = some h ∧ h.group = g ∧ (2033 - h.serial).toNat ≤ 1024 ∧
      (u 1009 2).coverage.getLsbD g = true) ↔ g = 2) ∧
    (u 1009 2).fresh 2033 = some 2 ∧ (u 1009 2).fresh 2034 = none ∧ (u 1009 0).fresh 2033 = none ∧
    attemptTargets (u 1009 2) 2033 1 = 4 ∧ attemptTargets (u 1009 2) 2033 2 = 6 ∧ attemptTargets (u 1009 2) 2033 3 = 14 := by
  refine ⟨fun g => ⟨fun ⟨h, e, c, _⟩ => ?_, fun e => ?_⟩, by decide, by decide, by decide, by decide, by decide, by decide⟩
  · simp only [Option.some.injEq] at e; rw [← c, ← e]
  · subst e; exact ⟨_, rfl, rfl, by decide, by decide⟩

/-! ### Witnesses: receipts, settlement, journal -/

def crowded : State := onAir.setQueue 7 (List.replicate 8 (.receipt 0 0 0 0))

theorem witness_ReturnRecordsAreQueuedOrCounted :
    ((crowded.queue 0).length < 8 ∧ 8 ≤ (crowded.queue 7).length) ∧
    byteSum [0x31, 3, 8, 0x54, 0xD2, 0x9F] ≠ 0 ∧
    ([0x33, 0, 0xCD].head? ≠ some (0x31 : Byte) ∧ [0x33, 0, 0xCD].head? ≠ some (0x32 : Byte)) ∧
    (byteSum [0x31, 2, 8, 0x54, 0x71] = 0 ∧ ([0x31, 2, 8, 0x54, 0x71] : List Byte)[1]? ≠ some 3) ∧
    (byteSum [0x32, 2, 4, 0xD2, 0, 0xF6] = 0 ∧ ([0x32, 2, 4, 0xD2, 0, 0xF6] : List Byte).length ≠ 5) := by decide +kernel

theorem witness_UnmatchedReceiptsAreCounted :
    let d := page .awaitReceipt .twoWay (some attempt)
    (hearing running .empty 0xD2).queue 1 = .receipt 48 3 4 0xD2 :: [] ∧
    (∃ m, (hearing running .empty 0xD2).heldMap 1 48 = some m ∧ m.slot 3 = .empty) ∧
    (hearing running .empty 0xD2).heldMap 1 49 = none ∧
    (∃ m, (hearing running (.answered ticket12 0xD2) 0xD2).heldMap 1 48 = some m ∧ m.usable.getLsbD 3 = true ∧
      m.slot 3 = .answered ticket12 0xD2) ∧
    (∃ m, (hearing (holding d) (.claimed ticket12) 0xD3).heldMap 1 48 = some m ∧ m.usable.getLsbD 3 = true ∧
      m.slot 3 = .claimed ticket12) ∧
    (hearing (holding d) (.claimed ticket12) 0xD3).named ticket12 = some d ∧
    (0xD3 : Byte) ≠ ((hearing (holding d) (.claimed ticket12) 0xD3).sub 305).address.setWidth 8 := by
  refine ⟨?_, ⟨receiptMap2, ?_, ?_⟩, ?_, ⟨receiptMap2.setSlot 3 (.answered ticket12 0xD2), ?_, ?_, ?_⟩,
    ⟨receiptMap2.setSlot 3 (.claimed ticket12), ?_, ?_, ?_⟩, ?_, ?_⟩ <;> decide +kernel

/-- The map of the receipt is the only one that names its frame and zone. -/
theorem witness_MatchedReceiptDelivers :
    let d := page .awaitReceipt .twoWay (some attempt)
    let m := receiptMap2.setSlot 3 (.claimed ticket12)
    let s := hearing (holding d) (.claimed ticket12) 0xD2
    s.queue 1 = .receipt 48 3 4 0xD2 :: [] ∧ ((s.maps 2).current = some m ∨ (s.maps 2).previous = some m) ∧
    frameNumber m.serial = 48 ∧ m.members.getLsbD 1 = true ∧
    ((groupNumbers.flatMap (fun g => (s.maps g).held)).filter
      (fun n => frameNumber n.serial = 48 && n.members.getLsbD 1)) = [m] ∧
    m.usable.getLsbD 3 = true ∧ m.slot 3 = .claimed ticket12 ∧ s.named ticket12 = some d ∧ d.last = some attempt ∧
    (0xD2 : Byte) = (s.sub d.subscriber).address.setWidth 8 ∧ (s.sub d.subscriber).heard = none := by decide +kernel

/-- An unknown unit, and unit 1,234 with a delivery in each state that a check-in reaches, and with a newer last heard. -/
theorem witness_CheckInsAreApplied :
    let s (d : Delivery) (a : Word) := (holding d).setQueue 1 [.checkIn a 1009 (some 2)]
    let d := page .awaitReceipt .twoWay (some attempt)
    let r := page .retryWait .twoWay (some attempt)
    (s d 4).queue 1 = .checkIn 4 1009 (some 2) :: [] ∧ (s d 4).lookup 4 = none ∧ (s d 1234).lookup 1234 = some 305 ∧
    ((s d 1234).live 12 = some d ∧ d.subscriber = 305 ∧ d.kind = .twoWay ∧ d.state = .awaitReceipt) ∧
    (s { d with kind := .oneWay, state := .onAir } 1234).live 12 = some { d with kind := .oneWay, state := .onAir } ∧
    ((s r 1234).live 12 = some r ∧ r.state = .retryWait ∧
      atOrBefore (((s r 1234).sub 305).nextEligible (s r 1234).clk.earliestUnbuilt) r.deadline = true ∧
      atOrBefore (((s r 1234).sub 305).nextEligible (s r 1234).clk.earliestUnbuilt) 1009 = false) ∧
    (let u := (s d 1234).setSub 305 { (s d 1234).sub 305 with heard := some { group := 1, serial := 1010 } }
     u.queue 1 = .checkIn 1234 1009 (some 2) :: [] ∧ u.lookup 1234 = some 305 ∧
      (u.sub 305).heard = some { group := 1, serial := 1010 } ∧ atOrBefore 1010 1009 = false) := by decide +kernel

/-- The last reference of a body and one of two; an append that reaches the watermark, and an outcome that raises a notice. -/
theorem witness_SettlementIsOneStep :
    let s := running.setBody 0 { Body.free with inUse := true, refs := 2 }
    (running.body 0).refs ≤ 1 ∧ 2 ≤ (s.body 0).refs ∧
    running.jnl.records.length + 1 = (running.withJnl { running.jnl with watermark := 1 }).jnl.watermark ∧
    (page .onAir .twoWay none).noticeMode = .final := by decide +kernel

theorem witness_JournalRequestsClamp :
    ([] : List Byte).length ≠ 1 ∧ ([] : List Byte).length ≠ 2 ∧
    32 = (if (33 : Byte).toNat = 0 then 1 else if 32 < (33 : Byte).toNat then 32 else (33 : Byte).toNat) ∧
    8192 = (if 8193 = 0 then 1 else if 8192 < 8193 then 8192 else 8193) ∧
    (asked base 0x71 (num2 8193)).ready { kind := 0x71, tag := 7, payload := num2 8193 } :=
  ⟨by decide, by decide, by decide, by decide, ready_asked _ _ _ (by decide +kernel)⟩

theorem witness_TrafficResetEndsEveryDelivery :
    let s := asked (holding (page .onAir .twoWay (some attempt))) 0x73 []
    Table.wf .fresh s.dlv.records = true ∧ s.liveNumbers = [12] ∧ s.lnk.requests.head? = some (theRecord 0x73 []) ∧
    s.lnk.replies = [] := by decide +kernel

/-! ### Witnesses of the invariants -/

/-- The state right after a page has been accepted, with a TICK waiting. -/
def filed : State := (running.accept 305 alpha70 none).state.withPending [.tick]

def page0 : Delivery := running.newDelivery 305 alpha70 0

theorem filed_steps : ∃ t, step filed = .next t := ⟨_, rfl⟩
theorem on_air_steps : ∃ t, step (onAir.withPending [.tick]) = .next t := ⟨_, rfl⟩

theorem filed_subs : filed.dir.subs = [(305, { unit305 with live := 1 })] := by decide +kernel
theorem filed_map : filed.dir.map = [(1234, some 305)] := by decide +kernel
theorem filed_accounts : filed.act.accounts = [(17, { account17 with reserved := 932 })] := by decide +kernel
theorem filed_tariffs : filed.act.tariffs = [(2, class2)] := by decide +kernel
theorem filed_records : filed.dlv.records = [(0, { issue := 1, live := some page0 })] := by decide +kernel
theorem filed_calendar : filed.dlv.calendar = [(50, [0])] := by decide +kernel
theorem filed_bodies : filed.txt.bodies =
    [(0, { inUse := true, refs := 1, encoding := .alpha, length := 70, blocks := [0, 1, 2] })] := by decide +kernel
theorem filed_live : filed.liveDeliveries = [page0] := by decide +kernel
theorem page0_fields : page0.account = 17 ∧ page0.subscriber = 305 ∧ page0.body = 0 ∧ page0.hold = 932 ∧
    frameNumber page0.due = 50 ∧ page0.state.waiting = true := by decide +kernel

/-- A filed delivery, and a receipt map with a slot that holds an entry. -/
theorem witness_StepKeepsTablesCanonical :
    let s := hearing filed (.claimed ticket12) 0xD2
    s.tablesCanonical ∧ s.rcp.maps.map (fun e => e.2.current.map (fun m => m.slots)) = [some [(3, .claimed ticket12)]] ∧
    ∃ t, step s = .next t := by
  refine ⟨?_, by decide +kernel, ⟨_, rfl⟩⟩
  unfold State.tablesCanonical; decide +kernel

theorem witness_StepKeepsQueuesAndLine : crowded.queuesInRange ∧ crowded.lnk.lineBusy := by
  have e : crowded.rcp.queues = [(7, List.replicate 8 (.receipt 0 0 0 0))] := by decide +kernel
  refine ⟨⟨by decide +kernel, by decide +kernel, by decide +kernel, fun z => ?_⟩, ?_⟩
  · by_cases h : 7 = z <;> simp [State.queue, e, Table.read, h]
  · unfold Link.lineBusy; decide +kernel

theorem witness_StepKeepsClockAndAir : onAir.clockInRange ∧ onAir.airFollowsClock ∧ onAir.timeAgrees := by
  refine ⟨?_, ?_, fun _ => on_air_reaches _ (by decide +kernel)⟩
  · unfold State.clockInRange; decide +kernel
  · unfold State.airFollowsClock; decide +kernel

theorem witness_StepKeepsStandingTables : filed.mapAgrees ∧ filed.subscribersInRange ∧ filed.fundsInRange := by
  refine ⟨⟨fun n h => ?_, fun a n h => ?_⟩, fun n => ?_, fun n => ?_, fun k => ?_, fun p => ?_⟩
  · by_cases e : 305 = n
    · subst e; decide +kernel
    · simp [State.sub, filed_subs, Table.read, e, Subscriber.inUse, Subscriber.unassigned] at h
  · by_cases z : a = 0
    · simp [State.lookup, z] at h
    · by_cases e : 1234 = a.toNat
      · have ha : a = 1234 := by apply BitVec.eq_of_toNat_eq; simp [← e]
        subst ha
        have hn : n = 305 := by
          have : filed.lookup 1234 = some 305 := by decide +kernel
          simpa using (h.symm.trans this)
        subst hn; decide +kernel
      · simp [State.lookup, filed_map, Table.read, e] at h
  · by_cases e : 305 = n <;>
      simp [State.sub, filed_subs, Table.read, e, unit305, Subscriber.unassigned, intervalDefined, groupSubset]
  · by_cases e : 17 = n <;> simp [State.acct, filed_accounts, Table.read, e, account17, Account.closed]
  · by_cases e : 2 = k
    · subst e; decide +kernel
    · simp [State.tariff, filed_tariffs, Table.read, e, Tariff.powerOn, Tariff.inRange]
  · cases p <;> unfold Profile.inRange <;> decide +kernel

theorem witness_StepKeepsCounts :
    filed.ledgerAgrees ∧ filed.reservedAgrees ∧ filed.liveCountsAgree ∧ filed.bodiesAgree ∧
    ((holding (page .queued .twoWay none)).endDelivery 12 (page .queued .twoWay none) .cancelled .request).journalConsecutive := by
  obtain ⟨ha, hs, hb, hh, -, -⟩ := page0_fields
  refine ⟨by unfold State.ledgerAgrees; decide +kernel, ⟨by decide +kernel, fun n => ?_⟩, ⟨by decide +kernel, fun n => ?_⟩,
    ⟨by decide +kernel, fun n => ?_⟩, fun i u h => ?_⟩
  · by_cases e : 17 = n
    · simp [State.acct, filed_accounts, filed_live, Table.read, ha, hh, e]
    · simp [State.acct, filed_accounts, filed_live, Table.read, ha, e, Account.closed]
  · by_cases e : 305 = n
    · simp [State.sub, filed_subs, filed_live, Table.read, hs, e, unit305]
    · simp [State.sub, filed_subs, filed_live, Table.read, hs, e, Subscriber.unassigned]
  · by_cases e : 0 = n
    · simp [State.body, filed_bodies, filed_live, Table.read, hb, e]
    · simp [State.body, filed_bodies, filed_live, Table.read, hb, e, Body.free]
  · have r : ((holding (page .queued .twoWay none)).endDelivery 12 (page .queued .twoWay none) .cancelled .request).jnl =
        { running.jnl with
          records := [(holding (page .queued .twoWay none)).usageOf 12 (page .queued .twoWay none) .cancelled .request],
          sequence := 1 } := by decide +kernel
    rw [r] at h ⊢
    match i, h with
    | 0, h => simp at h; subst h; decide +kernel

theorem witness_StepKeepsCalendar : filed.calendarAgrees := by
  obtain ⟨-, -, -, -, hd, hw⟩ := page0_fields
  intro k
  by_cases e : 50 = k
  · subst e
    refine ⟨by decide +kernel, fun n => ?_⟩
    have l : filed.calList 50 = [0] := by decide +kernel
    by_cases z : 0 = n
    · subst z
      simp only [l, List.mem_singleton, true_iff]
      exact ⟨page0, by decide +kernel, hw, hd⟩
    · simp [l, State.live, State.record, filed_records, Table.read, z, Ne.symm z, DeliveryRecord.fresh]
  · have l : filed.calList k = [] := by simp [State.calList, filed_calendar, Table.read, e]
    refine ⟨by simp [l], fun n => ?_⟩
    by_cases z : 0 = n
    · subst z
      have live : filed.live 0 = some page0 := by decide +kernel
      simp [l, live, hd, e]
    · simp [l, State.live, State.record, filed_records, Table.read, z, DeliveryRecord.fresh]

/-- The lists and the counts of a state agree while a TRAFFIC RESET waits in its link. -/
theorem witness_TrafficResetEndsEveryDelivery_agrees :
    filed.calendarAgrees ∧ filed.bodiesAgree ∧ Table.wf .fresh filed.dlv.records = true :=
  ⟨witness_StepKeepsCalendar, witness_StepKeepsCounts.2.2.2.1, by decide +kernel⟩

theorem witness_StepKeepsPlansAndImages : onAir.plansInRange ∧ onAir.plansDisjoint ∧ onAir.imagesFit := by
  have records : onAir.dlv.records = [] := by decide +kernel
  have images : onAir.bld.images = [(0, { GroupImages.powerOn with current := some image0, next := some image0 })] := by
    decide +kernel
  refine ⟨witness_BuildPointMakesPlans.2.2, fun g _ h _ ne p q => ?_, fun n d hd => ?_, fun g i hi => ?_⟩
  · by_cases zg : g = 0
    · have zh : h ≠ 0 := fun e => ne (zg.trans e.symm)
      simp [group_on_air h zh, Group.powerOn]
    · simp [group_on_air g zg, Group.powerOn]
  · simp [State.live, State.record, records, Table.read, DeliveryRecord.fresh] at hd
  · by_cases z : 0 = g
    · subst z
      have e : i = image0 := by
        simpa [State.images, images, Table.read, eq_comm] using hi
      subst e; decide
    · simp [State.images, images, Table.read, z, GroupImages.powerOn] at hi

end Sys2Proof.Tests
end

section
/-! PROOFS. What a command can do to the tables that stand between steps: every step is a run of moves, each of one of
eleven shapes. An invariant of those tables is kept by every step once each shape keeps it. -/

namespace Sys2Proof.Machine

/-! ### The standing tables -/

/-- The tables that the directory, funds and count invariants speak of (chapters 1 to 4 and 9). -/
structure Standing where
  dir : Directory
  act : AccountUnit
  bodies : Table Body
  records : Table DeliveryRecord
  sequence : Serial
  usage : List UsageRecord
  reservation : Nat
  usageSequence : Serial

def State.standing (s : State) : Standing :=
  { dir := s.dir, act := s.act, bodies := s.txt.bodies, records := s.dlv.records, sequence := s.dlv.sequence,
    usage := s.jnl.records, reservation := s.jnl.reservation, usageSequence := s.jnl.sequence }

/-- The settings of a subscriber record lie in their ranges (R2, R8). -/
def Subscriber.inRange (u : Subscriber) : Prop :=
  intervalDefined u.interval = true ∧ u.home ≠ 0 ∧ groupSubset u.home u.coverage = true ∧ u.account < 2048 ∧ u.trim ≤ 255

/-- The balance and the credit limit of an account lie in their ranges (R20). -/
def Account.inRange (a : Account) : Prop := -8388608 ≤ a.balance ∧ a.balance ≤ 8388607 ∧ a.credit ≤ 8388607

/-- Two records of a delivery agree in what it is counted and charged under; no event changes these from intake to
settlement (R53). -/
structure Delivery.SameTies (d e : Delivery) : Prop where
  subscriber : d.subscriber = e.subscriber
  account : d.account = e.account
  body : d.body = e.body
  hold : d.hold = e.hold

theorem Delivery.SameTies.refl (d : Delivery) : d.SameTies d := ⟨rfl, rfl, rfl, rfl⟩

/-- One move of the standing tables. -/
inductive Move : State → State → Prop
  /-- Nothing but clock, zones, images, maps, calendar, blocks and link changes. -/
  | frame {s t : State} (same : t.standing = s.standing) : Move s t
  /-- The tables return to power-on (R190, R191). -/
  | reset {s t : State} (same : t.standing = State.reset.standing) : Move s t
  /-- A subscriber record takes a report (R15, R17). -/
  | report (s : State) (n : Nat) (u : Subscriber)
      (only : u = { s.sub n with heard := u.heard, checkIns := u.checkIns, receipts := u.receipts }) : Move s (s.setSub n u)
  /-- A record in use is suspended or resumed (R11). -/
  | service (s : State) (n : Nat) (x : Service) (used : (s.sub n).inUse = true) (stays : x ≠ .unassigned) :
      Move s (s.setSub n { s.sub n with service := x })
  /-- A record is brought into use, with its map entry (R8). -/
  | assign (s : State) (n : Nat) (u : Subscriber) (free : (s.sub n).inUse = false) (used : u.inUse = true)
      (range : u.inRange) (nonzero : u.address ≠ 0) (unbound : s.lookup u.address = none) (idle : u.live = 0) :
      Move s ((s.setSub n u).bindAddress u.address (some n))
  /-- A record is taken out of use, with its map entry (R12). -/
  | release (s : State) (n : Nat) (used : (s.sub n).inUse = true) (idle : (s.sub n).live = 0) :
      Move s ((s.setSub n .unassigned).bindAddress (s.sub n).address none)
  /-- The settings of a record in use change, and the map follows its address (R9, R10). -/
  | modify (s : State) (n : Nat) (new : Subscriber) (used : (s.sub n).inUse = true)
      (service : new.service = (s.sub n).service) (live : new.live = (s.sub n).live)
      (range : (s.sub n).inRange → new.inRange)
      (unbound : new.address ≠ (s.sub n).address → new.address ≠ 0 ∧ s.lookup new.address = none) :
      Move s (s.rekey n (s.sub n) new)
  /-- An account is written, its reserved amount apart (chapter 2). -/
  | account (s : State) (n : Nat) (a : Account) (reserved : a.reserved = (s.acct n).reserved)
      (range : (s.acct n).inRange → a.inRange) : Move s (s.setAcct n a)
  /-- A tariff entry is loaded (R32). -/
  | tariff (s : State) (k : Nat) (e : Tariff) (range : e.inRange = true) : Move s (s.setTariff k e)
  /-- A priority profile is set (R35). -/
  | profile (s : State) (p : Priority) (f : Profile) (range : f.inRange) : Move s (s.setProfile p f)
  /-- A submission that passed its checks is accepted (R52, R61). -/
  | accept (s : State) (n : Nat) (x : Submission) (body : Option Nat)
      (checked : s.intakeCheck n x body.isSome = none) (held : ∀ b, body = some b → (s.body b).inUse = true) :
      Move s (s.accept n x body).state
  /-- A live delivery is rewritten. -/
  | rewrite (s : State) (n : Nat) (d e : Delivery) (live : s.live n = some d) (ties : d.SameTies e) :
      Move s (s.setLive n e)
  /-- A live delivery is settled (R164). -/
  | settle (s : State) (n : Nat) (d e : Delivery) (x : Ending) (r : Reason) (live : s.live n = some d)
      (ties : d.SameTies e) : Move s (s.settle n e x r)
  /-- The oldest usage records are taken (R172). -/
  | takeUsage (s : State) (k : Nat) : Move s (s.withJnl { s.jnl with records := s.jnl.records.drop k })

/-- A run of moves. -/
abbrev Moves : State → State → Prop := Relation.ReflTransGen Move

namespace Moves

variable {s t u : State}

theorem one (h : Move s t) : Moves s t := .single h

theorem trans (h : Moves s t) (g : Moves t u) : Moves s u := Relation.ReflTransGen.trans h g

theorem of_same (h : t.standing = s.standing) : Moves s t := one (.frame h)

/-- A predicate that every move keeps, a run keeps. -/
theorem keep {P : State → Prop} (moves : ∀ s t, Move s t → P s → P t) (h : Moves s t) (hp : P s) : P t := by
  induction h with
  | refl => exact hp
  | tail _ m ih => exact moves _ _ m ih

theorem foldl {α : Type} {f : State → α → State} (h : ∀ s a, Moves s (f s a)) (l : List α) (s : State) :
    Moves s (l.foldl f s) := by
  induction l generalizing s with
  | nil => exact .refl
  | cons a l ih => exact (h s a).trans (ih _)

end Moves

/-! ### Intake and settlement, table by table -/

namespace State

variable (s : State)

@[simp] theorem enroll_txt (n : Nat) (d : Delivery) : (s.enroll n d).txt = s.txt := rfl
@[simp] theorem enroll_body (n : Nat) (d : Delivery) (m : Nat) : (s.enroll n d).body m = s.body m := rfl
@[simp] theorem enroll_lookup (n : Nat) (d : Delivery) (a : Word) : (s.enroll n d).lookup a = s.lookup a := rfl
@[simp] theorem enroll_tariff (n : Nat) (d : Delivery) (k : Nat) : (s.enroll n d).tariff k = s.tariff k := rfl
@[simp] theorem enroll_profile (n : Nat) (d : Delivery) (p : Priority) : (s.enroll n d).profile p = s.profile p := by
  cases p <;> rfl
theorem enroll_acct (n : Nat) (d : Delivery) (m : Nat) :
    (s.enroll n d).acct m =
      if m = d.account then { s.acct m with reserved := (s.acct m).reserved + d.hold } else s.acct m := by
  by_cases h : m = d.account
  · subst h; rw [if_pos rfl]; exact acct_setAcct_same ..
  · rw [if_neg h]; exact acct_setAcct_other _ h _
theorem enroll_sub (n : Nat) (d : Delivery) (m : Nat) :
    (s.enroll n d).sub m = if m = d.subscriber then { s.sub m with live := (s.sub m).live + 1 } else s.sub m := by
  by_cases h : m = d.subscriber
  · subst h; rw [if_pos rfl]; exact sub_setSub_same ..
  · rw [if_neg h]; exact sub_setSub_other _ h _
theorem enroll_records (n : Nat) (d : Delivery) :
    (s.enroll n d).dlv.records =
      Table.put .fresh (Table.put .fresh s.dlv.records n { issue := (s.record n).issue + 1, live := none }) n
        { issue := (s.record n).issue + 1, live := some d } := by
  let taken := s.setRecord n { issue := (s.record n).issue + 1, live := none }
  calc
    _ = Table.put .fresh taken.dlv.records n { issue := (taken.record n).issue, live := some d } := rfl
    _ = _ := by rw [show taken.record n = _ from record_setRecord_same ..]; rfl
@[simp] theorem enroll_sequence (n : Nat) (d : Delivery) : (s.enroll n d).dlv.sequence = s.dlv.sequence + 1 := rfl
@[simp] theorem enroll_jnl (n : Nat) (d : Delivery) :
    (s.enroll n d).jnl = { s.jnl with reservation := s.jnl.reservation + 1 } := rfl

theorem body_shareBody (n m : Nat) :
    (s.shareBody n).body m = if m = n then { s.body n with refs := (s.body n).refs + 1 } else s.body m := body_setBody ..

@[simp] theorem takeBody_dir (x : Submission) (o : Option Nat) : (s.takeBody x o).1.dir = s.dir := by
  cases o <;> simp [takeBody]
@[simp] theorem takeBody_act (x : Submission) (o : Option Nat) : (s.takeBody x o).1.act = s.act := by
  cases o <;> simp [takeBody]
@[simp] theorem takeBody_dlv (x : Submission) (o : Option Nat) : (s.takeBody x o).1.dlv = s.dlv := by
  cases o <;> simp [takeBody]
@[simp] theorem takeBody_jnl (x : Submission) (o : Option Nat) : (s.takeBody x o).1.jnl = s.jnl := by
  cases o <;> simp [takeBody]

theorem accept_sub (n : Nat) (x : Submission) (o : Option Nat) (m : Nat) :
    (s.accept n x o).state.sub m = if m = n then { s.sub m with live := (s.sub m).live + 1 } else s.sub m := by
  have sub : (s.takeBody x o).1.sub m = s.sub m := by simp [State.sub]
  exact (enroll_sub ..).trans (by rw [sub]; rfl)
@[simp] theorem accept_lookup (n : Nat) (x : Submission) (o : Option Nat) (a : Word) :
    (s.accept n x o).state.lookup a = s.lookup a :=
  (enroll_lookup ..).trans (by simp [lookup])
theorem accept_acct (n : Nat) (x : Submission) (o : Option Nat) (m : Nat) :
    (s.accept n x o).state.acct m =
      if m = (s.sub n).account then { s.acct m with reserved := (s.acct m).reserved + s.holdFor (s.sub n) x }
      else s.acct m := by
  have acct : (s.takeBody x o).1.acct m = s.acct m := by simp [State.acct]
  exact (enroll_acct ..).trans (by rw [acct]; rfl)
@[simp] theorem accept_tariff (n : Nat) (x : Submission) (o : Option Nat) (k : Nat) :
    (s.accept n x o).state.tariff k = s.tariff k := (enroll_tariff ..).trans (by simp [tariff])
@[simp] theorem accept_profile (n : Nat) (x : Submission) (o : Option Nat) (p : Priority) :
    (s.accept n x o).state.profile p = s.profile p := (enroll_profile ..).trans (by cases p <;> simp [profile])

@[simp] theorem settle_lookup (n : Nat) (d : Delivery) (e : Ending) (r : Reason) (a : Word) :
    (s.settle n d e r).lookup a = s.lookup a := by
  unfold lookup; simp [settle, lowerLive, setSub]
theorem settle_act (n : Nat) (d : Delivery) (e : Ending) (r : Reason) :
    (s.settle n d e r).act = (s.setAcct d.account ((s.acct d.account).settle (s.usageOf n d e r).charge d.hold)).act := by
  simp [settle]
theorem settle_acct (n : Nat) (d : Delivery) (e : Ending) (r : Reason) (m : Nat) :
    (s.settle n d e r).acct m =
      if m = d.account then (s.acct m).settle (s.usageOf n d e r).charge d.hold else s.acct m := by
  rw [acct, settle_act]
  exact (acct_setAcct ..).trans (by split <;> simp_all)
@[simp] theorem settle_tariff (n : Nat) (d : Delivery) (e : Ending) (r : Reason) (k : Nat) :
    (s.settle n d e r).tariff k = s.tariff k := by
  rw [tariff, settle_act]; rfl
@[simp] theorem settle_profile (n : Nat) (d : Delivery) (e : Ending) (r : Reason) (p : Priority) :
    (s.settle n d e r).profile p = s.profile p := by
  cases p <;> simp only [profile, settle_act] <;> rfl
theorem settle_sub (n : Nat) (d : Delivery) (e : Ending) (r : Reason) (m : Nat) :
    (s.settle n d e r).sub m =
      if m = d.subscriber then { s.sub m with live := (s.sub m).live - 1 } else s.sub m := by
  have h : (s.settle n d e r).dir = (s.lowerLive d.subscriber).dir := by simp [settle, lowerLive, sub, setSub]
  rw [sub, h]
  exact (sub_setSub ..).trans (by split <;> simp_all)
theorem settle_body (n : Nat) (d : Delivery) (e : Ending) (r : Reason) (m : Nat) :
    (s.settle n d e r).body m = (s.releaseBody d.body).body m := by
  have reads (t : State) (h : t.txt = s.txt) : (t.releaseBody d.body).body m = (s.releaseBody d.body).body m := by
    have bodies (k : Nat) : t.body k = s.body k := by simp [body, h]
    simp only [body_releaseBody, bodies]
  simp [settle, reads]
theorem settle_records (n : Nat) (d : Delivery) (e : Ending) (r : Reason) :
    (s.settle n d e r).dlv = (s.freeRecord n).dlv := by
  simp [settle, freeRecord, setRecord, record]

end State

/-! ### What leaves the standing tables alone -/

namespace State

variable (s : State)

@[simp] theorem standing_withClk (b : Clock) : (s.withClk b).standing = s.standing := rfl
@[simp] theorem standing_withZon (b : ZoneController) : (s.withZon b).standing = s.standing := rfl
@[simp] theorem standing_withBld (b : Builder) : (s.withBld b).standing = s.standing := rfl
@[simp] theorem standing_withRcp (b : ReceiptUnit) : (s.withRcp b).standing = s.standing := rfl
@[simp] theorem standing_withLnk (b : Link) : (s.withLnk b).standing = s.standing := rfl
@[simp] theorem standing_withPending (q : List Instr) : (s.withPending q).standing = s.standing := rfl
@[simp] theorem standing_setCalList (k : Nat) (l : List Nat) : (s.setCalList k l).standing = s.standing := rfl
@[simp] theorem standing_setZone (z : Nat) (r : Zone) : (s.setZone z r).standing = s.standing := rfl
@[simp] theorem standing_setGroup (g : Nat) (r : Group) : (s.setGroup g r).standing = s.standing := rfl
@[simp] theorem standing_setImages (g : Nat) (r : GroupImages) : (s.setImages g r).standing = s.standing := rfl
@[simp] theorem standing_setMaps (g : Nat) (r : GroupMaps) : (s.setMaps g r).standing = s.standing := rfl
@[simp] theorem standing_setQueue (z : Nat) (q : List ReturnRecord) : (s.setQueue z q).standing = s.standing := rfl
@[simp] theorem standing_setCounters (c : ReceiptCounters) : (s.setCounters c).standing = s.standing := rfl
@[simp] theorem standing_notice (k : Byte) (f : List Byte) : (s.notice k f).standing = s.standing := rfl
@[simp] theorem standing_lineChoice : s.lineChoice.standing = s.standing := rfl
@[simp] theorem standing_taken : s.taken.standing = s.standing := rfl
@[simp] theorem standing_answered (r : LinkRecord) (a : Answer) : (s.answered r a).standing = s.standing := rfl

@[simp] theorem standing_unfile (n : Nat) : (s.unfile n).standing = s.standing := by
  rcases s.unfile_cases n with ⟨d, -, -, h⟩ | ⟨-, h⟩ <;> simp [h]

@[simp] theorem standing_writeSlots (f : Serial) (x : Slot) (l : List (Nat × Nat)) :
    (writeSlots f x s l).standing = s.standing := by
  induction l generalizing s with
  | nil => rfl
  | cons p rest ih => exact (ih _).trans rfl

@[simp] theorem standing_arrival (r : LinkRecord) : (s.arrival r).standing = s.standing := by rw [arrival_eq]; rfl

@[simp] theorem standing_receive (b : Byte) : (s.receive b).standing = s.standing := by rw [receive_eq]; rfl

theorem standing_foldl {α : Type} {f : State → α → State} (h : ∀ s a, (f s a).standing = s.standing) (l : List α) :
    (l.foldl f s).standing = s.standing := by
  induction l generalizing s with
  | nil => rfl
  | cons a l ih => exact (ih _).trans (h s a)

/-! The zone controller. -/

@[simp] theorem standing_flagZone (n : Nat) (z : Zone) (e : BitVec 3) : (s.flagZone n z e).standing = s.standing := by
  unfold flagZone; dsimp only; split <;> rfl

@[simp] theorem standing_followAlarm (n : Nat) (z : Zone) : (s.followAlarm n z).standing = s.standing := by
  unfold followAlarm; dsimp only; split <;> simp

@[simp] theorem standing_takeZoneSettings (n : Nat) : (s.takeZoneSettings n).standing = s.standing := by
  unfold takeZoneSettings; dsimp only
  split
  · split <;> simp
  · rfl

@[simp] theorem standing_takeGroupSettings (g : Nat) : (s.takeGroupSettings g).standing = s.standing := by
  unfold takeGroupSettings; dsimp only; split <;> rfl

@[simp] theorem standing_testService (n : Nat) : (s.testService n).standing = s.standing := by
  unfold testService; dsimp only; split <;> simp

@[simp] theorem standing_makePlan (g : Nat) : (s.makePlan g).standing = s.standing := rfl

@[simp] theorem standing_zoneBuildPoint : s.zoneBuildPoint.standing = s.standing := by
  rw [zoneBuildPoint, standing_foldl _ standing_makePlan, standing_foldl _ standing_testService,
    standing_foldl _ standing_takeGroupSettings, standing_foldl _ standing_takeZoneSettings]

@[simp] theorem standing_keyZone (n : Nat) : (s.keyZone n).standing = s.standing := by
  unfold keyZone; dsimp only; split <;> rfl

@[simp] theorem standing_judgeAt (k n : Nat) : (judgeAt k s n).standing = s.standing := by
  unfold judgeAt judge
  split
  · split
    · dsimp only; split <;> simp
    · rfl
  · rfl

@[simp] theorem standing_offerAt (k n : Nat) : (offerAt k s n).standing = s.standing := by
  unfold offerAt
  split
  · rfl
  · split
    · split <;> simp
    · rfl

/-- A state at a moment of its frame differs in the clock alone. -/
theorem standing_atMoment {q : Nat} {t : State} (h : s.atMoment q = some t) : t.standing = s.standing := by
  unfold atMoment at h
  split at h
  · cases h; rfl
  · cases h

@[simp] theorem standing_startPlan (g : Nat) : (s.startPlan g).standing = s.standing := rfl

@[simp] theorem standing_dropPlans (g : Nat) : (s.dropPlans g).standing = s.standing := rfl

/-! The frame builder and the receipt maps. -/

@[simp] theorem standing_handOverGroup (kept : GroupSet) (g : Nat) : (handOverGroup kept s g).standing = s.standing := rfl

@[simp] theorem standing_moveMaps (kept : GroupSet) (g : Nat) : (moveMaps kept s g).standing = s.standing := rfl

@[simp] theorem standing_dropMaps (g : Nat) : (dropMaps s g).standing = s.standing := rfl

@[simp] theorem standing_emptyMaps (g : Nat) : (emptyMaps s g).standing = s.standing := rfl

@[simp] theorem standing_emptyNext (g : Nat) : (emptyNext s g).standing = s.standing := rfl

@[simp] theorem standing_discardNext (g : Nat) : (discardNext s g).standing = s.standing := rfl

@[simp] theorem standing_openGroup (g : Nat) : (s.openGroup g).standing = s.standing := by
  unfold openGroup
  split
  · rfl
  · split <;> rfl

@[simp] theorem standing_addPage (n : Nat) (d : Delivery) (l : List (Nat × Nat)) (g : Nat) :
    (addPage n d l s g).standing = s.standing := by
  unfold addPage; split <;> rfl

@[simp] theorem standing_completeGroup (g : Nat) : (s.completeGroup g).standing = s.standing := by
  unfold completeGroup; split <;> rfl

end State

end Sys2Proof.Machine
end

section
/-! PROOFS. Every step is a run of moves: the events on deliveries, the requests, and the commands. -/

namespace Sys2Proof.Machine

/-! ### Events on one delivery -/

namespace State

variable {s : State} {n : Nat} {d e : Delivery}

theorem endDelivery_moves (live : s.live n = some d) (x : Ending) (r : Reason)
    (ties : d.SameTies e := by exact ⟨rfl, rfl, rfl, rfl⟩) : Moves s (s.endDelivery n e x r) :=
  (Moves.of_same (s.standing_unfile n)).tail (.settle _ n d e x r (by simpa using live) ties)

theorem setLive_moves (live : s.live n = some d) (ties : d.SameTies e := by exact ⟨rfl, rfl, rfl, rfl⟩) :
    Moves s (s.setLive n e) :=
  .one (.rewrite s n d e live ties)

theorem file_moves (live : s.live n = some d) (ties : d.SameTies e := by exact ⟨rfl, rfl, rfl, rfl⟩) :
    Moves s (s.file n e) :=
  (setLive_moves live ties).tail (.frame (standing_setCalList ..))

theorem refile_moves (live : s.live n = some d) (due : Serial)
    (ties : d.SameTies e := by exact ⟨rfl, rfl, rfl, rfl⟩) : Moves s (s.refile n e due) := by
  unfold refile
  split
  · exact endDelivery_moves live _ _ ties
  · exact (Moves.of_same (s.standing_unfile n)).trans
      (file_moves (d := d) (by simpa using live) ⟨ties.subscriber, ties.account, ties.body, ties.hold⟩)

theorem reverted_sameTies (d : Delivery) : d.SameTies d.reverted := by
  unfold Delivery.reverted; split <;> exact ⟨rfl, rfl, rfl, rfl⟩

/-- The records of deliveries are not the receipt unit's. -/
theorem live_of_standing {t : State} (h : t.standing = s.standing) (m : Nat) : t.live m = s.live m := by
  have hr : t.dlv.records = s.dlv.records := congrArg Standing.records h
  simp [live, record, hr]

/-- The slots of an attempt are written, if there is one. -/
def writeAttempt (s : State) (x : Slot) (o : Option Attempt) : State :=
  match o with
  | some a => writeSlots a.serial x s a.slots
  | none => s

@[simp] theorem standing_writeAttempt (s : State) (x : Slot) (o : Option Attempt) :
    (s.writeAttempt x o).standing = s.standing := by cases o <;> simp [writeAttempt]

theorem revert_eq (s : State) (n : Nat) (d : Delivery) :
    s.revert n d = (s.writeAttempt .empty d.last).refile n d.reverted
      ((s.writeAttempt .empty d.last).nextFor d (s.writeAttempt .empty d.last).clk.earliestUnbuilt) := by
  cases h : d.last <;> simp [revert, writeAttempt, h]

theorem deliver_eq (s : State) (zone : Nat) (m : ReceiptMap) (n : Nat) (d : Delivery) (reply : Nat) (check : Byte) :
    s.deliver zone m n d reply check =
      (((s.writeAttempt (.answered (s.ticket n) check) d.last).setSub d.subscriber
        (((s.writeAttempt (.answered (s.ticket n) check) d.last).sub d.subscriber).answered m.group m.serial)).countDelivered
          zone).endDelivery n (d.answered m.group reply) .delivered .none := by
  cases h : d.last <;> simp [deliver, writeAttempt, h]

theorem revert_moves (live : s.live n = some d) : Moves s (s.revert n d) := by
  have same := s.standing_writeAttempt .empty d.last
  rw [revert_eq]
  exact (Moves.of_same same).trans (refile_moves ((live_of_standing same n).trans live) _ (reverted_sameTies d))

theorem report_only (u : Subscriber) (g : Nat) (x : Serial) : u.report g x = { u with heard := (u.report g x).heard } := by
  unfold Subscriber.report
  split
  · rfl
  · split <;> rfl

theorem answered_only (u : Subscriber) (g : Nat) (x : Serial) :
    u.answered g x = { u with heard := (u.answered g x).heard, receipts := (u.answered g x).receipts } := by
  unfold Subscriber.answered; dsimp only; rw [report_only]

theorem checkedIn_only (u : Subscriber) (x : Serial) (o : Option Nat) :
    u.checkedIn x o = { u with heard := (u.checkedIn x o).heard, checkIns := (u.checkedIn x o).checkIns } := by
  unfold Subscriber.checkedIn; dsimp only
  split
  · rw [report_only]
  · rfl

theorem answered_moves (s : State) (n g : Nat) (x : Serial) : Moves s (s.setSub n ((s.sub n).answered g x)) :=
  .one (.report s n _ (by rw [answered_only]))

theorem checkedIn_moves (s : State) (n : Nat) (x : Serial) (o : Option Nat) :
    Moves s (s.setSub n ((s.sub n).checkedIn x o)) :=
  .one (.report s n _ (by rw [checkedIn_only]))

/-! ### The walk of a build -/

theorem place_moves (live : s.live n = some d) (x : Serial) (cand : GroupSet) : Moves s (s.place n d x cand) := by
  unfold place; dsimp only
  have same := s.standing_foldl (f := addPage n d (s.slotsFor d cand)) (fun t g => t.standing_addPage ..) (members 4 cand)
  refine (Moves.of_same ?_).trans (setLive_moves (d := d) ?_)
  · simpa using same
  · rw [unfile_live, live_of_standing (standing_writeSlots ..), live_of_standing same]; exact live

theorem tryPlace_moves (live : s.live n = some d) (x : Serial) : Moves s (s.tryPlace n d x) := by
  unfold tryPlace; dsimp only
  split
  · exact place_moves live ..
  · exact refile_moves live _

theorem visit_moves (x : Serial) (s : State) (n : Nat) : Moves s (visit x s n) := by
  unfold visit
  split
  · exact .refl
  · rename_i d live
    split
    · exact .refl
    split
    · exact endDelivery_moves live ..
    split
    · exact tryPlace_moves live x
    · exact refile_moves live _

theorem build_moves (s : State) (x : Serial) : Moves s (s.build x) := by
  unfold build; dsimp only
  have opened : Moves s (groupNumbers.foldl openGroup s) := .of_same (s.standing_foldl standing_openGroup _)
  have walked := Moves.foldl (visit_moves x) ((groupNumbers.foldl openGroup s).calList (frameNumber x))
    (groupNumbers.foldl openGroup s)
  exact (opened.trans walked).trans (.of_same (standing_foldl _ standing_completeGroup _))

theorem buildPointEvent_moves (s : State) : Moves s s.buildPointEvent := by
  unfold buildPointEvent; dsimp only
  split
  · exact (Moves.of_same s.standing_zoneBuildPoint).trans (build_moves ..)
  · exact Moves.of_same s.standing_zoneBuildPoint

/-! ### The boundary -/

theorem launchOne_moves (kept : GroupSet) (s : State) (n : Nat) : Moves s (launchOne kept s n) := by
  unfold launchOne
  split
  · exact .refl
  · rename_i d live
    split
    · split
      · exact revert_moves live
      · exact setLive_moves live
    · exact .refl

theorem endFrameOne_moves (s : State) (n : Nat) : Moves s (endFrameOne s n) := by
  unfold endFrameOne
  split
  · exact .refl
  · rename_i d live
    split
    · split
      · exact setLive_moves live
      · dsimp only
        split
        · exact endDelivery_moves live ..
        · exact refile_moves live _
    · exact .refl

theorem resolveOne_moves (s : State) (n : Nat) : Moves s (resolveOne s n) := by
  unfold resolveOne
  split
  · exact .refl
  · rename_i d live
    have counted : Moves s s.countMiss := .of_same rfl
    have live' : s.countMiss.live n = some d := live
    have countExpired (t : State) : Moves t t.countExpired := .of_same rfl
    split
    · dsimp only
      split
      · exact (counted.trans (endDelivery_moves live' ..)).trans (countExpired _)
      · rename_i a _ _ _
        have refiled (due : Serial) : Moves s (s.countMiss.refile n (d.afterMiss a) due) :=
          counted.trans (refile_moves live' due)
        split
        · exact (refiled _).trans (countExpired _)
        · split
          · exact (refiled _).trans (.of_same rfl)
          · exact refiled _
    · exact .refl

theorem endingStep_moves (w : BoundaryWork) (s : State) (g : EndingGroup) : Moves s (endingStep w s g) := by
  cases g
  · exact Moves.foldl endFrameOne_moves ..
  · exact Moves.foldl resolveOne_moves ..
  · exact Moves.foldl (launchOne_moves _) ..

theorem boundaryEvent_moves (s : State) (order : EndingOrder) : Moves s (s.boundaryEvent order) := by
  unfold boundaryEvent; dsimp only
  refine Moves.trans (Moves.of_same ?_) ((Moves.foldl (endingStep_moves _) _ _).trans
    (Moves.of_same (standing_foldl _ (fun s => s.standing_moveMaps _) _)))
  rw [standing_withBld, standing_foldl _ (fun s => s.standing_handOverGroup _), standing_foldl _ standing_keyZone,
    standing_foldl _ standing_startPlan]

/-! ### Return records -/

theorem named_live {t : Ticket} (h : s.named t = some d) : s.live t.number = some d := by
  unfold named at h
  split at h
  · exact h
  · cases h

theorem deliver_moves (live : s.live n = some d) (zone : Nat) (m : ReceiptMap) (reply : Nat) (check : Byte) :
    Moves s (s.deliver zone m n d reply check) := by
  rw [deliver_eq]
  have same := s.standing_writeAttempt (.answered (s.ticket n) check) d.last
  generalize s.writeAttempt (.answered (s.ticket n) check) d.last = t at same ⊢
  have live' : t.live n = some d := (live_of_standing same n).trans live
  have reported : Moves s (t.setSub d.subscriber ((t.sub d.subscriber).answered m.group m.serial)) :=
    (Moves.of_same same).trans (answered_moves ..)
  have counted (t : State) : Moves t (t.countDelivered zone) := .of_same rfl
  exact (reported.trans (counted _)).trans (endDelivery_moves (d := d) (by simpa [countDelivered] using live') ..)

/-- A receipt judged DELIVERED names a live delivery. -/
theorem live_of_judged {zone frame slot : Nat} {check : Byte} {m : ReceiptMap}
    (judged : s.judgeReceipt zone frame slot check = .delivered m n d) : s.live n = some d := by
  unfold judgeReceipt at judged
  split at judged
  · cases judged
  split at judged
  · split at judged
    · cases judged
    · split at judged <;> cases judged
    · split at judged
      · cases judged
      · split at judged
        · cases judged; exact named_live ‹_›
        · cases judged
  · cases judged

theorem takeReceipt_moves (s : State) (zone frame slot reply : Nat) (check : Byte) :
    Moves s (s.takeReceipt zone frame slot reply check) := by
  unfold takeReceipt
  split
  · exact .of_same rfl
  · exact .of_same rfl
  · exact .of_same rfl
  · rename_i m n d judged
    exact deliver_moves (live_of_judged judged) ..

theorem checkInOne_moves (k : Nat) (s : State) (n : Nat) : Moves s (checkInOne k s n) := by
  unfold checkInOne
  split
  · exact .refl
  · rename_i d live
    split
    · split
      · exact refile_moves live _
      · exact setLive_moves live
      · exact setLive_moves live
      · exact .refl
      · exact .refl
    · exact .refl

theorem takeCheckIn_moves (s : State) (zone : Nat) (a : Word) (x : Serial) (g : Option Nat) :
    Moves s (s.takeCheckIn zone a x g) := by
  unfold takeCheckIn; dsimp only
  split
  · exact .of_same rfl
  · rename_i n _
    have counted (z : Zone) : Moves s (s.setZone zone z).countKnown := .of_same rfl
    exact ((counted _).trans (checkedIn_moves _ n x g)).trans (Moves.foldl (checkInOne_moves _) ..)

/-! ### Ends of many deliveries -/

theorem revertOne_moves (s : State) (n : Nat) : Moves s (revertOne s n) := by
  unfold revertOne
  split
  · split
    · exact revert_moves ‹_›
    · exact .refl
  · exact .refl

theorem cancelOne_moves (s : State) (n : Nat) : Moves s (cancelOne s n) := by
  unfold cancelOne
  split
  · exact endDelivery_moves ‹_› ..
  · exact .refl

end State

end Sys2Proof.Machine
end

section
/-! PROOFS. Every step is a run of moves: what each request serves, and each command. -/

namespace Sys2Proof.Machine

/-! ### The requests of the unit directory -/

theorem State.raiseLinks_moves (s : State) (n : Nat) : Moves s (s.raiseLinks n) := .one (.account s n _ rfl id)

theorem State.lowerLinks_moves (s : State) (n : Nat) : Moves s (s.lowerLinks n) := .one (.account s n _ rfl id)

theorem get1_lt (p : List Byte) (i : Nat) : get1 p i < 256 := (p.getD i 0).isLt

theorem get2_lt (p : List Byte) (i : Nat) : get2 p i < 65536 := by
  have := get1_lt p i
  have := get1_lt p (i + 1)
  unfold get2; omega

/-- A two-byte number that is not 0 is an address that is not 0. -/
theorem ofNat16_ne_zero {n : Nat} (lt : n < 65536) (h : n ≠ 0) : BitVec.ofNat 16 n ≠ 0 := by
  intro e
  have : n % 65536 = 0 := by simpa using congrArg BitVec.toNat e
  omega

/-- What the settings of an ASSIGN SUBSCRIBER payload are, once they pass check 3 of R8. -/
theorem assignSettings_some {p : List Byte} {u : Subscriber} (h : assignSettings p = some u) :
    u.inUse = true ∧ u.address ≠ 0 ∧ u.live = 0 ∧ (u.account < 2048 → u.inRange) := by
  unfold assignSettings at h
  split at h
  · split at h
    · rename_i home coverage _ _ _ checked
      obtain ⟨nonzero, interval, homeSet, subset⟩ := checked
      cases h
      exact ⟨rfl, ofNat16_ne_zero (get2_lt ..) nonzero, rfl,
        fun account => ⟨interval, homeSet, subset, account, Nat.le_of_lt_succ (get1_lt ..)⟩⟩
    · cases h
  · cases h

theorem serveAssignSubscriber_moves (p : List Byte) (s : State) : Moves s (serveAssignSubscriber p s).1 := by
  unfold serveAssignSubscriber
  split
  · exact .refl
  split
  · exact .refl
  split
  · exact .refl
  rename_i u settings
  obtain ⟨used, nonzero, idle, range⟩ := assignSettings_some settings
  split
  · exact .refl
  split
  · exact .refl
  split
  · exact .refl
  split
  · exact .refl
  rename_i free account _ unbound
  exact (Moves.one (.assign s _ u (by simpa using free) used (range (by simp only [not_or, Nat.not_le] at account; exact account.1)) nonzero
    (by simpa using unbound) idle)).trans (State.raiseLinks_moves ..)

/-- What a record with the settings that MODIFY SUBSCRIBER names is, once they pass check 3 of R9. -/
theorem modifiedSettings_some {p : List Byte} {u new : Subscriber} (h : modifiedSettings p u = some new) :
    new.service = u.service ∧ new.live = u.live ∧ (new.address ≠ u.address → new.address ≠ 0) ∧
    (u.inRange → (new.account ≠ u.account → new.account < 2048) → new.inRange) := by
  unfold modifiedSettings at h
  dsimp only at h
  split at h
  · split at h
    · rename_i pager home coverage _ _ _ checked
      obtain ⟨address, interval, homeSet, subset⟩ := checked
      cases h
      refine ⟨rfl, rfl, fun moved => ?_, fun old account => ?_⟩
      · dsimp only at moved ⊢
        split at moved
        · rw [if_pos ‹_›]; exact ofNat16_ne_zero (get2_lt ..) (address ‹_›)
        · exact absurd rfl moved
      · obtain ⟨oldInterval, -, -, oldAccount, oldTrim⟩ := old
        refine ⟨?_, homeSet, subset, ?_, ?_⟩ <;> dsimp only at account ⊢
        · split
          · exact interval ‹_›
          · exact oldInterval
        · by_cases same : (if namesSetting p 5 = true then get2 p 9 else u.account) = u.account
          · rw [same]; exact oldAccount
          · exact account same
        · have := get1_lt p 11
          split <;> omega
    · cases h
  · cases h

theorem State.relink_moves (s : State) (old new : Nat) : Moves s (s.relink old new) := by
  unfold relink
  split
  · exact .refl
  · exact (lowerLinks_moves ..).trans (raiseLinks_moves ..)

theorem serveModifySubscriber_moves (p : List Byte) (s : State) : Moves s (serveModifySubscriber p s).1 := by
  unfold serveModifySubscriber
  split
  · exact .refl
  split
  · exact .refl
  dsimp only
  split
  · exact .refl
  rename_i new settings
  obtain ⟨service, live, nonzero, range⟩ := modifiedSettings_some settings
  split
  · exact .refl
  split
  · exact .refl
  split
  · exact .refl
  split
  · exact .refl
  split
  · exact .refl
  rename_i used _ unbound account _
  refine (Moves.one (.modify s _ new (by simpa using used) service live (fun old => range old fun moved => ?_)
    fun moved => ⟨nonzero moved, ?_⟩)).trans (State.relink_moves ..)
  · simp only [moved, ne_eq, not_false_eq_true, true_and, not_or] at account
    exact Nat.lt_of_not_le account.1
  · simpa [moved] using unbound

theorem inUse_iff (u : Subscriber) : u.inUse = true ↔ u.service ≠ .unassigned := by simp [Subscriber.inUse]

theorem serveSuspend_moves (p : List Byte) (s : State) : Moves s (serveSuspend p s).1 := by
  unfold serveSuspend
  split
  · exact .refl
  split
  · exact .refl
  split
  · rename_i active
    exact .one (.service s _ .suspended (by simp [inUse_iff, active]) (by decide))
  · exact .refl

theorem serveResume_moves (p : List Byte) (s : State) : Moves s (serveResume p s).1 := by
  unfold serveResume
  split
  · exact .refl
  split
  · exact .refl
  split
  · rename_i suspended
    exact .one (.service s _ .active (by simp [inUse_iff, suspended]) (by decide))
  · exact .refl

theorem serveRelease_moves (p : List Byte) (s : State) : Moves s (serveRelease p s).1 := by
  unfold serveRelease
  split
  · exact .refl
  split
  · exact .refl
  dsimp only
  split
  · exact .refl
  split
  · exact .refl
  rename_i used idle
  exact (Moves.one (.release s _ (by simpa using used) (by omega))).trans (State.lowerLinks_moves ..)

/-! ### The requests of the account unit -/

theorem serveOpenAccount_moves (p : List Byte) (s : State) : Moves s (serveOpenAccount p s).1 := by
  unfold serveOpenAccount
  split
  · exact .refl
  split
  · exact .refl
  split
  · exact .refl
  split
  · exact .refl
  rename_i range _
  refine .one (.account s _ _ rfl fun _ => ?_)
  simp only [not_or, balanceInRange, Bool.not_eq_false, Bool.and_eq_true, decide_eq_true_eq] at range
  exact ⟨range.2.1, range.2.2, Nat.min_le_right ..⟩

theorem clampBalance_range (b : Int) : -8388608 ≤ clampBalance b ∧ clampBalance b ≤ 8388607 := by
  unfold clampBalance Config.balanceMin Config.balanceMax; omega

theorem serveAdjustAccount_moves (p : List Byte) (s : State) : Moves s (serveAdjustAccount p s).1 := by
  unfold serveAdjustAccount
  split
  · exact .refl
  split
  · exact .refl
  split
  · exact .refl
  exact .one (.account s _ _ rfl fun old => ⟨(clampBalance_range _).1, (clampBalance_range _).2, old.2.2⟩)

theorem serveSetCredit_moves (p : List Byte) (s : State) : Moves s (serveSetCredit p s).1 := by
  unfold serveSetCredit
  split
  · exact .refl
  split
  · exact .refl
  split
  · exact .refl
  exact .one (.account s _ _ rfl fun old => ⟨old.1, old.2.1, Nat.min_le_right ..⟩)

theorem serveSetTariffClass_moves (p : List Byte) (s : State) : Moves s (serveSetTariffClass p s).1 := by
  unfold serveSetTariffClass
  split
  · exact .refl
  split
  · exact .refl
  split
  · exact .refl
  split
  · exact .refl
  exact .one (.account s _ _ rfl id)

theorem serveLock_moves (p : List Byte) (s : State) : Moves s (serveLock p s).1 := by
  unfold serveLock
  split
  · exact .refl
  split
  · exact .refl
  split
  · exact .one (.account s _ _ rfl id)
  · exact .refl

theorem serveUnlock_moves (p : List Byte) (s : State) : Moves s (serveUnlock p s).1 := by
  unfold serveUnlock
  split
  · exact .refl
  split
  · exact .refl
  split
  · exact .one (.account s _ _ rfl id)
  · exact .refl

theorem serveClose_moves (p : List Byte) (s : State) : Moves s (serveClose p s).1 := by
  unfold serveClose
  split
  · exact .refl
  split
  · exact .refl
  dsimp only
  split
  · exact .refl
  split
  · exact .refl
  rename_i idle
  refine .one (.account s _ .closed ?_ fun _ => ⟨by decide, by decide, by decide⟩)
  simp only [not_or, Nat.not_lt, Nat.le_zero_eq] at idle
  exact idle.2.symm

theorem serveLoadTariff_moves (p : List Byte) (s : State) : Moves s (serveLoadTariff p s).1 := by
  unfold serveLoadTariff
  split
  · exact .refl
  split
  · exact .refl
  split
  · exact .refl
  rename_i range
  exact .one (.tariff s _ _ (by simpa using range))

theorem Profile.clamp_inRange (f : Profile) : f.clamp.inRange := by
  unfold inRange clamp; dsimp only; omega

theorem serveSetPriorityProfile_moves (p : List Byte) (s : State) : Moves s (serveSetPriorityProfile p s).1 := by
  unfold serveSetPriorityProfile
  split
  · exact .refl
  split
  · exact .refl
  exact .one (.profile s _ _ (Profile.clamp_inRange _))

/-! ### Submissions -/

theorem serveSubmitPage_moves (p : List Byte) (s : State) : Moves s (serveSubmitPage p s).1 := by
  unfold serveSubmitPage
  split
  · exact .refl
  split
  · exact .refl
  exact .one (.accept s _ _ none ‹_› nofun)

/-- The body of an accepted submission is in use. -/
theorem State.accept_body_inUse (s : State) (n : Nat) (x : Submission) (body : Option Nat)
    (held : ∀ b, body = some b → (s.body b).inUse = true) :
    ((s.accept n x body).state.body (s.accept n x body).body).inUse = true := by
  cases body with
  | none => simp [accept, takeBody, body_createBody]
  | some b => simpa [accept, takeBody, body_shareBody] using held b rfl

theorem takeMember_of_refused {x : Submission} {g : GroupProgress} {n : Nat} {status : Status}
    (h : g.state.intakeCheck n x g.body.isSome = some status) :
    takeMember x g n = { g with entries := g.entries ++ num1 status.code ++ zeros 9 } := by simp [takeMember, h]

theorem takeMember_of_passed {x : Submission} {g : GroupProgress} {n : Nat}
    (h : g.state.intakeCheck n x g.body.isSome = none) :
    takeMember x g n =
      { state := (g.state.accept n x g.body).state, body := some (g.state.accept n x g.body).body,
        accepted := g.accepted + 1,
        entries := g.entries ++ num1 Status.ok.code ++ (g.state.accept n x g.body).bytes } := by simp [takeMember, h]

/-- The members of a group page are accepted one after another; a body that exists is in use (R61). -/
theorem takeMembers_moves (x : Submission) (l : List Nat) (g : GroupProgress)
    (held : ∀ b, g.body = some b → (g.state.body b).inUse = true) : Moves g.state (l.foldl (takeMember x) g).state := by
  induction l generalizing g with
  | nil => exact .refl
  | cons n l ih =>
    rw [List.foldl_cons]
    cases checked : g.state.intakeCheck n x g.body.isSome with
    | some status =>
      rw [takeMember_of_refused checked]
      exact ih { g with entries := g.entries ++ num1 status.code ++ zeros 9 } held
    | none =>
      rw [takeMember_of_passed checked]
      have accepted : Moves g.state (g.state.accept n x g.body).state := .one (.accept g.state n x g.body checked held)
      have inUse := g.state.accept_body_inUse n x g.body held
      exact accepted.trans (ih
        { state := (g.state.accept n x g.body).state, body := some (g.state.accept n x g.body).body, .. }
        fun b e => Option.some.inj e ▸ inUse)

theorem serveSubmitGroupPage_moves (p : List Byte) (s : State) : Moves s (serveSubmitGroupPage p s).1 := by
  unfold serveSubmitGroupPage
  split
  · exact .refl
  rename_i list x _
  exact takeMembers_moves x list { state := s, body := none, accepted := 0, entries := [] } nofun

theorem serveCancel_moves (p : List Byte) (s : State) : Moves s (serveCancel p s).1 := by
  unfold serveCancel
  split
  · exact .refl
  dsimp only
  split
  · exact .refl
  split
  · exact State.endDelivery_moves (State.named_live ‹_›) ..
  · exact .refl

/-! ### The requests of the clock, the zones and the air -/

theorem serveSetClock_moves (p : List Byte) (s : State) : Moves s (serveSetClock p s).1 := by
  unfold serveSetClock
  split
  · exact .refl
  split
  · exact .refl
  · exact .of_same rfl

theorem serveStartClock_moves (p : List Byte) (s : State) : Moves s (serveStartClock p s).1 := by
  unfold serveStartClock
  split
  · exact .refl
  split
  · exact .refl
  have started : Moves s (s.withClk s.clk.start) := .of_same rfl
  exact started.trans (State.boundaryEvent_moves ..)

theorem serveStopClock_moves (p : List Byte) (s : State) : Moves s (serveStopClock p s).1 := by
  unfold serveStopClock
  split
  · exact .refl
  split
  · exact .refl
  split
  · exact .refl
  refine .of_same ?_
  rw [State.standing_foldl _ State.standing_dropMaps, State.standing_foldl _ State.standing_dropPlans,
    State.standing_withClk]

theorem serveSetTrim_moves (p : List Byte) (s : State) : Moves s (serveSetTrim p s).1 := by
  unfold serveSetTrim
  split
  · exact .refl
  · exact .of_same rfl

theorem serveSetZone_moves (p : List Byte) (s : State) : Moves s (serveSetZone p s).1 := by
  unfold serveSetZone
  split
  · exact .refl
  split
  · exact .refl
  split
  · exact .refl
  split
  · exact .refl
  · exact .of_same rfl

theorem serveSetGroup_moves (p : List Byte) (s : State) : Moves s (serveSetGroup p s).1 := by
  unfold serveSetGroup
  split
  · exact .refl
  split
  · exact .refl
  split
  · exact .refl
  split
  · exact .refl
  · exact .of_same rfl

theorem serveClearZoneFlags_moves (p : List Byte) (s : State) : Moves s (serveClearZoneFlags p s).1 := by
  unfold serveClearZoneFlags
  split
  · exact .refl
  split
  · exact .refl
  · exact .of_same rfl

theorem serveAirOn_moves (p : List Byte) (s : State) : Moves s (serveAirOn p s).1 := by
  unfold serveAirOn
  split
  · exact .refl
  split
  · exact .refl
  · exact .refl
  split
  · exact .refl
  · exact .of_same rfl

theorem serveAirOff_moves (p : List Byte) (s : State) : Moves s (serveAirOff p s).1 := by
  unfold serveAirOff
  split
  · exact .refl
  split
  · exact .refl
  · exact .refl
  have stopping : Moves s (s.withBld { s.bld with air := .stopping }) := .of_same rfl
  exact (stopping.trans (Moves.foldl State.revertOne_moves ..)).trans
    (.of_same (State.standing_foldl _ State.standing_discardNext _))

/-! ### The requests of the journal and the link -/

theorem serveTakeUsage_moves (p : List Byte) (s : State) : Moves s (serveTakeUsage p s).1 := by
  unfold serveTakeUsage
  split
  · exact .refl
  · exact .one (.takeUsage s _)

theorem serveSetWatermark_moves (p : List Byte) (s : State) : Moves s (serveSetWatermark p s).1 := by
  unfold serveSetWatermark
  split
  · exact .refl
  · exact .of_same rfl

theorem serveTrafficReset_moves (p : List Byte) (s : State) : Moves s (serveTrafficReset p s).1 := by
  unfold serveTrafficReset
  split
  · exact .refl
  refine (Moves.foldl State.cancelOne_moves s.liveNumbers s).trans (.of_same ?_)
  rw [State.standing_foldl _ State.standing_emptyNext, State.standing_foldl _ State.standing_emptyMaps]

theorem serveQueryLink_moves (p : List Byte) (s : State) : Moves s (serveQueryLink p s).1 := by
  unfold serveQueryLink
  split
  · exact .refl
  · exact .of_same rfl

theorem serveFullReset_moves (p : List Byte) (s : State) : Moves s (serveFullReset p s).1 := by
  unfold serveFullReset
  split
  · exact .refl
  · exact .one (.reset rfl)

/-! ### The queries -/

/-- A request that only reads leaves the state as it stands. -/
def ReadsOnly (serve : List Byte → State → State × Answer) : Prop := ∀ p s, (serve p s).1 = s

theorem serveQuerySubscriber_readsOnly : ReadsOnly serveQuerySubscriber := by
  intro p s; unfold serveQuerySubscriber; repeat' split
  all_goals rfl

theorem serveQueryAccount_readsOnly : ReadsOnly serveQueryAccount := by
  intro p s; unfold serveQueryAccount; repeat' split
  all_goals rfl

theorem serveQueryTariff_readsOnly : ReadsOnly serveQueryTariff := by
  intro p s; unfold serveQueryTariff; repeat' split
  all_goals rfl

theorem serveQueryProfile_readsOnly : ReadsOnly serveQueryProfile := by
  intro p s; unfold serveQueryProfile; repeat' split
  all_goals rfl

theorem serveQueryStore_readsOnly : ReadsOnly serveQueryStore := by
  intro p s; unfold serveQueryStore; repeat' split
  all_goals rfl

theorem serveQueryDelivery_readsOnly : ReadsOnly serveQueryDelivery := by
  intro p s; unfold serveQueryDelivery; dsimp only; repeat' split
  all_goals rfl

theorem serveQueryClock_readsOnly : ReadsOnly serveQueryClock := by
  intro p s; unfold serveQueryClock; split <;> rfl

theorem serveQueryZone_readsOnly : ReadsOnly serveQueryZone := by
  intro p s; unfold serveQueryZone; repeat' split
  all_goals rfl

theorem serveQueryAir_readsOnly : ReadsOnly serveQueryAir := by
  intro p s; unfold serveQueryAir; dsimp only; repeat' split
  all_goals rfl

theorem serveQueryReceipts_readsOnly : ReadsOnly serveQueryReceipts := by
  intro p s; unfold serveQueryReceipts; repeat' split
  all_goals rfl

theorem serveQueryJournal_readsOnly : ReadsOnly serveQueryJournal := by
  intro p s; unfold serveQueryJournal; split <;> rfl

theorem ReadsOnly.moves {serve : List Byte → State → State × Answer} (h : ReadsOnly serve) (p : List Byte) (s : State) :
    Moves s (serve p s).1 := by rw [h p s]

/-! ### The commands -/

theorem event_moves {s u t : State} (m : Moves s u) (h : event u = .next t) : Moves s t := by
  cases h
  exact m.trans (.of_same rfl)

/-- A request command moves the standing tables as its service does. -/
theorem request_moves {kind tag : Byte} {p : List Byte} {serve : List Byte → State → State × Answer} {s t : State}
    (serves : ∀ s, Moves s (serve p s).1) (h : request kind tag p serve s = .next t) : Moves s t := by
  obtain ⟨u, reached, idle | ⟨-, served⟩⟩ := request_cases kind tag p serve s
  all_goals
    have arrived : Moves s u := by
      rcases reached with rfl | rfl
      · exact .refl
      · exact .of_same (State.standing_arrival ..)
  · cases idle.symm.trans h
    exact arrived.trans (.of_same rfl)
  · cases served.symm.trans h
    have taken : Moves u u.taken := .of_same rfl
    exact ((arrived.trans taken).trans (serves u.taken)).trans (.of_same rfl)

/-- An event that takes the clock to a moment of the frame, where it reaches it. -/
theorem atMoment_moves {s t : State} {q : Nat} {f : State → Host.Outcome State Fault Refusal}
    (acts : ∀ u, f u = .next t → Moves u t)
    (h : (match s.atMoment q with | some u => f u | none => event s) = .next t) : Moves s t := by
  cases moment : s.atMoment q with
  | none => simp only [moment] at h; exact event_moves .refl h
  | some u =>
    simp only [moment] at h
    exact (Moves.of_same (s.standing_atMoment moment)).trans (acts u h)

theorem execUnknownKindRequest_moves {kind tag : Byte} {p : List Byte} {s t : State}
    (h : execUnknownKindRequest kind tag p s = .next t) : Moves s t := by
  unfold execUnknownKindRequest at h
  split at h
  · exact event_moves .refl h
  · exact request_moves (fun _ => .refl) h

theorem State.enterLinkError_moves (s : State) (c : LinkCause) (r : Receiver) (l : List Byte) :
    Moves s (s.enterLinkError c r l) := by
  rw [enterLinkError_eq]; exact .of_same rfl

theorem execFramingError_moves {s t : State} (h : execFramingError s = .next t) : Moves s t := by
  unfold execFramingError at h
  split at h
  · exact event_moves (s.enterLinkError_moves ..) h
  · exact event_moves (s.enterLinkError_moves ..) h
  · exact event_moves .refl h

theorem execBoundary_moves {order : EndingOrder} {s t : State} (h : execBoundary order s = .next t) : Moves s t := by
  refine atMoment_moves (fun u hu => event_moves ?_ hu) h
  have began : Moves u (u.withClk u.clk.nextFrame) := .of_same rfl
  exact began.trans (State.boundaryEvent_moves ..)

theorem execBuildPoint_moves {s t : State} (h : execBuildPoint s = .next t) : Moves s t := by
  unfold execBuildPoint at h
  split at h
  · rename_i u moment
    split at h
    · exact event_moves .refl h
    · have reached : Moves s u := .of_same (s.standing_atMoment moment)
      have passed : Moves u (u.withClk { u.clk with buildPassed := true }) := .of_same rfl
      exact event_moves ((reached.trans passed).trans (State.buildPointEvent_moves _)) h
  · exact event_moves .refl h

theorem execWordOffer_moves {k : Nat} {s t : State} (h : execWordOffer k s = .next t) : Moves s t := by
  unfold execWordOffer at h
  split at h
  · exact atMoment_moves (fun u hu => event_moves (.of_same (u.standing_foldl (fun s => s.standing_offerAt k) _)) hu) h
  · exact event_moves .refl h

theorem execDataFieldEnd_moves {k : Nat} {s t : State} (h : execDataFieldEnd k s = .next t) : Moves s t := by
  unfold execDataFieldEnd at h
  split at h
  · exact atMoment_moves (fun u hu => event_moves (.of_same (u.standing_foldl (fun s => s.standing_judgeAt k) _)) hu) h
  · exact event_moves .refl h

theorem execWordTaken_moves {z : Fin 8} {s t : State} (h : execWordTaken z s = .next t) : Moves s t := by
  unfold execWordTaken at h
  dsimp only at h
  split at h
  · exact event_moves (.of_same (s.standing_setZone ..)) h
  · exact event_moves .refl h

theorem execReturnRecordArrival_moves {z : Fin 8} {l : List Byte} {s t : State}
    (h : execReturnRecordArrival z l s = .next t) : Moves s t := by
  unfold execReturnRecordArrival at h
  dsimp only at h
  split at h
  · exact event_moves (.of_same (s.standing_setZone ..)) h
  · split at h
    · exact event_moves (.of_same (s.standing_setQueue ..)) h
    · exact event_moves (.of_same (s.standing_setZone ..)) h

theorem execReceiptTaken_moves {z : Fin 8} {s t : State} (h : execReceiptTaken z s = .next t) : Moves s t := by
  unfold execReceiptTaken at h
  split at h
  · exact event_moves ((Moves.of_same (s.standing_setQueue ..)).trans (State.takeReceipt_moves ..)) h
  · exact event_moves .refl h

theorem execCheckInTaken_moves {z : Fin 8} {s t : State} (h : execCheckInTaken z s = .next t) : Moves s t := by
  unfold execCheckInTaken at h
  split at h
  · exact event_moves ((Moves.of_same (s.standing_setQueue ..)).trans (State.takeCheckIn_moves ..)) h
  · exact event_moves .refl h

theorem execTick_moves {s t : State} (h : execTick s = .next t) : Moves s t := by
  unfold execTick at h
  split at h
  · exact event_moves (.of_same (s.standing_withClk _)) h
  · exact event_moves .refl h

/-- Every command is a run of moves. -/
theorem exec_moves {c : Instr} {s t : State} (h : exec c s = .next t) : Moves s t := by
  cases c with
  | assignSubscriber tag p => exact request_moves (serveAssignSubscriber_moves p) h
  | modifySubscriber tag p => exact request_moves (serveModifySubscriber_moves p) h
  | suspend tag p => exact request_moves (serveSuspend_moves p) h
  | resume tag p => exact request_moves (serveResume_moves p) h
  | release tag p => exact request_moves (serveRelease_moves p) h
  | querySubscriber tag p => exact request_moves (serveQuerySubscriber_readsOnly.moves p) h
  | openAccount tag p => exact request_moves (serveOpenAccount_moves p) h
  | adjustAccount tag p => exact request_moves (serveAdjustAccount_moves p) h
  | setCredit tag p => exact request_moves (serveSetCredit_moves p) h
  | setTariffClass tag p => exact request_moves (serveSetTariffClass_moves p) h
  | lock tag p => exact request_moves (serveLock_moves p) h
  | unlock tag p => exact request_moves (serveUnlock_moves p) h
  | close tag p => exact request_moves (serveClose_moves p) h
  | queryAccount tag p => exact request_moves (serveQueryAccount_readsOnly.moves p) h
  | loadTariff tag p => exact request_moves (serveLoadTariff_moves p) h
  | queryTariff tag p => exact request_moves (serveQueryTariff_readsOnly.moves p) h
  | setPriorityProfile tag p => exact request_moves (serveSetPriorityProfile_moves p) h
  | queryProfile tag p => exact request_moves (serveQueryProfile_readsOnly.moves p) h
  | submitPage tag p => exact request_moves (serveSubmitPage_moves p) h
  | submitGroupPage tag p => exact request_moves (serveSubmitGroupPage_moves p) h
  | queryStore tag p => exact request_moves (serveQueryStore_readsOnly.moves p) h
  | cancel tag p => exact request_moves (serveCancel_moves p) h
  | queryDelivery tag p => exact request_moves (serveQueryDelivery_readsOnly.moves p) h
  | queryClock tag p => exact request_moves (serveQueryClock_readsOnly.moves p) h
  | setClock tag p => exact request_moves (serveSetClock_moves p) h
  | startClock tag p => exact request_moves (serveStartClock_moves p) h
  | stopClock tag p => exact request_moves (serveStopClock_moves p) h
  | setTrim tag p => exact request_moves (serveSetTrim_moves p) h
  | setZone tag p => exact request_moves (serveSetZone_moves p) h
  | setGroup tag p => exact request_moves (serveSetGroup_moves p) h
  | clearZoneFlags tag p => exact request_moves (serveClearZoneFlags_moves p) h
  | queryZone tag p => exact request_moves (serveQueryZone_readsOnly.moves p) h
  | airOn tag p => exact request_moves (serveAirOn_moves p) h
  | airOff tag p => exact request_moves (serveAirOff_moves p) h
  | queryAir tag p => exact request_moves (serveQueryAir_readsOnly.moves p) h
  | queryReceipts tag p => exact request_moves (serveQueryReceipts_readsOnly.moves p) h
  | takeUsage tag p => exact request_moves (serveTakeUsage_moves p) h
  | setWatermark tag p => exact request_moves (serveSetWatermark_moves p) h
  | queryJournal tag p => exact request_moves (serveQueryJournal_readsOnly.moves p) h
  | trafficReset tag p => exact request_moves (serveTrafficReset_moves p) h
  | queryLink tag p => exact request_moves (serveQueryLink_moves p) h
  | fullReset tag p => exact request_moves (serveFullReset_moves p) h
  | unknownKindRequest kind tag p => exact execUnknownKindRequest_moves h
  | powerOn rate => exact event_moves (u := s.resetBlocks.withLnk (.powerOn rate)) (.one (.reset rfl)) h
  | inboundByte b => exact event_moves (.of_same (s.standing_receive b)) h
  | framingError => exact execFramingError_moves h
  | breakLine => exact event_moves (.of_same (s.standing_withLnk _)) h
  | recordTransmissionEnd => exact event_moves (.of_same (s.standing_withLnk _)) h
  | boundary order => exact execBoundary_moves h
  | buildPoint => exact execBuildPoint_moves h
  | markEdge => exact event_moves (.of_same (s.standing_withClk _)) h
  | alarmEdge z high => exact event_moves (.of_same (s.standing_followAlarm ..)) h
  | wordOffer k => exact execWordOffer_moves h
  | wordTaken z => exact execWordTaken_moves h
  | dataFieldEnd k => exact execDataFieldEnd_moves h
  | returnRecordArrival z l => exact execReturnRecordArrival_moves h
  | receiptTaken z => exact execReceiptTaken_moves h
  | checkInTaken z => exact execCheckInTaken_moves h
  | tick => exact execTick_moves h

/-- Every step is a run of moves. -/
theorem step_moves {s t : State} (h : step s = .next t) : Moves s t := by
  unfold step at h
  split at h
  · cases h; exact .refl
  · exact (Moves.of_same (s.standing_withPending _)).trans (exec_moves h)

end Sys2Proof.Machine
end

section
/-! PROOFS. Every step keeps the directory map, the subscriber records and the funds (R2, R4, R20, R31, R34), and reset meets
these invariants. -/

namespace Sys2Proof.Machine

namespace State

variable {s t : State}

/-! ### Reads of equal tables -/

theorem sub_of_standing (h : t.standing = s.standing) (n : Nat) : t.sub n = s.sub n := by
  have hd : t.dir = s.dir := congrArg Standing.dir h
  simp [sub, hd]

theorem lookup_of_standing (h : t.standing = s.standing) (a : Word) : t.lookup a = s.lookup a := by
  have hd : t.dir = s.dir := congrArg Standing.dir h
  simp [lookup, hd]

theorem acct_of_standing (h : t.standing = s.standing) (n : Nat) : t.acct n = s.acct n := by
  have ha : t.act = s.act := congrArg Standing.act h
  simp [acct, ha]

theorem tariff_of_standing (h : t.standing = s.standing) (k : Nat) : t.tariff k = s.tariff k := by
  have ha : t.act = s.act := congrArg Standing.act h
  simp [tariff, ha]

theorem profile_of_standing (h : t.standing = s.standing) (p : Priority) : t.profile p = s.profile p := by
  have ha : t.act = s.act := congrArg Standing.act h
  cases p <;> simp [profile, ha]

theorem body_of_standing (h : t.standing = s.standing) (n : Nat) : t.body n = s.body n := by
  have hb : t.txt.bodies = s.txt.bodies := congrArg Standing.bodies h
  simp [body, hb]

/-! ### The directory map (R4) -/

theorem reset_mapAgrees : State.reset.mapAgrees := by
  refine ⟨fun n used => ?_, fun a n bound => ?_⟩
  · simp [sub, reset, Table.read, Subscriber.inUse, Subscriber.unassigned] at used
  · simp [lookup, reset, Table.read] at bound

/-- The map agrees as long as the records keep their use and their addresses. -/
theorem mapAgrees_of_same (lookups : ∀ a, t.lookup a = s.lookup a)
    (units : ∀ n, (t.sub n).service = (s.sub n).service ∨ ((t.sub n).inUse = true ∧ (s.sub n).inUse = true))
    (addresses : ∀ n, (t.sub n).address = (s.sub n).address) (h : s.mapAgrees) : t.mapAgrees := by
  have uses (n : Nat) : (t.sub n).inUse = (s.sub n).inUse := by
    rcases units n with e | ⟨a, b⟩
    · simp [Subscriber.inUse, e]
    · rw [a, b]
  simpa only [mapAgrees, lookups, uses, addresses] using h

theorem lookup_ne_zero {a : Word} {n : Nat} (h : s.lookup a = some n) : a ≠ 0 := by
  rintro rfl
  simp [lookup] at h

/-- Two records in use have two addresses. -/
theorem mapAgrees.injective (h : s.mapAgrees) {m n : Nat} (hm : (s.sub m).inUse = true) (hn : (s.sub n).inUse = true)
    (e : (s.sub m).address = (s.sub n).address) : m = n := by
  have := (h.1 m hm).symm.trans ((congrArg s.lookup e).trans (h.1 n hn))
  exact Option.some.inj this

theorem mapAgrees_assign {n : Nat} {u : Subscriber} (h : s.mapAgrees) (free : (s.sub n).inUse = false)
    (used : u.inUse = true) (nonzero : u.address ≠ 0) (unbound : s.lookup u.address = none) :
    ((s.setSub n u).bindAddress u.address (some n)).mapAgrees := by
  refine ⟨fun m => ?_, fun a m => ?_⟩
  · rw [sub_bindAddress, sub_setSub, lookup_bindAddress, lookup_setSub]
    by_cases hm : m = n
    · rw [if_pos hm, if_neg nonzero, if_pos rfl, hm]; exact fun _ => rfl
    · rw [if_neg hm]
      intro hu
      have bound := h.1 m hu
      have ne : (s.sub m).address ≠ u.address := fun e => by rw [e, unbound] at bound; cases bound
      rw [if_neg (lookup_ne_zero bound), if_neg ne, bound]
  · rw [sub_bindAddress, sub_setSub, lookup_bindAddress, lookup_setSub]
    by_cases ha : a = u.address
    · subst ha
      rw [if_neg nonzero, if_pos rfl]
      intro e; cases e
      simp [used]
    · intro bound
      have bound : s.lookup a = some m := by
        split at bound
        · cases bound
        · exact bound
      obtain ⟨hu, address⟩ := h.2 a m bound
      have hm : m ≠ n := fun e => by rw [e, free] at hu; cases hu
      simp [hm, hu, address]

theorem mapAgrees_release {n : Nat} (h : s.mapAgrees) (used : (s.sub n).inUse = true) :
    ((s.setSub n .unassigned).bindAddress (s.sub n).address none).mapAgrees := by
  refine ⟨fun m => ?_, fun a m => ?_⟩
  · rw [sub_bindAddress, sub_setSub, lookup_bindAddress, lookup_setSub]
    by_cases hm : m = n
    · rw [if_pos hm]; intro hu; cases hu
    · rw [if_neg hm]
      intro hu
      have bound := h.1 m hu
      rw [if_neg (lookup_ne_zero bound), if_neg fun e => hm (h.injective hu used e), bound]
  · rw [sub_bindAddress, sub_setSub, lookup_bindAddress, lookup_setSub]
    intro bound
    split at bound
    · cases bound
    split at bound
    · cases bound
    rename_i ne
    obtain ⟨hu, address⟩ := h.2 a m bound
    have hm : m ≠ n := fun e => ne (by rw [← address, e])
    simp [hm, hu, address]

theorem mapAgrees_modify {n : Nat} {new : Subscriber} (h : s.mapAgrees) (used : (s.sub n).inUse = true)
    (service : new.service = (s.sub n).service)
    (unbound : new.address ≠ (s.sub n).address → new.address ≠ 0 ∧ s.lookup new.address = none) :
    (s.rekey n (s.sub n) new).mapAgrees := by
  unfold rekey
  split
  · rename_i same
    refine mapAgrees_of_same (fun a => lookup_setSub ..) (fun m => .inl ?_) (fun m => ?_) h
    all_goals rw [sub_setSub]; split <;> simp_all
  · rename_i moved
    obtain ⟨nonzero, unbound⟩ := unbound moved
    have released := mapAgrees_release h used
    have assigned := mapAgrees_assign (n := n) (u := { new with heard := none }) released (by simp; decide)
      (by simpa [inUse_iff, service] using used) nonzero (by rw [lookup_bindAddress]; simp [unbound])
    refine mapAgrees_of_same (fun a => ?_) (fun m => .inl ?_) (fun m => ?_) assigned
    · simp [lookup_bindAddress]
    all_goals simp only [sub_bindAddress, sub_setSub]; split <;> rfl

theorem mapAgrees_move (m : Move s t) (h : s.mapAgrees) : t.mapAgrees := by
  cases m with
  | frame same =>
    exact mapAgrees_of_same (lookup_of_standing same) (fun n => .inl (by rw [sub_of_standing same]))
      (fun n => by rw [sub_of_standing same]) h
  | reset same =>
    exact mapAgrees_of_same (lookup_of_standing same) (fun n => .inl (by rw [sub_of_standing same]))
      (fun n => by rw [sub_of_standing same]) reset_mapAgrees
  | report n u only =>
    refine mapAgrees_of_same (fun a => lookup_setSub ..) (fun m => .inl ?_) (fun m => ?_) h
    all_goals
      rw [sub_setSub]
      split
      · subst m; rw [only]
      · rfl
  | service n x used stays =>
    refine mapAgrees_of_same (fun a => lookup_setSub ..) (fun m => ?_) (fun m => ?_) h
    all_goals rw [sub_setSub]; split
    · subst m; exact .inr ⟨(inUse_iff _).2 stays, used⟩
    · exact .inl rfl
    · subst m; rfl
    · rfl
  | assign n u free used _ nonzero unbound _ => exact mapAgrees_assign h free used nonzero unbound
  | release n used _ => exact mapAgrees_release h used
  | modify n new used service _ _ unbound => exact mapAgrees_modify h used service unbound
  | account => exact h
  | tariff => exact h
  | profile p f => cases p <;> exact h
  | accept n x body =>
    refine mapAgrees_of_same (accept_lookup s n x body) (fun m => .inl ?_) (fun m => ?_) h
    all_goals rw [accept_sub]; split <;> rfl
  | rewrite => exact h
  | settle n d e x r =>
    refine mapAgrees_of_same (settle_lookup s n e x r) (fun m => .inl ?_) (fun m => ?_) h
    all_goals rw [settle_sub]; split <;> rfl
  | takeUsage => exact h

/-! ### The settings of subscribers (R2, R8) -/

theorem subscribersInRange_iff (s : State) : s.subscribersInRange ↔ ∀ n, (s.sub n).inRange := .rfl

theorem unassigned_inRange : Subscriber.unassigned.inRange := by
  refine ⟨?_, ?_, ?_, ?_, ?_⟩ <;> decide

theorem reset_subscribersInRange : State.reset.subscribersInRange := fun _ => unassigned_inRange

/-- A write of one record keeps the ranges if the record written lies in them. -/
theorem subscribersInRange_setSub {n : Nat} {u : Subscriber} (h : s.subscribersInRange) (range : u.inRange) :
    (s.setSub n u).subscribersInRange := by
  intro m
  rw [sub_setSub]
  split
  · exact range
  · exact h m

theorem subscribersInRange_of_same (same : ∀ n, t.sub n = s.sub n) (h : s.subscribersInRange) : t.subscribersInRange :=
  fun n => by rw [same n]; exact h n

theorem subscribersInRange_move (m : Move s t) (h : s.subscribersInRange) : t.subscribersInRange := by
  cases m with
  | frame same => exact subscribersInRange_of_same (sub_of_standing same) h
  | reset same => exact subscribersInRange_of_same (sub_of_standing same) reset_subscribersInRange
  | report n u only => exact subscribersInRange_setSub h (by rw [only]; exact h n)
  | service n x _ _ => exact subscribersInRange_setSub h (h n)
  | assign n u _ _ range _ _ _ =>
    exact subscribersInRange_of_same (sub_bindAddress _ _ _) (subscribersInRange_setSub (n := n) h range)
  | release n _ _ =>
    exact subscribersInRange_of_same (sub_bindAddress _ _ _) (subscribersInRange_setSub (n := n) h unassigned_inRange)
  | modify n new _ _ _ range _ =>
    unfold rekey
    split
    · exact subscribersInRange_setSub h (range (h n))
    · refine subscribersInRange_of_same (fun m => ?_)
        (subscribersInRange_setSub (n := n) (u := { new with heard := none }) h (range (h n)))
      rw [sub_bindAddress, sub_bindAddress]
  | account => exact h
  | tariff => exact h
  | profile p f => cases p <;> exact h
  | accept n x body => intro m; rw [accept_sub]; split <;> exact h m
  | rewrite => exact h
  | settle n d e x r => intro m; rw [settle_sub]; split <;> exact h m
  | takeUsage => exact h

/-! ### Balances, credit limits, tariffs and profiles (R20, R31, R34) -/

theorem reset_fundsInRange : State.reset.fundsInRange := by
  refine ⟨fun _ => (?_ : Account.closed.inRange), fun _ => (?_ : Tariff.powerOn.inRange = true), fun p => ?_⟩
  · exact ⟨by decide, by decide, by decide⟩
  · decide
  · cases p <;> unfold Profile.inRange <;> decide

/-- Settlement takes a charge off the balance, and stops at the least balance (R41). -/
theorem settle_inRange {a : Account} (h : a.inRange) (charge hold : Nat) : (a.settle charge hold).inRange := by
  obtain ⟨low, high, credit⟩ := h
  refine ⟨Int.le_max_right .., ?_, credit⟩
  simp only [Account.settle, Config.balanceMin]; omega

theorem fundsInRange_of_reads (accounts : ∀ n, (s.acct n).inRange → (t.acct n).inRange)
    (tariffs : ∀ k, (t.tariff k).inRange = true ∨ t.tariff k = s.tariff k)
    (profiles : ∀ p, (t.profile p).inRange ∨ t.profile p = s.profile p) (h : s.fundsInRange) : t.fundsInRange := by
  obtain ⟨accountsIn, tariffsIn, profilesIn⟩ := h
  refine ⟨fun n => accounts n (accountsIn n), fun k => ?_, fun p => ?_⟩
  · rcases tariffs k with range | same
    · exact range
    · rw [same]; exact tariffsIn k
  · rcases profiles p with range | same
    · exact range
    · rw [same]; exact profilesIn p

theorem fundsInRange_of_act (same : t.act = s.act) (h : s.fundsInRange) : t.fundsInRange := by
  refine fundsInRange_of_reads (fun n => ?_) (fun k => .inr ?_) (fun p => .inr ?_) h
  · rw [acct, acct, same]; exact id
  · rw [tariff, tariff, same]
  · cases p <;> simp [profile, same]

theorem fundsInRange_move (m : Move s t) (h : s.fundsInRange) : t.fundsInRange := by
  cases m with
  | frame same => exact fundsInRange_of_act (congrArg Standing.act same) h
  | reset same => exact fundsInRange_of_act (congrArg Standing.act same) reset_fundsInRange
  | report => exact h
  | service => exact h
  | assign => exact h
  | release => exact h
  | modify => exact fundsInRange_of_act (by unfold rekey; split <;> rfl) h
  | account n a _ range =>
    refine fundsInRange_of_reads (s := s) (fun m => ?_) (fun k => .inr rfl) (fun p => .inr (profile_setAcct ..)) h
    rw [acct_setAcct]
    split
    · subst m; exact range
    · exact id
  | tariff k e range =>
    refine fundsInRange_of_reads (s := s) (fun m => id) (fun j => ?_) (fun p => .inr (profile_setTariff ..)) h
    rw [tariff_setTariff]
    split
    · exact .inl range
    · exact .inr rfl
  | profile p f range =>
    refine fundsInRange_of_reads (s := s) (fun m => by rw [acct_setProfile]; exact id) (fun k => .inr ?_) (fun q => ?_) h
    · cases p <;> rfl
    · cases p <;> cases q <;> first | exact .inl range | exact .inr rfl
  | accept n x body =>
    refine fundsInRange_of_reads (s := s) (fun m => ?_) (fun k => .inr (accept_tariff ..)) (fun p => .inr (accept_profile ..)) h
    rw [accept_acct]; split <;> exact id
  | rewrite => exact h
  | settle n d e x r =>
    refine fundsInRange_of_reads (s := s) (fun m => ?_) (fun k => .inr (settle_tariff ..)) (fun p => .inr (settle_profile ..)) h
    rw [settle_acct]
    split
    · exact fun range => settle_inRange range ..
    · exact id
  | takeUsage => exact h

end State

/-- Settles O56: every step is a run of moves, and every move keeps each of the three invariants. -/
theorem stepKeepsStandingTables : Obligations.StepKeepsStandingTables := by
  unfold Obligations.StepKeepsStandingTables
  intro s t h
  have moves := step_moves h
  exact ⟨moves.keep fun _ _ => State.mapAgrees_move, moves.keep fun _ _ => State.subscribersInRange_move,
    moves.keep fun _ _ => State.fundsInRange_move⟩

end Sys2Proof.Machine
end

section
/-! PROOFS. Every step keeps the counts: the reservation and the sequences, the reserved amounts, the live counts, the reference
counts and the usage records (R14, R20, R49, R63, R66, R169). Each count is a sum over the live deliveries, and a move changes
such a sum by the delivery it rewrites, settles or accepts. -/

namespace Sys2Proof.Machine

/-! ### Sums over a table -/

namespace Table

variable {α : Type}

/-- The sum of a weight over the listed entries. -/
def total (g : α → Nat) (t : Table α) : Nat := (t.map (fun e => g e.2)).sum

theorem total_placed (g : α → Nat) (t : Table α) (n : Nat) (v : α) : total g (placed n v t) = total g t + g v := by
  induction t with
  | nil => simp [placed, total]
  | cons e rest ih =>
    obtain ⟨k, w⟩ := e
    unfold placed
    split
    · simp [total]; omega
    · simp only [total, List.map_cons, List.sum_cons] at ih ⊢; omega

theorem total_without [DecidableEq α] {dflt : α} {g : α → Nat} (zero : g dflt = 0) (n : Nat) {t : Table α} :
    ∀ {lo : Nat}, wfFrom dflt lo t = true → total g (t.without n) + g (read dflt t n) = total g t := by
  induction t with
  | nil => intro lo _; simp [without, total, read, zero]
  | cons e rest ih =>
    obtain ⟨k, v⟩ := e
    intro lo wf
    have hrest : wfFrom dflt (k + 1) rest = true := by simp [wfFrom] at wf; exact wf.2
    by_cases h : k = n
    · subst h
      have gone : without ((k, v) :: rest) k = rest := by
        simp only [without, ne_eq, decide_not, List.filter_cons, decide_true, Bool.not_true, Bool.false_eq_true, if_false]
        refine List.filter_eq_self.2 fun a ha => ?_
        have := Table.le_of_mem hrest a ha
        simp; omega
      simp [gone, read, total]; omega
    · have kept : without ((k, v) :: rest) n = (k, v) :: without rest n := by simp [without, h]
      have := ih hrest
      simp only [kept, read, if_neg h, total, List.map_cons, List.sum_cons] at this ⊢
      omega

/-- A write moves the sum by the weight of the entry written and that of the entry it replaces. -/
theorem total_put [DecidableEq α] {dflt : α} {g : α → Nat} (zero : g dflt = 0) {t : Table α} (wf : t.wf dflt = true)
    (n : Nat) (v : α) : total g (put dflt t n v) + g (read dflt t n) = total g t + g v := by
  have removed := total_without zero n wf
  unfold put
  split
  · subst v; omega
  · rw [total_placed]; omega

end Table

/-! ### Sums over the live deliveries -/

/-- What a record adds to a sum over the live deliveries. -/
def DeliveryRecord.weight (f : Delivery → Nat) (r : DeliveryRecord) : Nat := (r.live.map f).getD 0

@[simp] theorem DeliveryRecord.weight_live (f : Delivery → Nat) (i : Byte) (d : Delivery) :
    ({ issue := i, live := some d } : DeliveryRecord).weight f = f d := rfl

@[simp] theorem DeliveryRecord.weight_free (f : Delivery → Nat) (i : Byte) :
    ({ issue := i, live := none } : DeliveryRecord).weight f = 0 := rfl

namespace State

variable {s t : State}

/-- The sum of a weight over the live deliveries. -/
def liveSum (s : State) (f : Delivery → Nat) : Nat := (s.liveDeliveries.map f).sum

theorem liveDeliveries_eq (wf : Table.wf .fresh s.dlv.records = true) :
    s.liveDeliveries = s.dlv.records.filterMap (fun e => e.2.live) := by
  unfold liveDeliveries liveNumbers liveWhere Table.numbers
  rw [List.filterMap_map, List.filterMap_filter]
  refine List.filterMap_congr fun e he => ?_
  have : s.live e.1 = e.2.live := congrArg DeliveryRecord.live (Table.read_of_mem wf he)
  rw [Function.comp, this]
  cases h : e.2.live <;> simp [h]

theorem liveSum_eq_total (wf : Table.wf .fresh s.dlv.records = true) (f : Delivery → Nat) :
    s.liveSum f = Table.total (fun r => r.weight f) s.dlv.records := by
  rw [liveSum, liveDeliveries_eq wf, Table.total]
  induction s.dlv.records with
  | nil => rfl
  | cons e rest ih =>
    cases h : e.2.live <;> simp [DeliveryRecord.weight, h, ih]

theorem liveTotal_eq (wf : Table.wf .fresh s.dlv.records = true) : s.liveTotal = s.liveSum (fun _ => 1) := by
  have : s.liveNumbers.length = s.liveDeliveries.length := by
    rw [liveDeliveries_eq wf, liveNumbers, liveWhere, Table.numbers, List.length_map]
    induction s.dlv.records with
    | nil => rfl
    | cons e rest ih => cases h : e.2.live <;> simp [h, ih]
  simp [liveTotal, liveSum, this]

theorem sum_filter (l : List Delivery) (p : Delivery → Bool) (f : Delivery → Nat) :
    ((l.filter p).map f).sum = (l.map (fun d => if p d then f d else 0)).sum := by
  induction l with
  | nil => rfl
  | cons d l ih => by_cases h : p d <;> simp [h, ih]

/-- The hold that a delivery keeps reserved in an account (R20, R39). -/
def holdIn (n : Nat) (d : Delivery) : Nat := if d.account = n then d.hold else 0

/-- One for a delivery of a subscriber (R14). -/
def countFor (n : Nat) (d : Delivery) : Nat := if d.subscriber = n then 1 else 0

/-- One for a delivery that carries a body (R63). -/
def countBody (n : Nat) (d : Delivery) : Nat := if d.body = n then 1 else 0

theorem reserved_eq_liveSum (s : State) (n : Nat) :
    ((s.liveDeliveries.filter (fun d => d.account = n)).map (fun d => d.hold)).sum = s.liveSum (holdIn n) := by
  rw [sum_filter]; simp only [decide_eq_true_eq]; rfl

theorem length_eq_liveSum (s : State) (p : Delivery → Bool) :
    (s.liveDeliveries.filter p).length = s.liveSum (fun d => if p d then 1 else 0) := by
  have := sum_filter s.liveDeliveries p (fun _ => 1)
  simpa [liveSum] using this

theorem liveCount_eq_liveSum (s : State) (n : Nat) :
    (s.liveDeliveries.filter (fun d => d.subscriber = n)).length = s.liveSum (countFor n) := by
  rw [length_eq_liveSum]; simp only [decide_eq_true_eq]; rfl

theorem bodyCount_eq_liveSum (s : State) (n : Nat) :
    (s.liveDeliveries.filter (fun d => d.body = n)).length = s.liveSum (countBody n) := by
  rw [length_eq_liveSum]; simp only [decide_eq_true_eq]; rfl

theorem liveSum_of_records (h : t.dlv.records = s.dlv.records) (f : Delivery → Nat) : t.liveSum f = s.liveSum f := by
  have live : t.live = s.live := funext fun n => by simp only [State.live, record, h]
  simp only [liveSum, liveDeliveries, liveNumbers, liveWhere, live, h]

/-! ### What a move does to such a sum -/

/-- A write of one record moves the sum by that record. -/
theorem liveSum_put {n : Nat} {r : DeliveryRecord} (wf : Table.wf .fresh s.dlv.records = true)
    (h : t.dlv.records = Table.put .fresh s.dlv.records n r) (f : Delivery → Nat) :
    t.liveSum f + (s.record n).weight f = s.liveSum f + r.weight f := by
  have wf' : Table.wf .fresh t.dlv.records = true := by rw [h]; exact Table.wf_put n r wf
  rw [liveSum_eq_total wf', liveSum_eq_total wf, h]
  exact Table.total_put (dflt := .fresh) (g := fun r => r.weight f) rfl wf n r

theorem weight_of_live {n : Nat} {d : Delivery} (live : s.live n = some d) (f : Delivery → Nat) :
    (s.record n).weight f = f d := by
  have : (s.record n).live = some d := live
  simp [DeliveryRecord.weight, this]

theorem weight_of_free {n : Nat} (free : s.live n = none) (f : Delivery → Nat) : (s.record n).weight f = 0 := by
  have : (s.record n).live = none := free
  simp [DeliveryRecord.weight, this]

theorem liveSum_rewrite {n : Nat} {d e : Delivery} (wf : Table.wf .fresh s.dlv.records = true) (live : s.live n = some d)
    {f : Delivery → Nat} (same : f d = f e) : (s.setLive n e).liveSum f = s.liveSum f := by
  have put := liveSum_put (t := s.setLive n e) wf rfl f
  rw [weight_of_live live, DeliveryRecord.weight_live] at put
  omega

theorem liveSum_settle {n : Nat} {d e : Delivery} {x : Ending} {r : Reason} (wf : Table.wf .fresh s.dlv.records = true)
    (live : s.live n = some d) (f : Delivery → Nat) : (s.settle n e x r).liveSum f + f d = s.liveSum f := by
  have put := liveSum_put (t := s.settle n e x r) wf (congrArg DeliveryTable.records (settle_records s n e x r)) f
  rwa [weight_of_live live, DeliveryRecord.weight_free, Nat.add_zero] at put

/-- The record that an accepted submission takes, and the delivery in it. -/
theorem accept_records (s : State) (n : Nat) (x : Submission) (o : Option Nat) :
    (s.accept n x o).state.dlv.records =
      Table.put .fresh (Table.put .fresh s.dlv.records (s.freeDelivery.getD 0)
          { issue := (s.record (s.freeDelivery.getD 0)).issue + 1, live := none }) (s.freeDelivery.getD 0)
        { issue := (s.record (s.freeDelivery.getD 0)).issue + 1, live := some (s.newDelivery n x (s.takeBody x o).2) } := by
  have records : (s.takeBody x o).1.dlv.records = s.dlv.records := by rw [takeBody_dlv]
  exact (enroll_records ..).trans (by simp only [record, records])

/-- What the checks of a submission say of the tables, once it passes them (R45). -/
theorem intakeCheck_passed {n : Nat} {x : Submission} {b : Bool} (h : s.intakeCheck n x b = none) :
    (s.sub n).service ≠ .unassigned ∧ (s.sub n).live ≠ 32 ∧ s.jnl.records.length + s.jnl.reservation ≠ 8192 ∧
    s.freeDelivery ≠ none ∧ (b = false → s.freeBody ≠ none) := by
  unfold intakeCheck at h
  simp only [ite_eq_right_iff, reduceCtorEq, imp_false, ite_eq_iff, and_false, false_or, not_or, not_and] at h
  obtain ⟨⟨-, service⟩, -, -, -, live, -, journal, table, store, -⟩ := h
  refine ⟨service, live, journal, table, fun e room => ?_⟩
  exact store e (by simp [storeRoom, room])

theorem live_freeDelivery (h : s.freeDelivery ≠ none) : s.live (s.freeDelivery.getD 0) = none := by
  obtain ⟨k, hk⟩ := Option.ne_none_iff_exists'.1 h
  rw [hk]
  simpa using (lowestFree_some hk).2.2.1

theorem liveSum_accept {n : Nat} {x : Submission} {o : Option Nat} (wf : Table.wf .fresh s.dlv.records = true)
    (free : s.freeDelivery ≠ none) (f : Delivery → Nat) :
    (s.accept n x o).state.liveSum f = s.liveSum f + f (s.newDelivery n x (s.takeBody x o).2) := by
  have emptied := liveSum_put (s := s)
    (t := s.setRecord (s.freeDelivery.getD 0) { issue := (s.record (s.freeDelivery.getD 0)).issue + 1, live := none }) wf rfl f
  have taken := liveSum_put (t := (s.accept n x o).state)
    (s := s.setRecord (s.freeDelivery.getD 0) { issue := (s.record (s.freeDelivery.getD 0)).issue + 1, live := none })
    (Table.wf_put _ _ wf) (accept_records s n x o) f
  rw [weight_of_free (live_freeDelivery free)] at emptied
  rw [record_setRecord_same] at taken
  simp only [DeliveryRecord.weight_live, DeliveryRecord.weight_free] at emptied taken
  omega

/-- Every move keeps the canonical form of the delivery records. -/
theorem wf_records_move (m : Move s t) (wf : Table.wf .fresh s.dlv.records = true) :
    Table.wf .fresh t.dlv.records = true := by
  cases m with
  | frame same => rwa [show t.dlv.records = s.dlv.records from congrArg Standing.records same]
  | reset same => rw [show t.dlv.records = [] from congrArg Standing.records same]; rfl
  | report => exact wf
  | service => exact wf
  | assign => exact wf
  | release => exact wf
  | modify => unfold rekey; split <;> exact wf
  | account => exact wf
  | tariff => exact wf
  | profile p => rw [setProfile_dlv]; exact wf
  | accept n x o => rw [accept_records]; exact Table.wf_put _ _ (Table.wf_put _ _ wf)
  | rewrite => exact Table.wf_put _ _ wf
  | settle => rw [settle_records]; exact Table.wf_put _ _ wf
  | takeUsage => exact wf

/-- Every move but a rewrite, an acceptance, a settlement or a reset leaves the delivery records. -/
theorem rekey_dlv (s : State) (n : Nat) (u v : Subscriber) : (s.rekey n u v).dlv = s.dlv := by
  unfold rekey; split <;> rfl

theorem rekey_jnl (s : State) (n : Nat) (u v : Subscriber) : (s.rekey n u v).jnl = s.jnl := by
  unfold rekey; split <;> rfl

theorem rekey_act (s : State) (n : Nat) (u v : Subscriber) : (s.rekey n u v).act = s.act := by
  unfold rekey; split <;> rfl

theorem rekey_txt (s : State) (n : Nat) (u v : Subscriber) : (s.rekey n u v).txt = s.txt := by
  unfold rekey; split <;> rfl

/-! ### The reservation and the sequences (R49, R169) -/

theorem accept_sequence (s : State) (n : Nat) (x : Submission) (o : Option Nat) :
    (s.accept n x o).state.dlv.sequence = s.dlv.sequence + 1 := (enroll_sequence ..).trans (by rw [takeBody_dlv])

theorem accept_jnl (s : State) (n : Nat) (x : Submission) (o : Option Nat) :
    (s.accept n x o).state.jnl = { s.jnl with reservation := s.jnl.reservation + 1 } :=
  (enroll_jnl ..).trans (by rw [takeBody_jnl])

theorem reset_ledgerAgrees : State.reset.ledgerAgrees := by
  refine ⟨rfl, rfl, by decide, by decide⟩

theorem ledgerAgrees_of_same (records : t.dlv.records = s.dlv.records) (sequence : t.dlv.sequence = s.dlv.sequence)
    (usage : t.jnl.records = s.jnl.records) (reservation : t.jnl.reservation = s.jnl.reservation)
    (usageSequence : t.jnl.sequence = s.jnl.sequence) (h : s.ledgerAgrees) : t.ledgerAgrees := by
  simpa only [ledgerAgrees, liveTotal, liveNumbers, liveWhere, records, sequence, usage, reservation, usageSequence] using h

theorem ledgerAgrees_of_standing (same : t.standing = s.standing) (h : s.ledgerAgrees) : t.ledgerAgrees :=
  ledgerAgrees_of_same (congrArg Standing.records same) (congrArg Standing.sequence same) (congrArg Standing.usage same)
    (congrArg Standing.reservation same) (congrArg Standing.usageSequence same) h

theorem ledgerAgrees_of_blocks (dlv : t.dlv = s.dlv) (jnl : t.jnl = s.jnl) (h : s.ledgerAgrees) : t.ledgerAgrees :=
  ledgerAgrees_of_same (by rw [dlv]) (by rw [dlv]) (by rw [jnl]) (by rw [jnl]) (by rw [jnl]) h

/-- The ledger with the live total read as a sum. -/
theorem ledgerAgrees_iff (s : State) :
    s.ledgerAgrees ↔ Table.wf .fresh s.dlv.records = true ∧ s.jnl.reservation = s.liveSum (fun _ => 1) ∧
      s.jnl.records.length + s.jnl.reservation ≤ 8192 ∧
      s.dlv.sequence = BitVec.ofNat 32 (s.liveSum (fun _ => 1)) + s.jnl.sequence := by
  unfold ledgerAgrees
  refine and_congr_right fun wf => ?_
  rw [liveTotal_eq wf]

theorem ledgerAgrees_accept {n : Nat} {x : Submission} {o : Option Nat} (h : s.ledgerAgrees)
    (room : s.jnl.records.length + s.jnl.reservation ≠ 8192) (table : s.freeDelivery ≠ none)
    (wf : Table.wf .fresh (s.accept n x o).state.dlv.records = true) : (s.accept n x o).state.ledgerAgrees := by
  obtain ⟨wfS, reservation, fits, sequence⟩ := (ledgerAgrees_iff s).1 h
  rw [ledgerAgrees_iff, liveSum_accept wfS table, accept_jnl, accept_sequence, sequence, BitVec.ofNat_add]
  refine ⟨wf, by rw [reservation], by dsimp only; omega, ?_⟩
  ac_rfl

theorem ledgerAgrees_settle {n : Nat} {d e : Delivery} {x : Ending} {r : Reason} (h : s.ledgerAgrees)
    (live : s.live n = some d) (wf : Table.wf .fresh (s.settle n e x r).dlv.records = true) :
    (s.settle n e x r).ledgerAgrees := by
  obtain ⟨wfS, reservation, fits, sequence⟩ := (ledgerAgrees_iff s).1 h
  have sum := liveSum_settle (e := e) (x := x) (r := r) wfS live (fun _ => 1)
  have issued : (s.settle n e x r).dlv.sequence = s.dlv.sequence := by rw [settle_records]; rfl
  rw [← sum] at reservation
  rw [← sum, BitVec.ofNat_add] at sequence
  rw [ledgerAgrees_iff, issued, settle_jnl, sequence]
  refine ⟨wf, ?_, ?_, ?_⟩
  · rw [Journal.append, reservation]; exact Nat.add_sub_cancel ..
  · rw [Journal.append, List.length_append, List.length_singleton]; dsimp only; omega
  · rw [BitVec.add_assoc, BitVec.add_comm _ s.jnl.sequence]; rfl

theorem ledgerAgrees_move (m : Move s t) (h : s.ledgerAgrees) : t.ledgerAgrees := by
  have wf := wf_records_move m h.1
  cases m with
  | frame same => exact ledgerAgrees_of_standing same h
  | reset same => exact ledgerAgrees_of_standing same reset_ledgerAgrees
  | report => exact h
  | service => exact h
  | assign => exact h
  | release => exact h
  | modify => exact ledgerAgrees_of_blocks (rekey_dlv ..) (rekey_jnl ..) h
  | account => exact h
  | tariff => exact h
  | profile => exact ledgerAgrees_of_blocks (setProfile_dlv ..) (setProfile_jnl ..) h
  | accept n x o checked _ =>
    obtain ⟨-, -, room, table, -⟩ := intakeCheck_passed checked
    exact ledgerAgrees_accept h room table wf
  | rewrite n d e live _ =>
    rw [ledgerAgrees_iff] at h ⊢
    rw [liveSum_rewrite (e := e) h.1 live rfl]
    exact ⟨wf, h.2⟩
  | settle n d e x r live _ => exact ledgerAgrees_settle h live wf
  | takeUsage k =>
    refine ⟨h.1, h.2.1, ?_, h.2.2.2⟩
    have fits : s.jnl.records.length + s.jnl.reservation ≤ 8192 := h.2.2.1
    show (s.jnl.records.drop k).length + s.jnl.reservation ≤ 8192
    rw [List.length_drop]; omega

/-! ### The reserved amounts (R20) -/

theorem reservedAgrees_iff (s : State) :
    s.reservedAgrees ↔ Table.wf .fresh s.dlv.records = true ∧ ∀ n, (s.acct n).reserved = s.liveSum (holdIn n) := by
  simp only [reservedAgrees, reserved_eq_liveSum]

theorem reset_reservedAgrees : State.reset.reservedAgrees := ⟨rfl, fun _ => rfl⟩

theorem reservedAgrees_of_same (records : t.dlv.records = s.dlv.records)
    (reserved : ∀ n, (t.acct n).reserved = (s.acct n).reserved) (h : s.reservedAgrees) : t.reservedAgrees := by
  rw [reservedAgrees_iff] at h ⊢
  exact ⟨records ▸ h.1, fun n => by rw [reserved, liveSum_of_records records, h.2]⟩

theorem reservedAgrees_of_standing (same : t.standing = s.standing) (h : s.reservedAgrees) : t.reservedAgrees :=
  reservedAgrees_of_same (congrArg Standing.records same) (fun n => by rw [acct_of_standing same]) h

theorem reservedAgrees_move (m : Move s t) (h : s.reservedAgrees) : t.reservedAgrees := by
  have wf := wf_records_move m h.1
  obtain ⟨wfS, reserved⟩ := (reservedAgrees_iff s).1 h
  cases m with
  | frame same => exact reservedAgrees_of_standing same h
  | reset same => exact reservedAgrees_of_standing same reset_reservedAgrees
  | report => exact h
  | service => exact h
  | assign => exact h
  | release => exact h
  | modify => exact reservedAgrees_of_same (by rw [rekey_dlv]) (fun n => by rw [acct, acct, rekey_act]) h
  | account n a same _ =>
    refine reservedAgrees_of_same (s := s) rfl (fun m => ?_) h
    rw [acct_setAcct]
    split
    · subst m; exact same
    · rfl
  | tariff => exact h
  | profile => exact reservedAgrees_of_same (by rw [setProfile_dlv]) (fun n => by rw [acct_setProfile]) h
  | accept n x o checked _ =>
    obtain ⟨-, -, -, table, -⟩ := intakeCheck_passed checked
    refine (reservedAgrees_iff _).2 ⟨wf, fun m => ?_⟩
    have added : holdIn m (s.newDelivery n x (s.takeBody x o).2) =
        if (s.sub n).account = m then s.holdFor (s.sub n) x else 0 := rfl
    rw [liveSum_accept wfS table, accept_acct, added]
    by_cases hm : m = (s.sub n).account
    · simp [hm, reserved]
    · simp [hm, Ne.symm hm, reserved]
  | rewrite n d e live ties =>
    refine (reservedAgrees_iff _).2 ⟨wf, fun m => ?_⟩
    rw [liveSum_rewrite wfS live (by simp [holdIn, ties.account, ties.hold])]
    exact reserved m
  | settle n d e x r live ties =>
    refine (reservedAgrees_iff _).2 ⟨wf, fun m => ?_⟩
    have sum := liveSum_settle (e := e) (x := x) (r := r) wfS live (holdIn m)
    have before := reserved m
    rw [settle_acct]
    simp only [holdIn, ties.account, ties.hold, eq_comm (b := m)] at sum
    split
    · rw [if_pos ‹_›] at sum
      simp only [Account.settle]; omega
    · rw [if_neg ‹_›] at sum
      omega
  | takeUsage => exact h

/-! ### The live counts (R14) -/

theorem liveCountsAgree_iff (s : State) :
    s.liveCountsAgree ↔ Table.wf .fresh s.dlv.records = true ∧
      ∀ n, (s.sub n).live = s.liveSum (countFor n) ∧ (s.sub n).live ≤ 32 ∧
        ((s.sub n).service = .unassigned → (s.sub n).live = 0) := by
  simp only [liveCountsAgree, liveCount_eq_liveSum]

theorem reset_liveCountsAgree : State.reset.liveCountsAgree :=
  ⟨rfl, fun _ => ⟨rfl, Nat.zero_le _, fun _ => rfl⟩⟩

/-- The counts agree as long as records keep their counts, and no record with a live delivery leaves use. -/
theorem liveCountsAgree_of_same (records : t.dlv.records = s.dlv.records) (live : ∀ n, (t.sub n).live = (s.sub n).live)
    (service : ∀ n, (t.sub n).service = .unassigned → (s.sub n).service = .unassigned ∨ (s.sub n).live = 0)
    (h : s.liveCountsAgree) : t.liveCountsAgree := by
  rw [liveCountsAgree_iff] at h ⊢
  refine ⟨records ▸ h.1, fun n => ?_⟩
  obtain ⟨count, top, idle⟩ := h.2 n
  rw [live, liveSum_of_records records]
  exact ⟨count, top, fun unassigned => (service n unassigned).elim idle id⟩

theorem liveCountsAgree_of_standing (same : t.standing = s.standing) (h : s.liveCountsAgree) : t.liveCountsAgree :=
  liveCountsAgree_of_same (congrArg Standing.records same) (fun n => by rw [sub_of_standing same])
    (fun n u => .inl (by rwa [sub_of_standing same] at u)) h

/-- A write of one record that keeps its count. -/
theorem liveCountsAgree_setSub {n : Nat} {u : Subscriber} (live : u.live = (s.sub n).live)
    (service : u.service = .unassigned → (s.sub n).service = .unassigned ∨ (s.sub n).live = 0) (h : s.liveCountsAgree) :
    (s.setSub n u).liveCountsAgree := by
  refine liveCountsAgree_of_same (s := s) rfl (fun m => ?_) (fun m => ?_) h
  all_goals
    rw [sub_setSub]
    split
    · subst m; assumption
    · first | rfl | exact .inl

theorem liveCountsAgree_of_subs (dlv : t.dlv = s.dlv) (same : ∀ n, t.sub n = s.sub n) (h : s.liveCountsAgree) :
    t.liveCountsAgree :=
  liveCountsAgree_of_same (by rw [dlv]) (fun n => by rw [same]) (fun n u => .inl (by rwa [same] at u)) h

theorem liveCountsAgree_move (m : Move s t) (h : s.liveCountsAgree) : t.liveCountsAgree := by
  have wf := wf_records_move m h.1
  obtain ⟨wfS, counts⟩ := (liveCountsAgree_iff s).1 h
  cases m with
  | frame same => exact liveCountsAgree_of_standing same h
  | reset same => exact liveCountsAgree_of_standing same reset_liveCountsAgree
  | report n u only => exact liveCountsAgree_setSub (by rw [only]) (fun e => .inl (by rw [only] at e; exact e)) h
  | service n x used stays => exact liveCountsAgree_setSub rfl (fun e => absurd e stays) h
  | assign n u free used _ _ _ idle =>
    have unassigned : (s.sub n).service = .unassigned := by simpa [Subscriber.inUse] using free
    refine liveCountsAgree_of_subs rfl (sub_bindAddress _ _ _) (liveCountsAgree_setSub (n := n) (u := u) ?_ ?_ h)
    · rw [idle, (counts n).2.2 unassigned]
    · exact fun _ => .inl unassigned
  | release n _ idle =>
    refine liveCountsAgree_of_subs rfl (sub_bindAddress _ _ _) (liveCountsAgree_setSub (n := n) (u := .unassigned) ?_ ?_ h)
    · exact idle.symm
    · exact fun _ => .inr idle
  | modify n new _ service live _ _ =>
    have written (u : Subscriber) (hs : u.service = new.service) (hl : u.live = new.live) :
        (s.setSub n u).liveCountsAgree :=
      liveCountsAgree_setSub (hl.trans live) (fun e => .inl (service ▸ hs ▸ e)) h
    unfold rekey
    split
    · exact written new rfl rfl
    · exact liveCountsAgree_of_subs rfl (fun m => by rw [sub_bindAddress, sub_bindAddress])
        (written { new with heard := none } rfl rfl)
  | account => exact h
  | tariff => exact h
  | profile p f => exact liveCountsAgree_of_subs (setProfile_dlv ..) (fun n => by cases p <;> rfl) h
  | accept n x o checked _ =>
    obtain ⟨service, room, -, table, -⟩ := intakeCheck_passed checked
    refine (liveCountsAgree_iff _).2 ⟨wf, fun m => ?_⟩
    obtain ⟨count, top, idle⟩ := counts m
    have added : countFor m (s.newDelivery n x (s.takeBody x o).2) = if n = m then 1 else 0 := rfl
    rw [liveSum_accept wfS table, accept_sub, added]
    by_cases hm : m = n
    · subst hm
      simp only [if_true]
      exact ⟨by omega, by omega, fun e => absurd e service⟩
    · simp only [if_neg hm, if_neg (Ne.symm hm)]
      exact ⟨count, top, idle⟩
  | rewrite n d e live ties =>
    refine (liveCountsAgree_iff _).2 ⟨wf, fun m => ?_⟩
    rw [liveSum_rewrite wfS live (by simp [countFor, ties.subscriber])]
    exact counts m
  | settle n d e x r live ties =>
    refine (liveCountsAgree_iff _).2 ⟨wf, fun m => ?_⟩
    have sum := liveSum_settle (e := e) (x := x) (r := r) wfS live (countFor m)
    obtain ⟨count, top, idle⟩ := counts m
    rw [settle_sub]
    simp only [countFor, ties.subscriber, eq_comm (b := m)] at sum
    split
    · rw [if_pos ‹_›] at sum
      refine ⟨by dsimp only; omega, by dsimp only; omega, fun unassigned => ?_⟩
      have := idle unassigned
      dsimp only; omega
    · rw [if_neg ‹_›] at sum
      exact ⟨by omega, top, idle⟩
  | takeUsage => exact h

/-! ### The reference counts (R63, R66) -/

theorem bodiesAgree_iff (s : State) :
    s.bodiesAgree ↔ Table.wf .fresh s.dlv.records = true ∧
      ∀ n, (s.body n).refs = s.liveSum (countBody n) ∧ ((s.body n).inUse = true ↔ 0 < (s.body n).refs) := by
  simp only [bodiesAgree, bodyCount_eq_liveSum]

theorem reset_bodiesAgree : State.reset.bodiesAgree := by
  refine ⟨rfl, fun n => ⟨rfl, ?_⟩⟩
  show Body.free.inUse = true ↔ 0 < Body.free.refs
  decide

theorem bodiesAgree_of_same (records : t.dlv.records = s.dlv.records) (bodies : ∀ n, t.body n = s.body n)
    (h : s.bodiesAgree) : t.bodiesAgree := by
  rw [bodiesAgree_iff] at h ⊢
  refine ⟨records ▸ h.1, fun n => ?_⟩
  rw [bodies, liveSum_of_records records]
  exact h.2 n

theorem bodiesAgree_of_standing (same : t.standing = s.standing) (h : s.bodiesAgree) : t.bodiesAgree :=
  bodiesAgree_of_same (congrArg Standing.records same) (body_of_standing same) h

/-- The lowest free body entry is free. -/
theorem inUse_freeBody (h : s.freeBody ≠ none) : (s.body (s.freeBody.getD 0)).inUse = false := by
  obtain ⟨k, hk⟩ := Option.ne_none_iff_exists'.1 h
  rw [hk]
  exact (lowestFree_some hk).2.2.1

/-- An acceptance adds one reference to the body of the submission, which is then in use (R52, R61). -/
theorem accept_body {n : Nat} {x : Submission} {o : Option Nat} (h : s.bodiesAgree)
    (checked : s.intakeCheck n x o.isSome = none) (held : ∀ b, o = some b → (s.body b).inUse = true) (m : Nat) :
    ((s.accept n x o).state.body m).refs = (s.body m).refs + (if (s.takeBody x o).2 = m then 1 else 0) ∧
    (((s.accept n x o).state.body m).inUse = true ↔ (s.takeBody x o).2 = m ∨ (s.body m).inUse = true) := by
  have agree := ((bodiesAgree_iff s).1 h).2
  have same : (s.accept n x o).state.body m = (s.takeBody x o).1.body m := enroll_body ..
  rw [same]
  cases o with
  | none =>
    have free := inUse_freeBody ((intakeCheck_passed checked).2.2.2.2 rfl)
    simp only [takeBody, body_createBody]
    split
    · subst m
      have unused : (s.body (s.freeBody.getD 0)).refs = 0 := by
        have := (agree (s.freeBody.getD 0)).2
        rw [free] at this
        simpa using this
      simp [unused]
    · rename_i ne
      simp [Ne.symm ne]
  | some b =>
    simp only [takeBody, body_shareBody]
    split
    · subst m; simp [held b rfl]
    · rename_i ne
      simp [Ne.symm ne]

theorem bodiesAgree_move (m : Move s t) (h : s.bodiesAgree) : t.bodiesAgree := by
  have wf := wf_records_move m h.1
  obtain ⟨wfS, agree⟩ := (bodiesAgree_iff s).1 h
  cases m with
  | frame same => exact bodiesAgree_of_standing same h
  | reset same => exact bodiesAgree_of_standing same reset_bodiesAgree
  | report => exact h
  | service => exact h
  | assign => exact h
  | release => exact h
  | modify => exact bodiesAgree_of_same (by rw [rekey_dlv]) (fun n => by rw [body, body, rekey_txt]) h
  | account => exact h
  | tariff => exact h
  | profile => exact bodiesAgree_of_same (by rw [setProfile_dlv]) (fun n => by rw [body_setProfile]) h
  | accept n x o checked held =>
    obtain ⟨-, -, -, table, -⟩ := intakeCheck_passed checked
    refine (bodiesAgree_iff _).2 ⟨wf, fun m => ?_⟩
    obtain ⟨refs, inUse⟩ := accept_body h checked held m
    obtain ⟨count, used⟩ := agree m
    have added : countBody m (s.newDelivery n x (s.takeBody x o).2) = if (s.takeBody x o).2 = m then 1 else 0 := rfl
    rw [liveSum_accept wfS table, added, refs, inUse, used, count]
    refine ⟨rfl, ?_⟩
    split <;> simp [*]
  | rewrite n d e live ties =>
    refine (bodiesAgree_iff _).2 ⟨wf, fun m => ?_⟩
    rw [liveSum_rewrite wfS live (by simp [countBody, ties.body])]
    exact agree m
  | settle n d e x r live ties =>
    refine (bodiesAgree_iff _).2 ⟨wf, fun m => ?_⟩
    have sum := liveSum_settle (e := e) (x := x) (r := r) wfS live (countBody m)
    obtain ⟨count, used⟩ := agree m
    rw [settle_body, body_releaseBody]
    simp only [countBody, ties.body, eq_comm (b := m)] at sum
    by_cases hm : m = e.body
    · subst hm
      simp only [if_true] at sum ⊢
      split
      · exact ⟨by simp only [Body.free]; omega, by decide⟩
      · exact ⟨by dsimp only; omega, by dsimp only; rw [used]; omega⟩
    · simp only [if_neg hm] at sum ⊢
      exact ⟨by omega, used⟩
  | takeUsage => exact h

/-! ### The usage records (R169) -/

theorem reset_journalConsecutive : State.reset.journalConsecutive := by
  intro i u h
  simp [reset] at h

theorem journalConsecutive_of_same (records : t.jnl.records = s.jnl.records) (sequence : t.jnl.sequence = s.jnl.sequence)
    (h : s.journalConsecutive) : t.journalConsecutive := by
  simpa only [journalConsecutive, records, sequence] using h

theorem journalConsecutive_append {u : UsageRecord} (jnl : t.jnl = s.jnl.append u) (sequence : u.sequence = s.jnl.sequence)
    (h : s.journalConsecutive) : t.journalConsecutive := by
  intro i v hv
  rw [jnl] at hv ⊢
  simp only [Journal.append, List.length_append, List.length_singleton] at hv ⊢
  rcases Nat.lt_or_ge i s.jnl.records.length with lt | ge
  · rw [List.getElem?_append_left lt] at hv
    rw [h i v hv, Nat.succ_sub lt.le, Nat.succ_eq_add_one, BitVec.ofNat_add]
    simp [BitVec.sub_eq_add_neg]
  · rw [List.getElem?_append_right ge] at hv
    have last : i - s.jnl.records.length = 0 := by
      by_contra ne
      rw [List.getElem?_eq_none (by simp; omega)] at hv
      cases hv
    rw [last] at hv
    cases hv
    rw [sequence, show s.jnl.records.length + 1 - i = 1 by omega]
    simp

theorem journalConsecutive_drop {k : Nat} (records : t.jnl.records = s.jnl.records.drop k)
    (sequence : t.jnl.sequence = s.jnl.sequence) (h : s.journalConsecutive) : t.journalConsecutive := by
  intro i u hu
  rw [records, List.getElem?_drop] at hu
  rw [sequence, h _ u hu, records, List.length_drop, Nat.sub_sub]

theorem journalConsecutive_move (m : Move s t) (h : s.journalConsecutive) : t.journalConsecutive := by
  cases m with
  | frame same => exact journalConsecutive_of_same (congrArg Standing.usage same) (congrArg Standing.usageSequence same) h
  | reset same =>
    exact journalConsecutive_of_same (congrArg Standing.usage same) (congrArg Standing.usageSequence same)
      reset_journalConsecutive
  | report => exact h
  | service => exact h
  | assign => exact h
  | release => exact h
  | modify => exact journalConsecutive_of_same (by rw [rekey_jnl]) (by rw [rekey_jnl]) h
  | account => exact h
  | tariff => exact h
  | profile => exact journalConsecutive_of_same (by rw [setProfile_jnl]) (by rw [setProfile_jnl]) h
  | accept => exact journalConsecutive_of_same (by rw [accept_jnl]) (by rw [accept_jnl]) h
  | rewrite => exact h
  | settle => exact journalConsecutive_append (settle_jnl ..) rfl h
  | takeUsage => exact journalConsecutive_drop rfl rfl h

end State

/-- Settles O57: every step is a run of moves, and every move keeps each of the five invariants. -/
theorem stepKeepsCounts : Obligations.StepKeepsCounts := by
  unfold Obligations.StepKeepsCounts
  intro s t h
  have moves := step_moves h
  exact ⟨moves.keep fun _ _ => State.ledgerAgrees_move, moves.keep fun _ _ => State.reservedAgrees_move,
    moves.keep fun _ _ => State.liveCountsAgree_move, moves.keep fun _ _ => State.bodiesAgree_move,
    moves.keep fun _ _ => State.journalConsecutive_move⟩

end Sys2Proof.Machine
end

section
/-! PROOFS. How a ready request is answered, and what the resets leave (R185, R190, R191): the shapes that the statements about
requests share. -/

namespace Sys2Proof.Machine

/-! ### The answer to a ready request -/

namespace State

variable (s : State)

@[simp] theorem sub_taken (n : Nat) : s.taken.sub n = s.sub n := rfl
@[simp] theorem lookup_taken (a : Word) : s.taken.lookup a = s.lookup a := rfl
@[simp] theorem acct_taken (n : Nat) : s.taken.acct n = s.acct n := rfl
@[simp] theorem named_taken (t : Ticket) : s.taken.named t = s.named t := rfl

end State

/-- A ready request is answered with what its service answers in the state from which its record has left the queue. -/
theorem exec_of_served {c : Instr} {kind tag : Byte} {p : List Byte} {serve : List Byte → State → State × Answer}
    {s u : State} {a : Answer} (run : exec c s = request kind tag p serve s)
    (ready : s.ready { kind := kind, tag := tag, payload := p }) (served : serve p s.taken = (u, a)) :
    exec c s = .next (u.answered { kind := kind, tag := tag, payload := p } a) := by
  rw [run, request_of_ready ready, served]

/-- A request that its service refuses changes nothing but the link. -/
theorem refuses_of_served {c : Instr} {kind tag : Byte} {p : List Byte} {serve : List Byte → State → State × Answer}
    {s : State} {x : Status} (run : exec c s = request kind tag p serve s)
    (ready : s.ready { kind := kind, tag := tag, payload := p }) (served : serve p s.taken = refuse s.taken x) :
    Refuses c s { kind := kind, tag := tag, payload := p } x := exec_of_served run ready served

theorem firstFailing_cons (b : Bool) (x : Status) (rest : List (Bool × Status)) :
    firstFailing ((b, x) :: rest) = if b then some x else firstFailing rest := by
  cases b <;> simp [firstFailing]

theorem firstFailing_nil : firstFailing [] = none := rfl

/-- The link after a request that raised no notice. -/
theorem answered_lnk {s u : State} (same : u.lnk = s.taken.lnk) (r : LinkRecord) (a : Answer) :
    (u.answered r a).lnk = s.lnk.answered r a := by
  simp [State.answered, Link.answered, same, State.taken]

/-! ### The resets -/

/-- A read after several entries were written, each from its number. -/
theorem Table.read_foldl_put {α : Type} [DecidableEq α] (dflt : α) (f : Nat → α) (l : List Nat) (t : Table α) (n : Nat) :
    Table.read dflt (l.foldl (fun t k => Table.put dflt t k (f k)) t) n = if n ∈ l then f n else Table.read dflt t n := by
  induction l generalizing t with
  | nil => simp
  | cons k l ih =>
    rw [List.foldl_cons, ih, Table.read_put]
    by_cases hl : n ∈ l
    · simp [hl]
    · by_cases hk : n = k <;> simp [hl, hk]

/-- A reset takes each zone to its power-on values at the level of its input (R119; log 6). -/
theorem zone_resetBlocks (s : State) {z : Nat} (h : z < 8) : s.resetBlocks.zone z = .powerOn (s.zone z).input := by
  have := Table.read_foldl_put (.powerOn false) (fun n => Zone.powerOn (s.zone n).input) zoneNumbers [] z
  rw [if_pos ((mem_zoneNumbers z).2 h)] at this
  exact this

/-- Settles O10: FULL RESET is answered from the reset blocks, and POWER ON goes to them. -/
theorem resetsReturnPowerOnValues : Obligations.ResetsReturnPowerOnValues := by
  unfold Obligations.ResetsReturnPowerOnValues
  refine fun s => ⟨fun tag ready => ?_, fun rate => ?_, fun tag p ready length => ?_⟩
  · refine ⟨_, exec_of_served (serve := serveFullReset) rfl ready rfl, rfl, rfl, rfl, rfl, rfl, rfl, rfl, rfl, fun _ => rfl,
      fun z hz => zone_resetBlocks s.taken hz, fun _ => ⟨rfl, rfl⟩, rfl, ?_⟩
    exact answered_lnk rfl _ _
  · exact ⟨_, rfl, rfl, rfl, rfl, rfl, rfl, rfl, rfl, rfl, fun _ => rfl, fun z hz => zone_resetBlocks s hz,
      fun _ => ⟨rfl, rfl⟩, rfl, rfl⟩
  · exact refuses_of_served (serve := serveFullReset) rfl ready (if_pos length)

/-! ### The invariants at reset -/

namespace State

theorem reset_live (n : Nat) : State.reset.live n = none := rfl

theorem reset_clockInRange : State.reset.clockInRange := by
  refine ⟨?_, ?_, ?_, fun _ => ⟨rfl, rfl⟩⟩ <;> decide

theorem reset_calendarAgrees : State.reset.calendarAgrees := by
  intro k
  refine ⟨List.nodup_nil, fun n => ⟨fun h => ?_, fun ⟨d, live, _⟩ => ?_⟩⟩
  · cases h
  · rw [reset_live] at live; cases live

theorem reset_imagesFit : State.reset.imagesFit := by
  refine ⟨fun n d live => ?_, fun g i held => ?_⟩
  · rw [reset_live] at live; cases live
  · rcases held with h | h <;> cases h

theorem reset_plansInRange : State.reset.plansInRange := by
  have zone : ZoneSettings.powerOn.inRange := ⟨by decide, nofun⟩
  have group : GroupSettings.powerOn.inRange := by unfold GroupSettings.inRange; decide
  exact ⟨fun _ => ⟨zone, zone⟩, fun _ => ⟨group, group⟩, fun g p held => by rcases held with h | h <;> cases h⟩

end State

/-- Settles O60: at reset the tables are empty and every block stands at its power-on values. -/
theorem resetMeetsInvariants : Obligations.ResetMeetsInvariants := by
  unfold Obligations.ResetMeetsInvariants
  refine ⟨?_, ?_, fun _ => ⟨rfl, rfl⟩, State.reset_clockInRange, ?_, nofun, State.reset_mapAgrees,
    State.reset_subscribersInRange, State.reset_fundsInRange, State.reset_ledgerAgrees, State.reset_reservedAgrees,
    State.reset_liveCountsAgree, State.reset_bodiesAgree, State.reset_calendarAgrees, State.reset_imagesFit,
    State.reset_plansInRange, ?_, State.reset_journalConsecutive⟩
  · refine ⟨rfl, rfl, rfl, rfl, rfl, rfl, rfl, rfl, rfl, rfl, rfl, rfl, rfl, rfl⟩
  · exact ⟨Nat.zero_le _, Nat.zero_le _, Nat.zero_le _, fun _ => Nat.zero_le _⟩
  · exact ⟨fun h => absurd rfl h, fun _ _ _ => rfl⟩
  · exact fun g _ h _ _ p q => ⟨nofun, nofun⟩

end Sys2Proof.Machine
end

section
/-! PROOFS. The requests of the unit directory: what an accepted one writes, what it leaves, and what a refused one answers
(R7 to R12). -/

namespace Sys2Proof.Machine

/-! ### The next eligible serial (R7) -/

/-- The defined intervals (R2). -/
theorem intervalDefined_iff (n : Nat) : intervalDefined n = true ↔ n = 4 ∨ n = 8 ∨ n = 16 ∨ n = 32 ∨ n = 64 := by
  simp [intervalDefined, or_assoc]

/-- Counting frames forward keeps step with the residues of a defined interval, though the serial wraps. -/
theorem toNat_add_mod {i : Nat} (h : intervalDefined i = true) (x : Serial) {k : Nat} (hk : k < 4294967296) :
    (x + BitVec.ofNat 32 k).toNat % i = (x.toNat + k) % i := by
  have dvd : i ∣ 4294967296 := by
    rcases (intervalDefined_iff i).1 h with rfl | rfl | rfl | rfl | rfl <;> decide
  rw [BitVec.toNat_add, BitVec.toNat_ofNat, Nat.mod_eq_of_lt hk]
  exact Nat.mod_mod_of_dvd _ dvd

/-- The wait from residue `r` to residue `a`: it ends at `a`, no shorter one does, and it is their difference. -/
theorem wait_spec {i a r : Nat} (h : intervalDefined i = true) (ha : a < i) (hr : r < i) :
    (r + (a + i - r) % i) % i = a ∧ (∀ k, k < (a + i - r) % i → (r + k) % i ≠ a) ∧ (r = a → (a + i - r) % i = 0) ∧
    (((a + i - r) % i : Nat) : Int) = ((a : Int) - (r : Int)) % (i : Int) := by
  rcases (intervalDefined_iff i).1 h with rfl | rfl | rfl | rfl | rfl <;>
    exact ⟨by omega, fun k hk => by omega, fun e => by omega, by omega⟩

/-- Settles O14: the next eligible serial lies one wait ahead, and the wait is the first that ends at the home residue. -/
theorem nextEligibleIsFirstEligible : Obligations.NextEligibleIsFirstEligible := by
  unfold Obligations.NextEligibleIsFirstEligible
  intro u x defined
  have positive : 0 < u.interval := by
    rcases (intervalDefined_iff _).1 defined with e | e | e | e | e <;> omega
  have small : u.interval ≤ 64 := by
    rcases (intervalDefined_iff _).1 defined with e | e | e | e | e <;> omega
  obtain ⟨ends, first, none, difference⟩ := wait_spec defined (Nat.mod_lt (homeFrame u.address) positive)
    (Nat.mod_lt x.toNat positive)
  have eligible_iff (k : Nat) (hk : k < 4294967296) :
      u.eligible (x + BitVec.ofNat 32 k) =
        decide ((x.toNat % u.interval + k) % u.interval = homeFrame u.address % u.interval) := by
    rw [Subscriber.eligible, toNat_add_mod defined x hk, Nat.mod_add_mod]
  have next : u.nextEligible x = x + BitVec.ofNat 32
      ((homeFrame u.address % u.interval + u.interval - x.toNat % u.interval) % u.interval) := rfl
  generalize waitEq : (homeFrame u.address % u.interval + u.interval - x.toNat % u.interval) % u.interval = wait at *
  have short : wait < u.interval := waitEq ▸ Nat.mod_lt _ positive
  have ahead : (u.nextEligible x - x).toNat = wait := by
    rw [next, add_sub_cancel_left, BitVec.toNat_ofNat]; omega
  refine ⟨?_, ?_, fun eligible => ?_, by rwa [ahead], fun k hk => ?_⟩
  · rw [next, show u.address.toNat % 64 = homeFrame u.address from rfl, ← difference, BitVec.ofInt_natCast]
  · rw [next, eligible_iff wait (by omega), decide_eq_true_eq]; exact ends
  · have now : x.toNat % u.interval = homeFrame u.address % u.interval := by simpa [Subscriber.eligible] using eligible
    rw [next, none now]; simp
  · rw [ahead] at hk
    rw [eligible_iff k (by omega), decide_eq_false_iff_not]
    exact first k hk

end Sys2Proof.Machine
end

section
/-! PROOFS. The requests of the unit directory: what an accepted one writes, what it leaves, and what a refused one answers
(R8 to R12). -/

namespace Sys2Proof.Machine

/-! ### SUSPEND and RESUME (R11) -/

/-- A request whose only write is one subscriber record. -/
theorem setSub_answered (s : State) (n : Nat) (u : Subscriber) (r : LinkRecord) (a : Answer) :
    (s.taken.setSub n u).answered r a =
      (s.withDir { s.dir with subs := ((s.taken.setSub n u).answered r a).dir.subs }).withLnk
        ((s.taken.setSub n u).answered r a).lnk ∧
    ((s.taken.setSub n u).answered r a).lnk = s.lnk.answered r a ∧
    ∀ m, ((s.taken.setSub n u).answered r a).sub m = if m = n then u else s.sub m :=
  ⟨rfl, answered_lnk rfl r a, fun m => s.taken.sub_setSub n m u⟩

/-- The checks of SUSPEND after that of the length; those of RESUME are the same. -/
theorem serveSuspend_eq {p : List Byte} (s : State) (length : p.length = 2) :
    serveSuspend p s =
      if 8192 ≤ get2 p 0 then refuse s .noSuch
      else if (s.sub (get2 p 0)).service = .active then
        (s.setSub (get2 p 0) { s.sub (get2 p 0) with service := .suspended }, .accept [])
      else refuse s .wrongState := if_neg (not_not.2 length)

theorem serveResume_eq {p : List Byte} (s : State) (length : p.length = 2) :
    serveResume p s =
      if 8192 ≤ get2 p 0 then refuse s .noSuch
      else if (s.sub (get2 p 0)).service = .suspended then
        (s.setSub (get2 p 0) { s.sub (get2 p 0) with service := .active }, .accept [])
      else refuse s .wrongState := if_neg (not_not.2 length)

/-- Settles O13: each request goes through its checks in order, and the move writes one record. -/
theorem suspendAndResumeMoveService : Obligations.SuspendAndResumeMoveService := by
  unfold Obligations.SuspendAndResumeMoveService
  refine fun s tag p => ⟨fun ready => ⟨fun length => ?_, fun length beyond => ?_, fun length number state => ?_,
    fun length number state => ?_⟩, fun ready => ⟨fun length => ?_, fun length beyond => ?_, fun length number state => ?_,
    fun length number state => ?_⟩⟩
  · exact refuses_of_served (serve := serveSuspend) rfl ready (if_pos length)
  · exact refuses_of_served (serve := serveSuspend) rfl ready (by rw [serveSuspend_eq _ length, if_pos beyond])
  · exact refuses_of_served (serve := serveSuspend) rfl ready
      (by rw [serveSuspend_eq _ length, if_neg (Nat.not_le.2 number), State.sub_taken, if_neg state])
  · obtain ⟨frame, link, subs⟩ := setSub_answered s (get2 p 0) { s.sub (get2 p 0) with service := .suspended }
      { kind := 0x12, tag := tag, payload := p } (.accept [])
    refine ⟨_, exec_of_served (serve := serveSuspend) rfl ready
      (by rw [serveSuspend_eq _ length, if_neg (Nat.not_le.2 number), State.sub_taken, if_pos state]), frame, link, fun m => ?_⟩
    rw [subs]; split <;> simp [*]
  · exact refuses_of_served (serve := serveResume) rfl ready (if_pos length)
  · exact refuses_of_served (serve := serveResume) rfl ready (by rw [serveResume_eq _ length, if_pos beyond])
  · exact refuses_of_served (serve := serveResume) rfl ready
      (by rw [serveResume_eq _ length, if_neg (Nat.not_le.2 number), State.sub_taken, if_neg state])
  · obtain ⟨frame, link, subs⟩ := setSub_answered s (get2 p 0) { s.sub (get2 p 0) with service := .active }
      { kind := 0x13, tag := tag, payload := p } (.accept [])
    refine ⟨_, exec_of_served (serve := serveResume) rfl ready
      (by rw [serveResume_eq _ length, if_neg (Nat.not_le.2 number), State.sub_taken, if_pos state]), frame, link, fun m => ?_⟩
    rw [subs]; split <;> simp [*]

end Sys2Proof.Machine
end

section
/-! PROOFS. ASSIGN SUBSCRIBER, RELEASE and MODIFY SUBSCRIBER (R8, R9, R10, R12). -/

namespace Sys2Proof.Machine

/-! ### What the codes of a settings payload say -/

theorem PagerClass.ofCode_eq_none_iff (n : Nat) : PagerClass.ofCode n = none ↔ 4 ≤ n := by
  unfold PagerClass.ofCode
  split <;> simp_all
  omega

theorem groupSetOfCode_eq_none_iff (n : Nat) : groupSetOfCode n = none ↔ 16 ≤ n := by
  unfold groupSetOfCode; split <;> simp_all

theorem groupSetOfCode_eq_some {n : Nat} {g : GroupSet} (h : groupSetOfCode n = some g) : n < 16 ∧ g = BitVec.ofNat 4 n := by
  unfold groupSetOfCode at h
  split at h
  · cases h; exact ⟨‹_›, rfl⟩
  · cases h

theorem ofNat4_eq_zero_iff {n : Nat} (h : n < 16) : BitVec.ofNat 4 n = 0 ↔ n = 0 := by
  refine ⟨fun e => ?_, fun e => by rw [e]; rfl⟩
  have : n % 16 = 0 := by simpa using congrArg BitVec.toNat e
  omega

/-- An address setting is 0 exactly when its number is. -/
theorem ofNat16_eq_zero_iff (p : List Byte) (i : Nat) : BitVec.ofNat 16 (get2 p i) = 0 ↔ get2 p i = 0 :=
  ⟨fun e => by by_contra ne; exact ofNat16_ne_zero (get2_lt p i) ne e, fun e => by rw [e]; rfl⟩

/-- Check 3 of R8: the ranges of the settings. -/
theorem assignSettings_eq_none_iff (p : List Byte) :
    assignSettings p = none ↔
      get2 p 2 = 0 ∨ 4 ≤ get1 p 4 ∨ intervalDefined (get1 p 5) = false ∨ 16 ≤ get1 p 6 ∨ get1 p 6 = 0 ∨ 16 ≤ get1 p 7 ∨
        groupSubset (BitVec.ofNat 4 (get1 p 6)) (BitVec.ofNat 4 (get1 p 7)) = false := by
  unfold assignSettings
  cases pager : PagerClass.ofCode (get1 p 4) with
  | none => simp [(PagerClass.ofCode_eq_none_iff _).1 pager]
  | some c =>
    have pagerOk : ¬4 ≤ get1 p 4 := fun h => by rw [(PagerClass.ofCode_eq_none_iff _).2 h] at pager; cases pager
    cases home : groupSetOfCode (get1 p 6) with
    | none => simp [(groupSetOfCode_eq_none_iff _).1 home]
    | some g =>
      obtain ⟨homeOk, rfl⟩ := groupSetOfCode_eq_some home
      cases coverage : groupSetOfCode (get1 p 7) with
      | none => simp [(groupSetOfCode_eq_none_iff _).1 coverage]
      | some k =>
        obtain ⟨coverageOk, rfl⟩ := groupSetOfCode_eq_some coverage
        have homeZero := ofNat4_eq_zero_iff homeOk
        simp only [ite_eq_right_iff, reduceCtorEq, imp_false, ne_eq, homeZero, not_and_or, not_not, Bool.not_eq_true,
          pagerOk, Nat.not_le.2 homeOk, Nat.not_le.2 coverageOk, false_or]

theorem assignSettings_fields {p : List Byte} {u : Subscriber} (h : assignSettings p = some u) :
    u.address = BitVec.ofNat 16 (get2 p 2) ∧ u.account = get2 p 8 := by
  unfold assignSettings at h
  split at h
  · split at h
    · cases h; exact ⟨rfl, rfl⟩
    · cases h
  · cases h

/-! ### What ASSIGN and RELEASE write -/

theorem State.acct_raiseLinks (s : State) (n m : Nat) :
    (s.raiseLinks n).acct m = if m = n then { s.acct m with links := (s.acct m).links + 1 } else s.acct m := by
  unfold raiseLinks; rw [acct_setAcct]; split <;> simp [*]

theorem State.acct_lowerLinks (s : State) (n m : Nat) :
    (s.lowerLinks n).acct m = if m = n then { s.acct m with links := (s.acct m).links - 1 } else s.acct m := by
  unfold lowerLinks; rw [acct_setAcct]; split <;> simp [*]

theorem State.lookup_zero (s : State) : s.lookup 0 = none := by simp [lookup]

/-- A map entry written at an address that is not 0, or removed. -/
theorem State.lookup_bind (s : State) {a : Word} {o : Option Nat} (h : a ≠ 0 ∨ o = none) (c : Word) :
    (s.bindAddress a o).lookup c = if c = a then o else s.lookup c := by
  rw [lookup_bindAddress]
  split
  · subst c
    split
    · subst a; rcases h with h | h
      · exact absurd rfl h
      · exact h.symm
    · exact s.lookup_zero.symm
  · rfl

theorem serveAssignSubscriber_accepts {p : List Byte} {s : State} {u : Subscriber} (length : p.length = 11)
    (number : get2 p 0 < 8192) (settings : assignSettings p = some u) (free : (s.sub (get2 p 0)).service = .unassigned)
    (account : u.account < 2048) (opened : (s.acct u.account).state = .opened) (unbound : s.lookup u.address = none) :
    serveAssignSubscriber p s =
      (((s.setSub (get2 p 0) u).bindAddress u.address (some (get2 p 0))).raiseLinks u.account, .accept []) := by
  have hn : ¬Config.subscribers ≤ get2 p 0 := Nat.not_le.2 number
  have ha : ¬Config.accounts ≤ u.account := Nat.not_le.2 account
  simp only [serveAssignSubscriber, length, ne_eq, not_true_eq_false, if_false, hn, settings, Subscriber.inUse, free,
    decide_false, Bool.false_eq_true, ha, opened, reduceCtorEq, or_false, unbound, Option.isSome_none]

theorem serveRelease_accepts {p : List Byte} {s : State} (length : p.length = 2) (number : get2 p 0 < 8192)
    (used : (s.sub (get2 p 0)).inUse = true) (idle : (s.sub (get2 p 0)).live = 0) :
    serveRelease p s =
      (((s.setSub (get2 p 0) .unassigned).bindAddress (s.sub (get2 p 0)).address none).lowerLinks
        (s.sub (get2 p 0)).account, .accept []) := by
  have hn : ¬Config.subscribers ≤ get2 p 0 := Nat.not_le.2 number
  simp only [serveRelease, length, ne_eq, not_true_eq_false, if_false, hn, used, Bool.true_eq_false, idle,
    Nat.lt_irrefl]

/-! ### The refusals of ASSIGN and RELEASE -/

theorem serveAssignSubscriber_refuses {p : List Byte} {s : State} {x : Status}
    (h : firstFailing [
      (p.length ≠ 11, .badRequest),
      (8192 ≤ get2 p 0, .noSuch),
      (decide (get2 p 2 = 0) || 4 ≤ get1 p 4 || !intervalDefined (get1 p 5) || 16 ≤ get1 p 6 || decide (get1 p 6 = 0) ||
        16 ≤ get1 p 7 || !groupSubset (BitVec.ofNat 4 (get1 p 6)) (BitVec.ofNat 4 (get1 p 7)), .outOfRange),
      ((s.sub (get2 p 0)).inUse, .wrongState),
      (2048 ≤ get2 p 8 || decide ((s.acct (get2 p 8)).state = .closed), .noSuch),
      (decide ((s.acct (get2 p 8)).state = .locked), .wrongState),
      ((s.lookup (BitVec.ofNat 16 (get2 p 2))).isSome, .duplicateAddress) ] = some x) :
    serveAssignSubscriber p s = refuse s x := by
  simp only [firstFailing_cons, firstFailing_nil, decide_eq_true_eq, Bool.or_eq_true, Bool.not_eq_true', or_assoc,
    ← assignSettings_eq_none_iff] at h
  unfold serveAssignSubscriber
  split at h
  · cases h; rw [if_pos ‹_›]
  rw [if_neg ‹_›]
  split at h
  · cases h; rw [if_pos ‹_›]
  rw [if_neg ‹_›]
  split at h
  · rename_i bad; cases h; rw [bad]
  rename_i good
  obtain ⟨u, settings⟩ := Option.ne_none_iff_exists'.1 good
  obtain ⟨address, account⟩ := assignSettings_fields settings
  rw [← account, ← address] at h
  simp only [settings]
  split at h
  · cases h; rw [if_pos ‹_›]
  rw [if_neg ‹_›]
  split at h
  · cases h; rw [if_pos ‹_›]
  rw [if_neg ‹_›]
  split at h
  · cases h; rw [if_pos ‹_›]
  rw [if_neg ‹_›]
  split at h
  · cases h; rw [if_pos ‹_›]
  · cases h

theorem serveRelease_refuses {p : List Byte} {s : State} {x : Status}
    (h : firstFailing [
      (p.length ≠ 2, .badRequest),
      (8192 ≤ get2 p 0, .noSuch),
      (!(s.sub (get2 p 0)).inUse, .wrongState),
      (0 < (s.sub (get2 p 0)).live, .busy) ] = some x) :
    serveRelease p s = refuse s x := by
  simp only [firstFailing_cons, firstFailing_nil, decide_eq_true_eq, Bool.not_eq_true'] at h
  unfold serveRelease
  split at h
  · cases h; rw [if_pos ‹_›]
  rw [if_neg ‹_›]
  split at h
  · cases h; rw [if_pos ‹_›]
  rw [if_neg ‹_›]
  split at h
  · cases h; exact if_pos ‹_›
  refine (if_neg ‹_›).trans ?_
  split at h
  · cases h; exact if_pos ‹_›
  · cases h

/-- Settles O11: the accepted requests write the record, its map entry and a link count; the refused ones fail a check. -/
theorem assignAndReleaseMoveRecordInAndOutOfUse : Obligations.AssignAndReleaseMoveRecordInAndOutOfUse := by
  unfold Obligations.AssignAndReleaseMoveRecordInAndOutOfUse
  refine ⟨?assign, ?release, fun s tag p x => ⟨fun ready h => ?_, fun ready h => ?_⟩⟩
  case assign =>
    intro s tag n u hn service nonzero interval home coverage account trim live heard checkIns receipts free opened
      unbound ready
    have number := Payload.number_assign (show n < 65536 by omega) u
    have settings := Payload.settings_assign n u service nonzero interval home coverage (by omega) trim
      ⟨live, heard, checkIns, receipts⟩
    have served := serveAssignSubscriber_accepts (s := s.taken) (p := Payload.assign n u) rfl (by rw [number]; exact hn) settings
      (by rw [number]; exact free) account opened unbound
    rw [number] at served
    refine ⟨_, exec_of_served (serve := serveAssignSubscriber) rfl ready served, rfl, answered_lnk rfl _ _, fun m => ?_,
      fun a => ?_, fun k => ?_⟩
    · exact s.taken.sub_setSub n m u
    · exact (s.taken.setSub n u).lookup_bind (.inl nonzero) a
    · exact ((s.taken.setSub n u).bindAddress u.address (some n)).acct_raiseLinks u.account k
  case release =>
    intro s tag n hn used idle ready
    have number : get2 (num2 n) 0 = n := by simpa using get2_num2 (show n < 65536 by omega) []
    have served := serveRelease_accepts (s := s.taken) (p := num2 n) rfl (by rw [number]; exact hn)
      (by rw [number]; exact used) (by rw [number]; exact idle)
    rw [number] at served
    refine ⟨_, exec_of_served (serve := serveRelease) rfl ready served, rfl, answered_lnk rfl _ _, fun m => ?_,
      fun a => ?_, fun k => ?_⟩
    · exact s.taken.sub_setSub n m .unassigned
    · exact (s.taken.setSub n .unassigned).lookup_bind (.inr rfl) a
    · exact ((s.taken.setSub n .unassigned).bindAddress (s.sub n).address none).acct_lowerLinks (s.sub n).account k
  · exact refuses_of_served (serve := serveAssignSubscriber) rfl ready (serveAssignSubscriber_refuses (s := s.taken) h)
  · exact refuses_of_served (serve := serveRelease) rfl ready (serveRelease_refuses (s := s.taken) h)

end Sys2Proof.Machine
end

section
/-! PROOFS. MODIFY SUBSCRIBER: the settings it writes, the map, the link counts, and its refusals (R9, R10, R30). -/

namespace Sys2Proof.Machine

/-! ### The settings that a selection names (R9) -/

/-- A set of groups that a selection names, or the one held. -/
theorem named_groupSet (b : Bool) (n : Nat) (held : GroupSet) :
    (if b then groupSetOfCode n else some held) =
      if b = true ∧ 16 ≤ n then none else some (if b then BitVec.ofNat 4 n else held) := by
  cases b
  · simp
  · simp only [groupSetOfCode, if_true, true_and]
    by_cases h : n < 16
    · rw [if_pos h, if_neg (Nat.not_le.2 h)]
    · rw [if_neg h, if_pos (Nat.le_of_not_lt h)]

theorem named_pager_eq_none_iff (b : Bool) (n : Nat) (held : PagerClass) :
    (if b then PagerClass.ofCode n else some held) = none ↔ b = true ∧ 4 ≤ n := by
  cases b <;> simp [PagerClass.ofCode_eq_none_iff]

/-- Check 3 of R9: the ranges of the settings named, and the sets in force afterwards. -/
theorem modifiedSettings_eq_none_iff {p : List Byte} {u : Subscriber} {home coverage : GroupSet}
    (hh : home = if namesSetting p 3 then BitVec.ofNat 4 (get1 p 7) else u.home)
    (hc : coverage = if namesSetting p 4 then BitVec.ofNat 4 (get1 p 8) else u.coverage) :
    modifiedSettings p u = none ↔
      (namesSetting p 0 = true ∧ get2 p 3 = 0) ∨ (namesSetting p 1 = true ∧ 4 ≤ get1 p 5) ∨
        (namesSetting p 2 = true ∧ intervalDefined (get1 p 6) = false) ∨ (namesSetting p 3 = true ∧ 16 ≤ get1 p 7) ∨
        (namesSetting p 4 = true ∧ 16 ≤ get1 p 8) ∨ home = 0 ∨ groupSubset home coverage = false := by
  unfold modifiedSettings
  simp only [named_groupSet, ← hh, ← hc]
  cases pager : (if namesSetting p 1 then PagerClass.ofCode (get1 p 5) else some u.pager) with
  | none => simp [(named_pager_eq_none_iff ..).1 pager]
  | some c =>
    have pagerOk : ¬(namesSetting p 1 = true ∧ 4 ≤ get1 p 5) := fun h => by
      rw [(named_pager_eq_none_iff ..).2 h] at pager; cases pager
    by_cases h7 : namesSetting p 3 = true ∧ 16 ≤ get1 p 7
    · simp [h7]
    by_cases h8 : namesSetting p 4 = true ∧ 16 ≤ get1 p 8
    · simp [h7, h8]
    rw [if_neg h7, if_neg h8]
    simp only [ite_eq_right_iff, reduceCtorEq, imp_false, not_and_or, Classical.not_imp, ne_eq, not_not,
      Bool.not_eq_true, pagerOk, h7, h8, false_or]

/-- The settings written are those the checks read. -/
theorem modifiedSettings_fields {p : List Byte} {u new : Subscriber} (h : modifiedSettings p u = some new) :
    new.address = (if namesSetting p 0 then BitVec.ofNat 16 (get2 p 3) else u.address) ∧
    new.account = (if namesSetting p 5 then get2 p 9 else u.account) := by
  unfold modifiedSettings at h
  dsimp only at h
  split at h
  · split at h
    · cases h; exact ⟨rfl, rfl⟩
    · cases h
  · cases h

/-- A MODIFY SUBSCRIBER payload built from its values gives the record with the named ones written. -/
theorem modifiedSettings_modify {n : Nat} {selection : Byte} {v u new : Subscriber} (hi : v.interval < 256)
    (hk : v.account < 65536) (ht : v.trim < 256)
    (written : new = { u with
      address := if selection.getLsbD 0 then v.address else u.address,
      pager := if selection.getLsbD 1 then v.pager else u.pager,
      interval := if selection.getLsbD 2 then v.interval else u.interval,
      home := if selection.getLsbD 3 then v.home else u.home,
      coverage := if selection.getLsbD 4 then v.coverage else u.coverage,
      account := if selection.getLsbD 5 then v.account else u.account,
      trim := if selection.getLsbD 6 then v.trim else u.trim })
    (address : selection.getLsbD 0 = true → v.address ≠ 0)
    (interval : selection.getLsbD 2 = true → intervalDefined v.interval = true) (home : new.home ≠ 0)
    (subset : groupSubset new.home new.coverage = true) :
    modifiedSettings (Payload.modify n selection v) u = some new := by
  obtain ⟨h3, h5, h6, h7, h8, h9, h11⟩ := Payload.values_modify n selection v hi hk ht
  have pager : (if selection.getLsbD 1 then some v.pager else some u.pager) =
      some (if selection.getLsbD 1 then v.pager else u.pager) := by split <;> rfl
  have homeSet : (if selection.getLsbD 3 then some v.home else some u.home) =
      some (if selection.getLsbD 3 then v.home else u.home) := by split <;> rfl
  have coverageSet : (if selection.getLsbD 4 then some v.coverage else some u.coverage) =
      some (if selection.getLsbD 4 then v.coverage else u.coverage) := by split <;> rfl
  have nonzero : selection.getLsbD 0 = true → v.address.toNat ≠ 0 := fun h e =>
    address h (BitVec.eq_of_toNat_eq e)
  simp only [modifiedSettings, Payload.selection_modify, h3, h5, h6, h7, h8, h9, h11, PagerClass.ofCode_code,
    groupSetOfCode_setWidth, pager, homeSet, coverageSet, BitVec.ofNat_toNat, BitVec.setWidth_eq]
  subst written
  exact if_pos ⟨nonzero, interval, home, subset⟩

/-! ### What MODIFY writes (R10, R30) -/

namespace State

variable (s : State)

theorem sub_rekey (n : Nat) (old new : Subscriber) (m : Nat) :
    (s.rekey n old new).sub m =
      if m = n then (if new.address = old.address then new else { new with heard := none }) else s.sub m := by
  unfold rekey
  split
  · exact s.sub_setSub n m new
  · rw [sub_bindAddress, sub_bindAddress]; exact s.sub_setSub n m _

theorem lookup_rekey (n : Nat) {old new : Subscriber} (nonzero : new.address ≠ old.address → new.address ≠ 0) (a : Word) :
    (s.rekey n old new).lookup a =
      if new.address = old.address then s.lookup a
      else if a = new.address then some n else if a = old.address then none else s.lookup a := by
  unfold rekey
  split
  · rw [lookup_setSub]
  · rw [lookup_bind _ (.inl (nonzero ‹_›)), lookup_bind _ (.inr rfl), lookup_setSub]

theorem acct_relink (old new k : Nat) :
    (s.relink old new).acct k =
      if new = old then s.acct k
      else if k = new then { s.acct k with links := (s.acct k).links + 1 }
      else if k = old then { s.acct k with links := (s.acct k).links - 1 } else s.acct k := by
  unfold relink
  split
  · rfl
  · rw [acct_raiseLinks, acct_lowerLinks]
    by_cases h : k = new
    · subst h; simp [*]
    · simp [h]

@[simp] theorem acct_rekey (n : Nat) (old new : Subscriber) (k : Nat) : (s.rekey n old new).acct k = s.acct k := by
  unfold rekey; split <;> rfl
@[simp] theorem sub_relink (old new m : Nat) : (s.relink old new).sub m = s.sub m := by unfold relink; split <;> rfl
@[simp] theorem lookup_relink (old new : Nat) (a : Word) : (s.relink old new).lookup a = s.lookup a := by
  unfold relink; split <;> rfl
@[simp] theorem lnk_rekey_relink (n : Nat) (u new : Subscriber) (old account : Nat) :
    ((s.rekey n u new).relink old account).lnk = s.lnk := by
  unfold relink rekey; split <;> split <;> rfl

/-- A change of settings touches the directory, the accounts and the link alone. -/
theorem rekey_relink_frame (n : Nat) (u new : Subscriber) (old account : Nat) (r : LinkRecord) (a : Answer) :
    ∃ t : State, t = ((s.taken.rekey n u new).relink old account).answered r a ∧
      t = ((s.withDir t.dir).withAct { s.act with accounts := t.act.accounts }).withLnk t.lnk := by
  refine ⟨_, rfl, ?_⟩
  unfold relink rekey
  split <;> split <;> rfl

end State

theorem serveModifySubscriber_accepts {p : List Byte} {s : State} {new : Subscriber} (length : p.length = 12)
    (number : get2 p 0 < 8192) (settings : modifiedSettings p (s.sub (get2 p 0)) = some new)
    (used : (s.sub (get2 p 0)).inUse = true)
    (address : new.address ≠ (s.sub (get2 p 0)).address →
      (s.sub (get2 p 0)).live = 0 ∧ s.lookup new.address = none)
    (account : new.account ≠ (s.sub (get2 p 0)).account →
      new.account < 2048 ∧ (s.acct new.account).state = .opened) :
    serveModifySubscriber p s =
      ((s.rekey (get2 p 0) (s.sub (get2 p 0)) new).relink (s.sub (get2 p 0)).account new.account, .accept []) := by
  have idle : ¬(new.address ≠ (s.sub (get2 p 0)).address ∧ 0 < (s.sub (get2 p 0)).live) :=
    fun ⟨moved, live⟩ => by have := (address moved).1; omega
  have unbound : ¬(new.address ≠ (s.sub (get2 p 0)).address ∧ (s.lookup new.address).isSome = true) :=
    fun ⟨moved, bound⟩ => by rw [(address moved).2] at bound; cases bound
  have known : ¬(new.account ≠ (s.sub (get2 p 0)).account ∧
      (Config.accounts ≤ new.account ∨ (s.acct new.account).state = .closed)) := fun ⟨moved, bad⟩ => by
    obtain ⟨small, opened⟩ := account moved
    rcases bad with large | closed
    · exact Nat.not_le.2 small large
    · rw [opened] at closed; cases closed
  have unlocked : ¬(new.account ≠ (s.sub (get2 p 0)).account ∧ (s.acct new.account).state = .locked) :=
    fun ⟨moved, locked⟩ => by rw [(account moved).2] at locked; cases locked
  have hn : ¬Config.subscribers ≤ get2 p 0 := Nat.not_le.2 number
  simp only [serveModifySubscriber, length, ne_eq, not_true_eq_false, if_false, hn, settings, used, Bool.true_eq_false,
    if_neg idle, if_neg unbound, if_neg known, if_neg unlocked]

theorem serveModifySubscriber_refuses {p : List Byte} {s : State} {selection : Byte} {u : Subscriber} {address : Word}
    {home coverage : GroupSet} {account : Nat} {x : Status} (hs : selection = p.getD 2 0) (hu : u = s.sub (get2 p 0))
    (ha : address = if selection.getLsbD 0 then BitVec.ofNat 16 (get2 p 3) else u.address)
    (hh : home = if selection.getLsbD 3 then BitVec.ofNat 4 (get1 p 7) else u.home)
    (hc : coverage = if selection.getLsbD 4 then BitVec.ofNat 4 (get1 p 8) else u.coverage)
    (hk : account = if selection.getLsbD 5 then get2 p 9 else u.account)
    (h : firstFailing [
      (p.length ≠ 12, .badRequest),
      (8192 ≤ get2 p 0, .noSuch),
      ((selection.getLsbD 0 && decide (get2 p 3 = 0)) || (selection.getLsbD 1 && 4 ≤ get1 p 5) ||
        (selection.getLsbD 2 && !intervalDefined (get1 p 6)) || (selection.getLsbD 3 && 16 ≤ get1 p 7) ||
        (selection.getLsbD 4 && 16 ≤ get1 p 8) || decide (home = 0) || !groupSubset home coverage, .outOfRange),
      (!u.inUse, .wrongState),
      (decide (address ≠ u.address) && 0 < u.live, .busy),
      (decide (address ≠ u.address) && (s.lookup address).isSome, .duplicateAddress),
      (decide (account ≠ u.account) && (2048 ≤ account || decide ((s.acct account).state = .closed)), .noSuch),
      (decide (account ≠ u.account) && decide ((s.acct account).state = .locked), .wrongState) ] = some x) :
    serveModifySubscriber p s = refuse s x := by
  have names (b : Nat) : selection.getLsbD b = namesSetting p b := by rw [hs]; rfl
  simp only [names] at ha hh hc hk h
  simp only [firstFailing_cons, firstFailing_nil, decide_eq_true_eq, Bool.or_eq_true, Bool.and_eq_true, Bool.not_eq_true',
    or_assoc, ← modifiedSettings_eq_none_iff hh hc] at h
  unfold serveModifySubscriber
  rw [← hu]
  split at h
  · cases h; rw [if_pos ‹_›]
  rw [if_neg ‹_›]
  split at h
  · cases h; rw [if_pos ‹_›]
  rw [if_neg ‹_›]
  split at h
  · rename_i bad; cases h; simp only [bad]
  rename_i good
  obtain ⟨new, settings⟩ := Option.ne_none_iff_exists'.1 good
  obtain ⟨newAddress, newAccount⟩ := modifiedSettings_fields settings
  rw [ha, hk, ← newAddress, ← newAccount] at h
  simp only [settings]
  split at h
  · cases h; rw [if_pos ‹_›]
  rw [if_neg ‹_›]
  split at h
  · cases h; rw [if_pos ‹_›]
  rw [if_neg ‹_›]
  split at h
  · cases h; rw [if_pos ‹_›]
  rw [if_neg ‹_›]
  split at h
  · cases h; rw [if_pos ‹_›]
  rw [if_neg ‹_›]
  split at h
  · cases h; rw [if_pos ‹_›]
  · cases h

/-- Settles O12: an accepted MODIFY re-keys the record and moves its link; a refused one fails a check. -/
theorem modifyWritesNamedSettings : Obligations.ModifyWritesNamedSettings := by
  unfold Obligations.ModifyWritesNamedSettings
  refine ⟨?_, fun s tag selection p u address home coverage account x hs hu ha hh hc hk ready h =>
    refuses_of_served (serve := serveModifySubscriber) rfl ready
      (serveModifySubscriber_refuses (s := s.taken) hs hu ha hh hc hk h)⟩
  intro s tag n selection v new hn hi hk ht written used addressOk intervalOk home subset address account ready
  have number := Payload.number_modify (show n < 65536 by omega) selection v
  have settings := modifiedSettings_modify (n := n) hi hk ht written addressOk intervalOk home subset
  have served := serveModifySubscriber_accepts (s := s.taken) (p := Payload.modify n selection v) (new := new) rfl
    (by rw [number]; exact hn) (by rw [number]; exact settings) (by rw [number]; exact used)
    (by rw [number]; exact address) (by rw [number]; exact account)
  rw [number] at served
  have nonzero : new.address ≠ (s.sub n).address → new.address ≠ 0 := fun moved => by
    subst written
    dsimp only at moved ⊢
    split at moved
    · rw [if_pos ‹_›]; exact addressOk ‹_›
    · exact absurd rfl moved
  obtain ⟨t, rfl, frame⟩ := s.rekey_relink_frame n (s.sub n) new (s.sub n).account new.account
    { kind := 0x11, tag := tag, payload := Payload.modify n selection v } (.accept [])
  refine ⟨_, exec_of_served (serve := serveModifySubscriber) rfl ready served, frame,
    answered_lnk (State.lnk_rekey_relink ..) _ _, fun m => ?_, fun a => ?_, fun k => ?_⟩
  · exact (State.sub_relink ..).trans (State.sub_rekey ..)
  · exact (State.lookup_relink ..).trans (State.lookup_rekey _ n nonzero a)
  · refine (State.acct_relink ..).trans ?_
    simp only [State.acct_rekey, State.acct_taken, State.sub_taken]

end Sys2Proof.Machine
end

section
/-! PROOFS. The queries other than QUERY LINK (R13, R29, R33, R67, R87, R100, R118, R139, R161, R174): what each answers, and
what it refuses. -/

namespace Sys2Proof.Machine

/-! ### What a query payload says -/

theorem get1_num1_self {n : Nat} (h : n < 256) : get1 (num1 n) 0 = n := by simpa using get1_num1 h []

theorem get2_num2_self {n : Nat} (h : n < 65536) : get2 (num2 n) 0 = n := by simpa using get2_num2 h []

/-- A number of two bytes after a choice byte. -/
theorem get2_choice_num2 {n : Nat} (h : n < 65536) (c : Byte) : get2 (c :: num2 n) 1 = n := get2_num2_self h

/-- A number of one byte after a choice byte. -/
theorem get1_choice_num1 {n : Nat} (h : n < 256) (c : Byte) : get1 (c :: num1 n) 1 = n := get1_num1_self h

theorem getTicket_choice {k : Ticket} (h : k.number < 65536) (c : Byte) : getTicket (c :: ticket3 k) 1 = k := by
  have := getTicket_ticket3 h []
  rwa [List.append_nil] at this

theorem Priority.ofCode_eq_none_iff (n : Nat) : Priority.ofCode n = none ↔ 3 ≤ n := by
  unfold ofCode; split <;> simp_all; omega

/-! ### The refusals of the queries by one number -/

theorem serveQueryAccount_refuses {p : List Byte} {s : State} {x : Status}
    (h : firstFailing [(p.length ≠ 2, .badRequest), (2048 ≤ get2 p 0, .noSuch)] = some x) :
    serveQueryAccount p s = refuse s x := by
  simp only [firstFailing_cons, firstFailing_nil, decide_eq_true_eq] at h
  unfold serveQueryAccount
  split at h
  · cases h; rw [if_pos ‹_›]
  rw [if_neg ‹_›]
  split at h
  · cases h; rw [if_pos ‹_›]
  · cases h

theorem serveQueryTariff_refuses {p : List Byte} {s : State} {x : Status}
    (h : firstFailing [(p.length ≠ 1, .badRequest), (8 ≤ get1 p 0, .outOfRange)] = some x) :
    serveQueryTariff p s = refuse s x := by
  simp only [firstFailing_cons, firstFailing_nil, decide_eq_true_eq] at h
  unfold serveQueryTariff
  split at h
  · cases h; rw [if_pos ‹_›]
  rw [if_neg ‹_›]
  split at h
  · cases h; rw [if_pos ‹_›]
  · cases h

theorem serveQueryProfile_refuses {p : List Byte} {s : State} {x : Status}
    (h : firstFailing [(p.length ≠ 1, .badRequest), (3 ≤ get1 p 0, .outOfRange)] = some x) :
    serveQueryProfile p s = refuse s x := by
  simp only [firstFailing_cons, firstFailing_nil, decide_eq_true_eq, ← Priority.ofCode_eq_none_iff] at h
  unfold serveQueryProfile
  split at h
  · cases h; rw [if_pos ‹_›]
  rw [if_neg ‹_›]
  split at h
  · rename_i unnamed; cases h; rw [unnamed]
  · cases h

theorem serveQueryClock_refuses {p : List Byte} {s : State} {x : Status}
    (h : firstFailing [(p.length ≠ 0, .badRequest)] = some x) : serveQueryClock p s = refuse s x := by
  simp only [firstFailing_cons, firstFailing_nil, decide_eq_true_eq] at h
  unfold serveQueryClock
  split at h
  · cases h; rw [if_pos ‹_›]
  · cases h

theorem serveQueryJournal_refuses {p : List Byte} {s : State} {x : Status}
    (h : firstFailing [(p.length ≠ 0, .badRequest)] = some x) : serveQueryJournal p s = refuse s x := by
  simp only [firstFailing_cons, firstFailing_nil, decide_eq_true_eq] at h
  unfold serveQueryJournal
  split at h
  · cases h; rw [if_pos ‹_›]
  · cases h

/-! ### The refusals of the queries with a choice byte -/

/-- A choice byte is 0, 1, or undefined. -/
theorem choice_cases (c : Nat) : c = 0 ∨ c = 1 ∨ 2 ≤ c := by omega

theorem serveQuerySubscriber_refuses {p : List Byte} {s : State} {x : Status}
    (h : firstFailing [
      (p.length ≠ 3, .badRequest),
      (2 ≤ get1 p 0, .badRequest),
      (decide (get1 p 0 = 0) && 8192 ≤ get2 p 1, .noSuch),
      (decide (get1 p 0 = 1) && (s.lookup (BitVec.ofNat 16 (get2 p 1))).isNone, .noSuch) ] = some x) :
    serveQuerySubscriber p s = refuse s x := by
  simp only [firstFailing_cons, firstFailing_nil, decide_eq_true_eq, Bool.and_eq_true, Option.isNone_iff_eq_none] at h
  unfold serveQuerySubscriber
  split at h
  · cases h; rw [if_pos ‹_›]
  rw [if_neg ‹_›]
  obtain zero | one | undefined := choice_cases (get1 p 0)
  · simp [zero] at h ⊢
    obtain ⟨beyond, rfl⟩ := h
    rw [if_pos beyond]
  · simp [one] at h ⊢
    obtain ⟨unknown, rfl⟩ := h
    rw [unknown]
  · rw [if_pos undefined] at h
    cases h
    rw [if_neg (by omega), if_neg (by omega)]

theorem serveQueryZone_refuses {p : List Byte} {s : State} {x : Status}
    (h : firstFailing [
      (2 ≤ get1 p 0 || p.length ≠ 2, .badRequest),
      (decide (get1 p 0 = 0) && 8 ≤ get1 p 1, .noSuch),
      (decide (get1 p 0 = 1) && 4 ≤ get1 p 1, .noSuch) ] = some x) :
    serveQueryZone p s = refuse s x := by
  simp only [firstFailing_cons, firstFailing_nil, decide_eq_true_eq, Bool.or_eq_true, Bool.and_eq_true] at h
  unfold serveQueryZone
  by_cases length : p.length = 2
  · obtain zero | one | undefined := choice_cases (get1 p 0)
    · simp [zero, length] at h ⊢
      obtain ⟨beyond, rfl⟩ := h
      rw [if_pos beyond]
    · simp [one, length] at h ⊢
      obtain ⟨beyond, rfl⟩ := h
      rw [if_pos beyond]
    · rw [if_pos (.inl undefined)] at h
      cases h
      rw [if_neg (not_not.2 length), if_neg (by omega), if_neg (by omega)]
  · rw [if_pos (.inr length)] at h
    cases h
    rw [if_pos length]

/-- The four queries of one shape: a summary under the one choice, one entry under the other, each with its own length. A
payload of neither form is malformed. -/
theorem neither_of_malformed {p : List Byte} {l l' : Nat} (h : 2 ≤ get1 p 0 ∨ p.length ≠ if get1 p 0 = 0 then l else l') :
    ¬(p.length = l ∧ get1 p 0 = 0) ∧ ¬(p.length = l' ∧ get1 p 0 = 1) := by
  constructor <;> rintro ⟨length, choice⟩ <;> simp [choice, length] at h

/-- A well-formed payload of that shape is of one form or the other. -/
theorem form_of_choice {p : List Byte} {l l' : Nat} (h : ¬(2 ≤ get1 p 0 ∨ p.length ≠ if get1 p 0 = 0 then l else l')) :
    p.length = l ∧ get1 p 0 = 0 ∨ p.length = l' ∧ get1 p 0 = 1 := by
  obtain ⟨defined, length⟩ := not_or.1 h
  rw [not_not] at length
  obtain zero | one | undefined := choice_cases (get1 p 0)
  · exact .inl ⟨by rw [length, if_pos zero], zero⟩
  · exact .inr ⟨by rw [length, if_neg (by omega)], one⟩
  · exact absurd undefined defined

theorem serveQueryStore_refuses {p : List Byte} {s : State} {x : Status}
    (h : firstFailing [
      (2 ≤ get1 p 0 || p.length ≠ (if get1 p 0 = 0 then 1 else 3), .badRequest),
      (decide (get1 p 0 = 1) && 6144 ≤ get2 p 1, .noSuch) ] = some x) :
    serveQueryStore p s = refuse s x := by
  simp only [firstFailing_cons, firstFailing_nil, decide_eq_true_eq, Bool.or_eq_true, Bool.and_eq_true] at h
  unfold serveQueryStore
  by_cases malformed : 2 ≤ get1 p 0 ∨ p.length ≠ if get1 p 0 = 0 then 1 else 3
  · rw [if_pos malformed] at h
    cases h
    obtain ⟨notFirst, notSecond⟩ := neither_of_malformed malformed
    rw [if_neg notFirst, if_neg notSecond]
  · rw [if_neg malformed] at h
    obtain ⟨length, zero⟩ | ⟨length, one⟩ := form_of_choice malformed
    · simp [zero] at h
    · simp only [one, length, true_and, Option.ite_none_right_eq_some, Option.some.injEq] at h ⊢
      obtain ⟨beyond, rfl⟩ := h
      simp [beyond]

theorem serveQueryDelivery_refuses {p : List Byte} {s : State} {x : Status}
    (h : firstFailing [
      (2 ≤ get1 p 0 || p.length ≠ (if get1 p 0 = 0 then 4 else 1), .badRequest),
      (decide (get1 p 0 = 0) && (s.named (getTicket p 1)).isNone, .noSuch) ] = some x) :
    serveQueryDelivery p s = refuse s x := by
  simp only [firstFailing_cons, firstFailing_nil, decide_eq_true_eq, Bool.or_eq_true, Bool.and_eq_true,
    Option.isNone_iff_eq_none] at h
  unfold serveQueryDelivery
  by_cases malformed : 2 ≤ get1 p 0 ∨ p.length ≠ if get1 p 0 = 0 then 4 else 1
  · rw [if_pos malformed] at h
    cases h
    obtain ⟨notFirst, notSecond⟩ := neither_of_malformed malformed
    rw [if_neg notFirst, if_neg notSecond]
  · rw [if_neg malformed] at h
    obtain ⟨length, zero⟩ | ⟨length, one⟩ := form_of_choice malformed
    · simp only [zero, length, true_and, Option.ite_none_right_eq_some, Option.some.injEq] at h ⊢
      obtain ⟨unknown, rfl⟩ := h
      simp [unknown]
    · simp [one] at h

theorem serveQueryAir_refuses {p : List Byte} {s : State} {x : Status}
    (h : firstFailing [
      (2 ≤ get1 p 0 || p.length ≠ (if get1 p 0 = 0 then 1 else 4), .badRequest),
      (decide (get1 p 0 = 1) && 2 ≤ get1 p 2, .badRequest),
      (decide (get1 p 0 = 1) && 4 ≤ get1 p 1, .noSuch) ] = some x) :
    serveQueryAir p s = refuse s x := by
  simp only [firstFailing_cons, firstFailing_nil, decide_eq_true_eq, Bool.or_eq_true, Bool.and_eq_true] at h
  unfold serveQueryAir
  by_cases malformed : 2 ≤ get1 p 0 ∨ p.length ≠ if get1 p 0 = 0 then 1 else 4
  · rw [if_pos malformed] at h
    cases h
    obtain ⟨notFirst, notSecond⟩ := neither_of_malformed malformed
    rw [if_neg notFirst, if_neg notSecond]
  · rw [if_neg malformed] at h
    obtain ⟨length, zero⟩ | ⟨length, one⟩ := form_of_choice malformed
    · simp [zero] at h
    · rw [if_neg (by omega), if_pos ⟨length, one⟩]
      simp only [one, true_and] at h
      split at h
      · cases h; rw [if_pos ‹_›]
      rw [if_neg ‹_›]
      split at h
      · cases h; rw [if_pos ‹_›]
      · cases h

theorem serveQueryReceipts_refuses {p : List Byte} {s : State} {x : Status}
    (h : firstFailing [
      (2 ≤ get1 p 0 || p.length ≠ (if get1 p 0 = 0 then 1 else 3), .badRequest),
      (decide (get1 p 0 = 1) && 3 ≤ get1 p 2, .badRequest),
      (decide (get1 p 0 = 1) && 4 ≤ get1 p 1, .noSuch) ] = some x) :
    serveQueryReceipts p s = refuse s x := by
  simp only [firstFailing_cons, firstFailing_nil, decide_eq_true_eq, Bool.or_eq_true, Bool.and_eq_true] at h
  unfold serveQueryReceipts
  by_cases malformed : 2 ≤ get1 p 0 ∨ p.length ≠ if get1 p 0 = 0 then 1 else 3
  · rw [if_pos malformed] at h
    cases h
    obtain ⟨notFirst, notSecond⟩ := neither_of_malformed malformed
    rw [if_neg notFirst, if_neg notSecond]
  · rw [if_neg malformed] at h
    obtain ⟨length, zero⟩ | ⟨length, one⟩ := form_of_choice malformed
    · simp [zero] at h
    · rw [if_neg (by omega), if_pos ⟨length, one⟩]
      simp only [one, true_and] at h
      split at h
      · cases h; rw [if_pos ‹_›]
      rw [if_neg ‹_›]
      split at h
      · cases h; rw [if_pos ‹_›]
      · cases h

/-! ### The answers -/

theorem serveQuerySubscriber_number {n : Nat} (h : n < 8192) (s : State) :
    serveQuerySubscriber (0 :: num2 n) s = (s, .accept (Subscriber.bytes n (s.sub n))) := by
  have number := get2_choice_num2 (show n < 65536 by omega) 0
  simp only [serveQuerySubscriber, number]
  simp [num2, Nat.not_le.2 h, Config.subscribers]

theorem serveQuerySubscriber_address {a : Word} {n : Nat} {s : State} (h : s.lookup a = some n) :
    serveQuerySubscriber (1 :: num2 a.toNat) s = (s, .accept (Subscriber.bytes n (s.sub n))) := by
  have address := get2_choice_num2 a.isLt 1
  simp only [serveQuerySubscriber, address, BitVec.ofNat_toNat, BitVec.setWidth_eq, h]
  simp [num2]

theorem serveQueryAccount_number {n : Nat} (h : n < 2048) (s : State) :
    serveQueryAccount (num2 n) s = (s, .accept (Account.bytes n (s.acct n))) := by
  have number := get2_num2_self (show n < 65536 by omega)
  simp only [serveQueryAccount, number]
  simp [num2, Nat.not_le.2 h, Config.accounts]

theorem serveQueryTariff_class {k : Nat} (h : k < 8) (s : State) :
    serveQueryTariff (num1 k) s = (s, .accept (s.tariff k).bytes) := by
  have number := get1_num1_self (show k < 256 by omega)
  simp only [serveQueryTariff, number]
  simp [num1, Nat.not_le.2 h, Config.tariffClasses]

theorem serveQueryProfile_priority (q : Priority) (s : State) :
    serveQueryProfile (num1 q.code) s = (s, .accept (s.profile q).bytes) := by cases q <;> rfl

theorem serveQueryStore_body {b : Nat} (h : b < 6144) (s : State) :
    serveQueryStore (1 :: num2 b) s = (s, .accept (Body.bytes (s.body b) (s.bodyText b))) := by
  have number := get2_choice_num2 (show b < 65536 by omega) 1
  simp only [serveQueryStore, number]
  simp [num2, Nat.not_le.2 h, Config.bodies]

theorem serveQueryDelivery_ticket {k : Ticket} {d : Delivery} {s : State} (h : k.number < 6144) (named : s.named k = some d) :
    serveQueryDelivery (0 :: ticket3 k) s = (s, .accept (d.bytes k)) := by
  have ticket := getTicket_choice (show k.number < 65536 by omega) 0
  simp only [serveQueryDelivery, ticket, named]
  simp [ticket3, num2]

theorem serveQueryZone_zone {z : Nat} (h : z < 8) (s : State) :
    serveQueryZone (0 :: num1 z) s = (s, .accept (Zone.bytes z (s.zone z) (s.planGroup z))) := by
  have number := get1_choice_num1 (show z < 256 by omega) 0
  simp only [serveQueryZone, number]
  simp [num1, Nat.not_le.2 h]

theorem serveQueryZone_group {g : Nat} (h : g < 4) (s : State) :
    serveQueryZone (1 :: num1 g) s = (s, .accept (s.group g).bytes) := by
  have number := get1_choice_num1 (show g < 256 by omega) 1
  simp only [serveQueryZone, number]
  simp [num1, Nat.not_le.2 h]

/-- The group and the choice of a payload that asks for part of an image (R139). -/
theorem serveQueryAir_image {g : Nat} (h : g < 4) {c : Byte} (hc : c.toNat < 2) (first : Byte) (s : State) :
    serveQueryAir [1, BitVec.ofNat 8 g, c, first] s =
      (s, .accept (Image.listing (if c.toNat = 0 then (s.images g).next else (s.images g).current) first.toNat)) := by
  have number : g % 256 = g := Nat.mod_eq_of_lt (by omega)
  simp [serveQueryAir, number, Nat.not_le.2 h, Nat.not_le.2 hc]

/-- The group and the role of a payload that asks for one receipt map (R161). -/
theorem serveQueryReceipts_map {g r : Nat} (h : g < 4) (hr : r < 3) (s : State) :
    serveQueryReceipts [1, BitVec.ofNat 8 g, BitVec.ofNat 8 r] s =
      (s, .accept (ReceiptMap.bytes ((s.maps g).role r))) := by
  have number : g % 256 = g := Nat.mod_eq_of_lt (by omega)
  have role : r % 256 = r := Nat.mod_eq_of_lt (by omega)
  simp [serveQueryReceipts, number, role, Nat.not_le.2 h, Nat.not_le.2 hr]

theorem GroupMaps.role_eq (m : GroupMaps) {r : Nat} (h : r < 3) :
    m.role r = if r = 0 then m.building else if r = 1 then m.current else m.previous := by
  match r, h with
  | 0, _ | 1, _ | 2, _ => rfl

/-- Settles O20: what each query reads is the state from which its record has left the queue, and its checks are those of
its service. -/
theorem queriesReadOnly : Obligations.QueriesReadOnly := by
  unfold Obligations.QueriesReadOnly
  refine ⟨fun s tag => ⟨?_, ?_, ?_, ?_, ?_⟩, fun s tag => ⟨?_, ?_, ?_, ?_, ?_, ?_, ?_⟩, fun s tag => ⟨?_, ?_, ?_, ?_, ?_⟩,
    fun s tag p x => ⟨?_, ?_, ?_, ?_, ?_, ?_, ?_, ?_, ?_, ?_, ?_⟩⟩
  · exact fun n hn ready => exec_of_served (serve := serveQuerySubscriber) rfl ready (serveQuerySubscriber_number hn s.taken)
  · exact fun a n found ready => exec_of_served (serve := serveQuerySubscriber) rfl ready
      (serveQuerySubscriber_address (s := s.taken) found)
  · exact fun n hn ready => exec_of_served (serve := serveQueryAccount) rfl ready (serveQueryAccount_number hn s.taken)
  · exact fun k hk ready => exec_of_served (serve := serveQueryTariff) rfl ready (serveQueryTariff_class hk s.taken)
  · exact fun q ready => exec_of_served (serve := serveQueryProfile) rfl ready (serveQueryProfile_priority q s.taken)
  · exact fun ready => exec_of_served (serve := serveQueryStore) rfl ready rfl
  · exact fun b hb ready => exec_of_served (serve := serveQueryStore) rfl ready (serveQueryStore_body hb s.taken)
  · exact fun k d hk named ready => exec_of_served (serve := serveQueryDelivery) rfl ready
      (serveQueryDelivery_ticket (s := s.taken) hk named)
  · exact fun ready => exec_of_served (serve := serveQueryDelivery) rfl ready rfl
  · exact fun ready => exec_of_served (serve := serveQueryClock) rfl ready rfl
  · exact fun z hz ready => exec_of_served (serve := serveQueryZone) rfl ready (serveQueryZone_zone hz s.taken)
  · exact fun g hg ready => exec_of_served (serve := serveQueryZone) rfl ready (serveQueryZone_group hg s.taken)
  · exact fun ready => exec_of_served (serve := serveQueryAir) rfl ready rfl
  · exact fun g first hg =>
      ⟨fun ready => exec_of_served (serve := serveQueryAir) rfl ready (serveQueryAir_image hg (by decide) first s.taken),
        fun ready => exec_of_served (serve := serveQueryAir) rfl ready (serveQueryAir_image hg (by decide) first s.taken)⟩
  · exact fun ready => exec_of_served (serve := serveQueryReceipts) rfl ready rfl
  · intro g role hg hr ready
    rw [← GroupMaps.role_eq _ hr]
    exact exec_of_served (serve := serveQueryReceipts) rfl ready (serveQueryReceipts_map hg hr s.taken)
  · exact fun ready => exec_of_served (serve := serveQueryJournal) rfl ready rfl
  · exact fun ready h => refuses_of_served (serve := serveQuerySubscriber) rfl ready (serveQuerySubscriber_refuses h)
  · exact fun ready h => refuses_of_served (serve := serveQueryAccount) rfl ready (serveQueryAccount_refuses h)
  · exact fun ready h => refuses_of_served (serve := serveQueryTariff) rfl ready (serveQueryTariff_refuses h)
  · exact fun ready h => refuses_of_served (serve := serveQueryProfile) rfl ready (serveQueryProfile_refuses h)
  · exact fun ready h => refuses_of_served (serve := serveQueryStore) rfl ready (serveQueryStore_refuses h)
  · exact fun ready h => refuses_of_served (serve := serveQueryDelivery) rfl ready (serveQueryDelivery_refuses h)
  · exact fun ready h => refuses_of_served (serve := serveQueryClock) rfl ready (serveQueryClock_refuses h)
  · exact fun ready h => refuses_of_served (serve := serveQueryZone) rfl ready (serveQueryZone_refuses h)
  · exact fun ready h => refuses_of_served (serve := serveQueryAir) rfl ready (serveQueryAir_refuses h)
  · exact fun ready h => refuses_of_served (serve := serveQueryReceipts) rfl ready (serveQueryReceipts_refuses h)
  · exact fun ready h => refuses_of_served (serve := serveQueryJournal) rfl ready (serveQueryJournal_refuses h)

end Sys2Proof.Machine
end

section
/-! PROOFS. What an ending leaves of each block (R85, R164), and the receipt that ends its delivery DELIVERED (R148). -/

namespace Sys2Proof.Machine

namespace State

variable (s : State)

/-! ### An ending, block by block -/

@[simp] theorem endDelivery_clk (n : Nat) (d : Delivery) (e : Ending) (r : Reason) : (s.endDelivery n d e r).clk = s.clk := by
  simp [endDelivery]
@[simp] theorem endDelivery_zon (n : Nat) (d : Delivery) (e : Ending) (r : Reason) : (s.endDelivery n d e r).zon = s.zon := by
  simp [endDelivery]
@[simp] theorem endDelivery_bld (n : Nat) (d : Delivery) (e : Ending) (r : Reason) : (s.endDelivery n d e r).bld = s.bld := by
  simp [endDelivery]
@[simp] theorem endDelivery_rcp (n : Nat) (d : Delivery) (e : Ending) (r : Reason) : (s.endDelivery n d e r).rcp = s.rcp := by
  simp [endDelivery]

/-- The usage record is read off records and registers that the calendar does not hold. -/
theorem usageOf_unfile (n m : Nat) (d : Delivery) (e : Ending) (r : Reason) :
    (s.unfile n).usageOf m d e r = s.usageOf m d e r := by
  simp [usageOf, chargeOf, tariff, acct, sub]

@[simp] theorem endDelivery_jnl (n : Nat) (d : Delivery) (e : Ending) (r : Reason) :
    (s.endDelivery n d e r).jnl = s.jnl.append (s.usageOf n d e r) := by
  simp [endDelivery, usageOf_unfile]

@[simp] theorem settle_map (n : Nat) (d : Delivery) (e : Ending) (r : Reason) : (s.settle n d e r).dir.map = s.dir.map := by
  simp [settle, lowerLive, setSub]

@[simp] theorem endDelivery_map (n : Nat) (d : Delivery) (e : Ending) (r : Reason) :
    (s.endDelivery n d e r).dir.map = s.dir.map := by simp [endDelivery]

theorem endDelivery_sub (n : Nat) (d : Delivery) (e : Ending) (r : Reason) (m : Nat) :
    (s.endDelivery n d e r).sub m =
      if m = d.subscriber then { s.sub m with live := (s.sub m).live - 1 } else s.sub m := by
  rw [endDelivery, settle_sub]; simp [sub]

theorem endDelivery_record (n : Nat) (d : Delivery) (e : Ending) (r : Reason) (m : Nat) :
    (s.endDelivery n d e r).record m = if m = n then { issue := (s.record n).issue, live := none } else s.record m := by
  rw [record, endDelivery, settle_records]
  exact (record_setRecord ..).trans (by simp)

theorem endDelivery_live (n : Nat) (d : Delivery) (e : Ending) (r : Reason) (m : Nat) :
    (s.endDelivery n d e r).live m = if m = n then none else s.live m := by
  rw [live, endDelivery_record]; split <;> rfl

@[simp] theorem endDelivery_zone (n : Nat) (d : Delivery) (e : Ending) (r : Reason) (z : Nat) :
    (s.endDelivery n d e r).zone z = s.zone z := by simp [zone]
@[simp] theorem endDelivery_queue (n : Nat) (d : Delivery) (e : Ending) (r : Reason) (z : Nat) :
    (s.endDelivery n d e r).queue z = s.queue z := by simp [queue]
@[simp] theorem endDelivery_maps (n : Nat) (d : Delivery) (e : Ending) (r : Reason) (g : Nat) :
    (s.endDelivery n d e r).maps g = s.maps g := by simp [maps]

/-! ### The slots of an attempt written -/

@[simp] theorem writeAttempt_clk (x : Slot) (o : Option Attempt) : (s.writeAttempt x o).clk = s.clk := by
  cases o <;> simp [writeAttempt]
@[simp] theorem writeAttempt_bld (x : Slot) (o : Option Attempt) : (s.writeAttempt x o).bld = s.bld := by
  cases o <;> simp [writeAttempt]

@[simp] theorem writeAttempt_dir (x : Slot) (o : Option Attempt) : (s.writeAttempt x o).dir = s.dir := by
  cases o <;> simp [writeAttempt]
@[simp] theorem writeAttempt_sub (x : Slot) (o : Option Attempt) (n : Nat) : (s.writeAttempt x o).sub n = s.sub n := by
  simp [sub]
@[simp] theorem writeAttempt_dlv (x : Slot) (o : Option Attempt) : (s.writeAttempt x o).dlv = s.dlv := by
  cases o <;> simp [writeAttempt]
@[simp] theorem writeAttempt_jnl (x : Slot) (o : Option Attempt) : (s.writeAttempt x o).jnl = s.jnl := by
  cases o <;> simp [writeAttempt]
@[simp] theorem writeAttempt_zone (x : Slot) (o : Option Attempt) (z : Nat) : (s.writeAttempt x o).zone z = s.zone z := by
  cases o <;> simp [writeAttempt, zone]
@[simp] theorem writeAttempt_queue (x : Slot) (o : Option Attempt) (z : Nat) : (s.writeAttempt x o).queue z = s.queue z := by
  cases o <;> simp [writeAttempt]
@[simp] theorem writeAttempt_counters (x : Slot) (o : Option Attempt) :
    (s.writeAttempt x o).rcp.counters = s.rcp.counters := by cases o <;> simp [writeAttempt]

/-! ### A matched receipt, block by block (R148) -/

@[simp] theorem answered_live (u : Subscriber) (g : Nat) (x : Serial) : (u.answered g x).live = u.live := by
  rw [answered_only]

theorem answered_receipts (u : Subscriber) (g : Nat) (x : Serial) :
    (u.answered g x).receipts = min (u.receipts + 1) 65535 := by
  unfold Subscriber.answered; dsimp only; rw [report_only]; rfl

section Deliver

variable (zone : Nat) (m : ReceiptMap) (n : Nat) (d : Delivery) (reply : Nat) (check : Byte)

theorem deliver_record (j : Nat) : (s.deliver zone m n d reply check).record j =
    if j = n then { issue := (s.record n).issue, live := none } else s.record j := by
  rw [deliver_eq, endDelivery_record]
  simp [countDelivered, record]

@[simp] theorem deliver_clk : (s.deliver zone m n d reply check).clk = s.clk := by
  rw [deliver_eq, endDelivery_clk]; simp [countDelivered]
@[simp] theorem deliver_bld : (s.deliver zone m n d reply check).bld = s.bld := by
  rw [deliver_eq, endDelivery_bld]; simp [countDelivered]
@[simp] theorem deliver_map : (s.deliver zone m n d reply check).dir.map = s.dir.map := by
  rw [deliver_eq, endDelivery_map]; simp [countDelivered, setSub]
@[simp] theorem deliver_queue (z : Nat) : (s.deliver zone m n d reply check).queue z = s.queue z := by
  rw [deliver_eq, endDelivery_queue]; simp [countDelivered]
theorem deliver_counters : (s.deliver zone m n d reply check).rcp.counters =
    { s.rcp.counters with delivered := s.rcp.counters.delivered + 1 } := by
  rw [deliver_eq, endDelivery_rcp]; simp [countDelivered]
theorem deliver_zone : (s.deliver zone m n d reply check).zone zone =
    { s.zone zone with receiptsHeard := min ((s.zone zone).receiptsHeard + 1) 65535 } := by
  rw [deliver_eq, endDelivery_zone]; simp [countDelivered, satAdd, Config.count16Max]
theorem deliver_maps (g : Nat) : (s.deliver zone m n d reply check).maps g =
    (s.writeAttempt (.answered (s.ticket n) check) d.last).maps g := by
  rw [deliver_eq, endDelivery_maps]; simp [countDelivered]
theorem deliver_sub : (s.deliver zone m n d reply check).sub d.subscriber =
    { (s.sub d.subscriber).answered m.group m.serial with live := (s.sub d.subscriber).live - 1 } := by
  rw [deliver_eq, endDelivery_sub, if_pos (show d.subscriber = (d.answered m.group reply).subscriber from rfl)]
  simp [countDelivered]

/-- A matched receipt writes one usage record: that of its delivery, with the heard group and the reply code. -/
theorem deliver_jnl : ∃ u : UsageRecord, (s.deliver zone m n d reply check).jnl = s.jnl.append u ∧ u.ticket = s.ticket n ∧
    u.ending = .delivered ∧ u.reason = .none ∧ u.endSerial = s.clk.serial ∧
    u.chargeSpan = (d.answered m.group reply).chargeSpan .delivered ∧ u.charge ≤ d.hold ∧ u.heardGroup = some m.group ∧
    u.replyCode = if reply = 0 then none else some reply := by
  rw [deliver_eq, endDelivery_jnl]
  refine ⟨_, congrArg (Journal.append · _) (by simp [countDelivered]), ?_, rfl, rfl, ?_, rfl, Nat.min_le_right .., rfl, rfl⟩
  · simp [usageOf, countDelivered, ticket, record]
  · simp [usageOf, countDelivered]

end Deliver

end State

/-- A slot that a write reached holds the entry written. -/
theorem slot_of_rewrittenRole {p : Serial → Nat → Prop} {x : Slot} {o : Option ReceiptMap} {c : ReceiptMap} {j : Nat}
    (h : rewrittenRole p x o (some c)) (hp : p c.serial j) : c.slot j = x := by
  cases o with
  | none => cases h
  | some m =>
    obtain ⟨same, slots⟩ := h
    rw [show c.serial = m.serial by rw [same]] at hp
    exact (slots j).1 hp

/-- The groups of the model are 0 to 3. -/
theorem mem_groupNumbers (g : Nat) : g ∈ groupNumbers ↔ g < 4 := by simp [groupNumbers]; omega

/-- The held map that a receipt names, where no other is so named (R146). -/
theorem State.heldMap_of_unique {s : State} {z frame g : Nat} {m : ReceiptMap} (hg : g < 4)
    (held : (s.maps g).current = some m ∨ (s.maps g).previous = some m) (serial : frameNumber m.serial = frame)
    (member : m.members.getLsbD z = true)
    (unique : ∀ h < 4, ∀ n : ReceiptMap, (s.maps h).current = some n ∨ (s.maps h).previous = some n →
      frameNumber n.serial = frame → n.members.getLsbD z = true → n = m) :
    s.heldMap z frame = some m := by
  have mem_held (h : Nat) (n : ReceiptMap) :
      n ∈ (s.maps h).held ↔ (s.maps h).current = some n ∨ (s.maps h).previous = some n := by simp [GroupMaps.held]
  have found : (s.heldMap z frame).isSome := by
    rw [heldMap, List.find?_isSome]
    exact ⟨m, List.mem_flatMap.2 ⟨g, (mem_groupNumbers g).2 hg, (mem_held g m).2 held⟩, by simp [serial, member]⟩
  obtain ⟨n, hn⟩ := Option.isSome_iff_exists.1 found
  obtain ⟨h, hh, named⟩ := List.mem_flatMap.1 (List.mem_of_find?_eq_some hn)
  have agrees := List.find?_some hn
  simp only [Bool.and_eq_true, decide_eq_true_eq] at agrees
  rw [hn, unique h ((mem_groupNumbers h).1 hh) n ((mem_held h n).1 named) agrees.1 agrees.2]

theorem State.named_number {s : State} {k : Ticket} {d : Delivery} (h : s.named k = some d) : s.ticket k.number = k := by
  unfold named at h
  split at h
  · rename_i issue
    simp [ticket, issue]
  · cases h

/-- Last heard after a report: it is replaced unless it is newer (R15). -/
theorem Subscriber.heard_report (u : Subscriber) (g : Nat) (x : Serial) :
    (∀ h, u.heard = some h → atOrBefore h.serial x = false → (u.report g x).heard = some h) ∧
    ((∀ h, u.heard = some h → atOrBefore h.serial x = true) → (u.report g x).heard = some { group := g, serial := x }) := by
  unfold report
  cases heard : u.heard with
  | none => simp
  | some h =>
    by_cases older : atOrBefore h.serial x = true
    · simp [older]
    · simp [older, heard]

/-- Settles O48: the held map is the one named, its slot judges the receipt DELIVERED, and the steps of R148 leave what each
clause says. -/
theorem matchedReceiptDelivers : Obligations.MatchedReceiptDelivers := by
  unfold Obligations.MatchedReceiptDelivers
  intro s z frame slot reply check rest m g k d a _ _ queue hg held serial member unique usable claimed named last
    agrees
  have judged : (s.setQueue z.val rest).judgeReceipt z.val frame slot check = .delivered m k.number d := by
    have found : (s.setQueue z.val rest).heldMap z.val frame = some m :=
      State.heldMap_of_unique (s := s.setQueue z.val rest) hg held serial member unique
    have named' : (s.setQueue z.val rest).named k = some d := named
    simp [State.judgeReceipt, found, usable, claimed, named', agrees]
  have run : exec (.receiptTaken z) s =
      .next ((s.setQueue z.val rest).deliver z.val m k.number d reply check).lineChoice := by
    have := congrArg event (show (s.setQueue z.val rest).takeReceipt z.val frame slot reply check = _ by
      rw [State.takeReceipt, judged])
    exact (show exec (.receiptTaken z) s = event ((s.setQueue z.val rest).takeReceipt z.val frame slot reply check) by
      show execReceiptTaken z s = _
      rw [execReceiptTaken, queue]).trans this
  have ticket : (s.setQueue z.val rest).ticket k.number = k := State.named_number (s := s) named
  obtain ⟨u, journal, hticket, ending, reason, endSerial, span, charge, group, code⟩ :=
    (s.setQueue z.val rest).deliver_jnl z.val m k.number d reply check
  have maps := fun h => maps_writeSlots a.serial (.answered k check) h a.slots (s.setQueue z.val rest)
  have heard := (s.sub d.subscriber).heard_report m.group m.serial
  have sub := (s.setQueue z.val rest).deliver_sub z.val m k.number d reply check
  refine ⟨_, u, run, ?_, fun j hj => ?_, ?_, hticket.trans ticket, ending, reason, endSerial, ?_, charge, group, code, ?_, ?_,
    ?_, ?_, ?_, fun h known newer => ?_, fun older => ?_, fun p hp c hc same => ?_, fun p hp c hc same => ?_, ?_, ?_, ?_⟩
  · simp [State.live, State.deliver_record]
  · simp [State.deliver_record, hj]
  · simp [journal, Journal.append]
  · rw [span]; simp [Delivery.chargeSpan, Delivery.answered, last]
  · simp
  · exact (congrArg Zone.receiptsHeard (State.deliver_zone ..)).trans rfl
  · simp [State.deliver_counters]
  · rw [State.sub_lineChoice, sub]; exact State.answered_receipts ..
  · rw [State.sub_lineChoice, sub]; rfl
  · rw [State.sub_lineChoice, sub]; exact heard.1 h known newer
  · rw [State.sub_lineChoice, sub]
    refine heard.2 fun h known => ?_
    obtain none | ⟨h', known', older⟩ := older
    · rw [none] at known; cases known
    · rw [known] at known'; cases known'; exact older
  · rw [State.maps_lineChoice, State.deliver_maps, last, ticket] at hc
    exact slot_of_rewrittenRole (hc ▸ (maps p.1).2.1) ⟨same, hp⟩
  · rw [State.maps_lineChoice, State.deliver_maps, last, ticket] at hc
    exact slot_of_rewrittenRole (hc ▸ (maps p.1).2.2) ⟨same, hp⟩
  · simp
  · simp
  · simp

end Sys2Proof.Machine
end

section
/-! PROOFS. What a re-filing leaves of each block (R75), and the check-in applied to the deliveries of its unit (R157, R158). -/

namespace Sys2Proof.Machine

namespace State

variable (s : State)

/-! ### A re-filing, block by block -/

@[simp] theorem refile_clk (n : Nat) (d : Delivery) (due : Serial) : (s.refile n d due).clk = s.clk := by
  unfold refile; split <;> simp
@[simp] theorem refile_zon (n : Nat) (d : Delivery) (due : Serial) : (s.refile n d due).zon = s.zon := by
  unfold refile; split <;> simp
@[simp] theorem refile_bld (n : Nat) (d : Delivery) (due : Serial) : (s.refile n d due).bld = s.bld := by
  unfold refile; split <;> simp
@[simp] theorem refile_rcp (n : Nat) (d : Delivery) (due : Serial) : (s.refile n d due).rcp = s.rcp := by
  unfold refile; split <;> simp
@[simp] theorem refile_map (n : Nat) (d : Delivery) (due : Serial) : (s.refile n d due).dir.map = s.dir.map := by
  unfold refile; split <;> simp

/-- A subscriber keeps all but its live count. -/
theorem refile_sub (n : Nat) (d : Delivery) (due : Serial) (m : Nat) :
    (s.refile n d due).sub m = { s.sub m with live := ((s.refile n d due).sub m).live } := by
  unfold refile
  split
  · rw [endDelivery_sub]; split <;> rfl
  · simp [sub]

/-- A delivery re-filed stands at its new due serial, or has ended beyond its deadline. -/
theorem refile_live (n : Nat) (d : Delivery) (due : Serial) (m : Nat) :
    (s.refile n d due).live m =
      if m = n then (if beyond due d.deadline then none else some { d with due := due }) else s.live m := by
  unfold refile
  split
  · rw [endDelivery_live]
  · rw [live_file, unfile_live]

end State

/-! ### A check-in at one delivery -/

/-- A delivery after a check-in of subscriber `n`, whose next eligible serial is `due` (R83, R158). -/
def Delivery.afterCheckIn (n : Nat) (due : Serial) (d : Delivery) : Option Delivery :=
  if d.subscriber = n ∧ d.kind = .twoWay then
    match d.state with
    | .retryWait => if beyond due d.deadline then none else some { d with nextMark := .retryAfterCheckIn, due := due }
    | .onAir | .awaitReceipt => some { d with last := d.last.map (fun a => { a with checkedIn := true }) }
    | .queued | .placed => some d
  else some d

/-- A second visit finds nothing more to do. -/
theorem Delivery.afterCheckIn_idem (n : Nat) (due : Serial) (d : Delivery) :
    (d.afterCheckIn n due).bind (Delivery.afterCheckIn n due) = d.afterCheckIn n due := by
  by_cases reached : d.subscriber = n ∧ d.kind = .twoWay
  · cases state : d.state
    case retryWait =>
      by_cases late : beyond due d.deadline = true
      · simp [afterCheckIn, reached, state, late]
      · simp [afterCheckIn, reached, state, late]
    case onAir | awaitReceipt => simp [afterCheckIn, reached, state, Function.comp_def]
    case queued | placed => simp [afterCheckIn, reached, state]
  · simp [afterCheckIn, reached]

/-- What a check-in of subscriber `n` leaves as it is, apart from the deliveries and what their endings write. -/
structure State.SameAround (n : Nat) (s t : State) : Prop where
  clk : t.clk = s.clk
  zon : t.zon = s.zon
  bld : t.bld = s.bld
  rcp : t.rcp = s.rcp
  map : t.dir.map = s.dir.map
  sub : t.sub n = { s.sub n with live := (t.sub n).live }

namespace State

variable {n : Nat} {s t u : State}

theorem SameAround.refl (n : Nat) (s : State) : SameAround n s s := ⟨rfl, rfl, rfl, rfl, rfl, rfl⟩

theorem SameAround.trans (h : SameAround n s t) (g : SameAround n t u) : SameAround n s u :=
  ⟨g.clk.trans h.clk, g.zon.trans h.zon, g.bld.trans h.bld, g.rcp.trans h.rcp, g.map.trans h.map, by rw [g.sub, h.sub]⟩

/-- The next eligible serial of the subscriber is read off what stays. -/
theorem SameAround.due (h : SameAround n s t) :
    (t.sub n).nextEligible t.clk.earliestUnbuilt = (s.sub n).nextEligible s.clk.earliestUnbuilt := by
  rw [h.clk, h.sub]; rfl

theorem SameAround.queue (h : SameAround n s t) (z : Nat) : t.queue z = s.queue z := by simp [State.queue, h.rcp]
theorem SameAround.maps (h : SameAround n s t) (g : Nat) : t.maps g = s.maps g := by simp [State.maps, h.rcp]
theorem SameAround.zone (h : SameAround n s t) (z : Nat) : t.zone z = s.zone z := by simp [State.zone, h.zon]

theorem checkInOne_sameAround (n : Nat) (s : State) (j : Nat) : SameAround n s (checkInOne n s j) := by
  have written (d : Delivery) : SameAround n s (s.setLive j d) := ⟨rfl, rfl, rfl, rfl, rfl, rfl⟩
  unfold checkInOne
  split
  · exact .refl n s
  split
  · split
    · exact ⟨by simp, by simp, by simp, by simp, by simp, refile_sub ..⟩
    · exact written _
    · exact written _
    · exact .refl n s
    · exact .refl n s
  · exact .refl n s

theorem checkInOne_live (n : Nat) (s : State) (j m : Nat) :
    (checkInOne n s j).live m =
      if m = j then (s.live j).bind (Delivery.afterCheckIn n ((s.sub n).nextEligible s.clk.earliestUnbuilt))
      else s.live m := by
  unfold checkInOne
  cases live : s.live j with
  | none =>
    show s.live m = if m = j then none else s.live m
    split <;> simp [*]
  | some d =>
    have unchanged : s.live m = if m = j then some d else s.live m := by split <;> simp [*]
    simp only [Option.bind_some, Delivery.afterCheckIn]
    split
    · rename_i reached
      cases d.state with
      | retryWait => simp only [refile_live, nextFor, reached.1]
      | onAir | awaitReceipt => exact live_setLive ..
      | queued | placed => exact unchanged
    · exact unchanged

theorem foldl_checkInOne_sameAround (n : Nat) (l : List Nat) (s : State) : SameAround n s (l.foldl (checkInOne n) s) := by
  induction l generalizing s with
  | nil => exact .refl n s
  | cons j l ih => exact (checkInOne_sameAround n s j).trans (ih _)

/-- The deliveries after the check-in has reached those listed, each as often as it is listed. -/
theorem foldl_checkInOne_live (n : Nat) (l : List Nat) (s : State) (m : Nat) :
    (l.foldl (checkInOne n) s).live m =
      if m ∈ l then (s.live m).bind (Delivery.afterCheckIn n ((s.sub n).nextEligible s.clk.earliestUnbuilt))
      else s.live m := by
  induction l generalizing s with
  | nil => simp
  | cons j l ih =>
    rw [List.foldl_cons, ih, (checkInOne_sameAround n s j).due, checkInOne_live]
    by_cases hj : m = j
    · subst hj
      by_cases hl : m ∈ l
      · simp [hl, Option.bind_assoc, Delivery.afterCheckIn_idem]
      · simp [hl]
    · simp [hj]

/-- A live delivery is numbered among the live ones. -/
theorem mem_liveNumbers {j : Nat} {d : Delivery} (h : s.live j = some d) : j ∈ s.liveNumbers := by
  have listed := Table.mem_of_read (dflt := DeliveryRecord.fresh) (t := s.dlv.records) (n := j)
    (fun e => by rw [live, record, e] at h; cases h)
  have found : (Table.read .fresh s.dlv.records j).live = some d := h
  exact List.mem_map.2 ⟨_, List.mem_filter.2 ⟨listed, by simp [found]⟩, rfl⟩

end State

/-! ### The report of a check-in -/

theorem Subscriber.heard_checkedIn_none (u : Subscriber) (x : Serial) : (u.checkedIn x none).heard = u.heard := rfl

theorem Subscriber.heard_checkedIn_some (u : Subscriber) (x : Serial) (g : Nat) :
    (u.checkedIn x (some g)).heard = (u.report g x).heard := by
  unfold checkedIn report
  cases heard : u.heard with
  | none => rfl
  | some h =>
    dsimp only
    split
    · rfl
    · exact heard.symm

theorem Subscriber.checkIns_checkedIn (u : Subscriber) (x : Serial) (o : Option Nat) :
    (u.checkedIn x o).checkIns = min (u.checkIns + 1) 65535 := by
  cases o with
  | none => rfl
  | some g => exact congrArg Subscriber.checkIns (State.report_only ..)

/-- The zone and the subscriber of a check-in from a known unit have counted it, and no delivery has been visited yet. -/
def State.checkInCounted (s : State) (z n : Nat) (arrival : Serial) (group : Option Nat) : State :=
  let t := (s.setZone z { s.zone z with checkIns := min ((s.zone z).checkIns + 1) 65535 }).countKnown
  t.setSub n ((s.sub n).checkedIn arrival group)

theorem State.sub_checkInCounted (s : State) (z n : Nat) (arrival : Serial) (group : Option Nat) :
    (s.checkInCounted z n arrival group).sub n = (s.sub n).checkedIn arrival group := sub_setSub_same ..

theorem Subscriber.nextEligible_checkedIn (u : Subscriber) (x : Serial) (o : Option Nat) (y : Serial) :
    (u.checkedIn x o).nextEligible y = u.nextEligible y := by rw [State.checkedIn_only]; rfl

theorem State.takeCheckIn_known {s : State} {address : Word} {n : Nat} (known : s.lookup address = some n) (z : Nat)
    (arrival : Serial) (group : Option Nat) :
    s.takeCheckIn z address arrival group =
      s.liveNumbers.foldl (checkInOne n) (s.checkInCounted z n arrival group) := by
  have known' : (s.setZone z { s.zone z with checkIns := satAdd Config.count16Max (s.zone z).checkIns 1 }).lookup address =
    some n := known
  rw [takeCheckIn]; dsimp only; rw [known']; rfl

/-- Settles O49: the counts and the report are written first, and then each live delivery is visited; a delivery visited more
than once is left as the first visit leaves it. -/
theorem checkInsAreApplied : Obligations.CheckInsAreApplied := by
  unfold Obligations.CheckInsAreApplied
  intro s z address arrival group rest queue
  have run : exec (.checkInTaken z) s = event ((s.setQueue z.val rest).takeCheckIn z.val address arrival group) := by
    show execCheckInTaken z s = _
    rw [execCheckInTaken, queue]
  refine ⟨fun unknown => ?_, fun n known => ?_⟩
  · have unknown' : (s.setQueue z.val rest).lookup address = none := unknown
    refine ⟨_, run.trans (by rw [State.takeCheckIn]; dsimp only; rw [State.lookup_setZone, unknown']; rfl), rfl, rfl, rfl,
      by simp [State.countUnknown], fun g => by simp [State.countUnknown], fun y => ?_⟩
    simp only [State.zone_lineChoice, State.zone_notice, State.countUnknown, State.zone_setCounters, State.zone_setZone,
      State.zone_setQueue]
    split
    · subst y; rfl
    · rfl
  · rw [State.takeCheckIn_known (s := s.setQueue z.val rest) known] at run
    have around := State.foldl_checkInOne_sameAround n (s.setQueue z.val rest).liveNumbers
      ((s.setQueue z.val rest).checkInCounted z.val n arrival group)
    have reached (j : Nat) (d : Delivery) (live : s.live j = some d) :=
      (State.foldl_checkInOne_live n (s.setQueue z.val rest).liveNumbers
        ((s.setQueue z.val rest).checkInCounted z.val n arrival group) j).trans
          (if_pos (State.mem_liveNumbers (s := s.setQueue z.val rest) live))
    generalize (s.setQueue z.val rest).liveNumbers.foldl (checkInOne n)
      ((s.setQueue z.val rest).checkInCounted z.val n arrival group) = t at run around reached
    have live (j : Nat) (d : Delivery) (live : s.live j = some d) :
        t.live j = d.afterCheckIn n ((s.sub n).nextEligible s.clk.earliestUnbuilt) := by
      rw [reached j d live, State.sub_checkInCounted, Subscriber.nextEligible_checkedIn]
      exact congrArg (Option.bind · _) live
    have sub := around.sub
    rw [State.sub_checkInCounted] at sub
    have heard (h : Heard) (known : (s.sub n).heard = some h) (newer : atOrBefore h.serial arrival = false) :
        ((s.sub n).checkedIn arrival group).heard = some h := by
      cases group with
      | none => exact known
      | some g => rw [Subscriber.heard_checkedIn_some]; exact ((s.sub n).heard_report g arrival).1 h known newer
    refine ⟨_, run, congrArg ReceiptUnit.counters around.rcp, ?_, fun g => ?_, fun y => ?_, ?_, fun none => ?_,
      fun g some older => ?_, fun h known newer => ?_, fun j d found apart => ?_, fun j d found own kind state => ?_,
      fun j d due found own kind state hdue => ⟨fun inTime => ?_, fun late => ?_⟩, around.clk, around.bld, around.map⟩
    · exact (around.queue z.val).trans (State.queue_setQueue_same ..)
    · exact around.maps g
    · refine (around.zone y).trans ((State.zone_setZone (s.setQueue z.val rest) z.val y _).trans ?_)
      split
      · subst y; rfl
      · rfl
    · rw [State.sub_lineChoice, sub]; exact Subscriber.checkIns_checkedIn ..
    · rw [State.sub_lineChoice, sub, none]; rfl
    · rw [State.sub_lineChoice, sub, some]
      exact (Subscriber.heard_checkedIn_some ..).trans (((s.sub n).heard_report g arrival).2 older)
    · rw [State.sub_lineChoice, sub]; exact heard h known newer
    · rw [State.live_lineChoice, live j d found]
      obtain other | oneWay | queued | placed := apart
      · simp [Delivery.afterCheckIn, other]
      · simp [Delivery.afterCheckIn, oneWay]
      · simp [Delivery.afterCheckIn, queued]
      · simp [Delivery.afterCheckIn, placed]
    · rw [State.live_lineChoice, live j d found]
      obtain onAir | awaiting := state
      · simp [Delivery.afterCheckIn, own, kind, onAir]
      · simp [Delivery.afterCheckIn, own, kind, awaiting]
    · rw [State.live_lineChoice, live j d found, ← hdue]
      simp [Delivery.afterCheckIn, own, kind, state, beyond, inTime]
    · rw [State.live_lineChoice, live j d found, ← hdue]
      simp [Delivery.afterCheckIn, own, kind, state, beyond, late]

end Sys2Proof.Machine
end

section
/-! PROOFS. The placement of one entry (R75, R77, R78, R126 to R130, R155): its candidates and slots, what a placement writes, and
what a deferral leaves. -/

namespace Sys2Proof.Machine

/-! ### Groups, slots and targets -/

/-- A fold that raises the bits of a list's groups that pass a test. -/
theorem getLsbD_foldl_twoPow (p : Nat → Bool) {g : Nat} (hg : g < 4) (l : List Nat) (acc : GroupSet) :
    (l.foldl (fun acc k => if p k then acc ||| BitVec.twoPow 4 k else acc) acc).getLsbD g =
      (acc.getLsbD g || (decide (g ∈ l) && p g)) := by
  induction l generalizing acc with
  | nil => simp
  | cons k l ih =>
    rw [List.foldl_cons, ih]
    by_cases hk : g = k
    · subst k
      cases hp : p g <;> simp [hg]
    · have hk' : ¬k = g := fun e => hk e.symm
      cases hp : p k <;> simp [BitVec.getLsbD_twoPow, hk, hk']

theorem getLsbD_groupsWhere (p : Nat → Bool) {g : Nat} (hg : g < 4) : (groupsWhere p).getLsbD g = p g := by
  simp [groupsWhere, getLsbD_foldl_twoPow p hg, (mem_groupNumbers g).2 hg]

theorem nodup_members (cand : GroupSet) : (members 4 cand).Nodup := List.nodup_range.filter _

/-- Last heard is fresh (R16). -/
theorem Subscriber.fresh_eq_some (u : Subscriber) (x : Serial) (g : Nat) :
    u.fresh x = some g ↔
      ∃ h, u.heard = some h ∧ h.group = g ∧ (x - h.serial).toNat ≤ 1024 ∧ u.coverage.getLsbD g = true := by
  unfold fresh
  cases u.heard with
  | none => simp
  | some h =>
    simp only [Option.ite_none_right_eq_some, Option.some.injEq, exists_eq_left', Config.localityAge]
    constructor
    · rintro ⟨⟨age, covered⟩, rfl⟩; exact ⟨rfl, age, covered⟩
    · rintro ⟨rfl, age, covered⟩; exact ⟨⟨age, covered⟩, rfl⟩

/-- The target set of a visit, by the kind of the delivery and the attempts made (R126, R155). -/
theorem getLsbD_targets (u : Subscriber) (d : Delivery) (x : Serial) {g : Nat} (hg : g < 4) :
    (targets u d x).getLsbD g = true ↔
      (d.kind = .oneWay → u.home.getLsbD g = true) ∧
      (d.kind = .twoWay → d.attemptsMade = 0 → u.fresh x = some g ∨ ((∀ h, u.fresh x ≠ some h) ∧ u.home.getLsbD g = true)) ∧
      (d.kind = .twoWay → d.attemptsMade = 1 → u.fresh x = some g ∨ u.home.getLsbD g = true) ∧
      (d.kind = .twoWay → 2 ≤ d.attemptsMade → u.coverage.getLsbD g = true) := by
  unfold targets
  cases d.kind with
  | oneWay => simp
  | twoWay =>
    unfold attemptTargets
    obtain first | second | later : d.attemptsMade = 0 ∨ d.attemptsMade = 1 ∨ 2 ≤ d.attemptsMade := by omega
    · cases fresh : u.fresh x <;> simp [first, hg, @eq_comm _ g]
    · cases fresh : u.fresh x <;> simp [second, hg, or_comm, @eq_comm _ g]
    · have notFirst : d.attemptsMade ≠ 0 := by omega
      have notSecond : d.attemptsMade ≠ 1 := by omega
      simp [later, notFirst, notSecond]

/-- The lowest usable slot that names no delivery (R128). -/
theorem ReceiptMap.freeSlot_eq_some (m : ReceiptMap) (j : Nat) :
    m.freeSlot = some j ↔ j < 16 ∧ m.usable.getLsbD j = true ∧ m.slot j = .empty ∧
      ∀ k < j, m.usable.getLsbD k = true → m.slot k ≠ .empty := by
  unfold freeSlot
  simp only [List.find?_range_eq_some, List.mem_range, Bool.and_eq_true, decide_eq_true_eq, Bool.not_eq_true',
    Bool.and_eq_false_imp, decide_eq_false_iff_not]
  tauto

theorem State.slotFor_eq_some (s : State) (g j : Nat) :
    s.slotFor g = some j ↔ ∃ m : ReceiptMap, (s.maps g).building = some m ∧ j < 16 ∧ m.usable.getLsbD j = true ∧
      m.slot j = .empty ∧ ∀ k < j, m.usable.getLsbD k = true → m.slot k ≠ .empty := by
  unfold slotFor
  cases (s.maps g).building with
  | none => simp
  | some m => simpa using m.freeSlot_eq_some j

theorem State.groupPasses_iff (s : State) (d : Delivery) (g : Nat) :
    s.groupPasses d g = true ↔
      (∃ i : Image, (s.images g).next = some i ∧ i.p + 1 + paddedTo i.depth (i.m + d.words - 1) ≤ i.capacity) ∧
      (d.kind = .twoWay → ∃ j, s.slotFor g = some j) := by
  have kinds : (d.kind = .oneWay ∨ (s.slotFor g).isSome = true) ↔ (d.kind = .twoWay → ∃ j, s.slotFor g = some j) := by
    cases d.kind <;> simp [Option.isSome_iff_exists]
  unfold groupPasses
  rw [Bool.and_eq_true, Bool.or_eq_true, decide_eq_true_eq, kinds]
  cases (s.images g).next with
  | none => simp
  | some i => simp [Image.hasRoom]

/-- The slots claimed: the groups listed for which the lookup has one, each with its slot. -/
theorem mem_pairs (f : Nat → Option Nat) (l : List Nat) (p : Nat × Nat) :
    p ∈ l.filterMap (fun g => (f g).map (fun j => (g, j))) ↔ p.1 ∈ l ∧ f p.1 = some p.2 := by
  obtain ⟨g, j⟩ := p
  simp only [List.mem_filterMap, Option.map_eq_some_iff, Prod.mk.injEq]
  constructor
  · rintro ⟨_, listed, _, found, rfl, rfl⟩; exact ⟨listed, found⟩
  · rintro ⟨listed, found⟩; exact ⟨g, listed, j, found, rfl, rfl⟩

theorem map_fst_pairs {f : Nat → Option Nat} {l : List Nat} (h : ∀ g ∈ l, ∃ j, f g = some j) :
    (l.filterMap (fun g => (f g).map (fun j => (g, j)))).map (fun p => p.1) = l := by
  induction l with
  | nil => rfl
  | cons g l ih =>
    obtain ⟨j, found⟩ := h g List.mem_cons_self
    simp [found, ih (fun k hk => h k (List.mem_cons_of_mem _ hk))]

theorem slotIn_pairs {f : Nat → Option Nat} {l : List Nat} {g j : Nat} (listed : g ∈ l) (found : f g = some j) :
    slotIn (l.filterMap (fun g => (f g).map (fun j => (g, j)))) g = some j := by
  have present : (List.find? (fun p : Nat × Nat => p.1 = g) (l.filterMap (fun g => (f g).map (fun j => (g, j))))).isSome := by
    rw [List.find?_isSome]
    exact ⟨(g, j), (mem_pairs f l _).2 ⟨listed, found⟩, by simp⟩
  obtain ⟨p, hp⟩ := Option.isSome_iff_exists.1 present
  have group : p.1 = g := by simpa using List.find?_some hp
  have slot := ((mem_pairs f l p).1 (List.mem_of_find?_eq_some hp)).2
  rw [group, found] at slot
  rw [slotIn, hp, slot]
  rfl

/-! ### A placement, block by block (R78, R130, R144) -/

/-- The images of a group after an entry was appended to the page list of its next image, if it has one (R121, R129). -/
def GroupImages.paged (r : GroupImages) (e : PageEntry) : GroupImages :=
  { r with next := r.next.map (fun i => { i with pages := i.pages ++ [e] }) }

theorem GroupImages.paged_of_open {r : GroupImages} {i : Image} (h : r.next = some i) (e : PageEntry) :
    r.paged e = { r with next := some { i with pages := i.pages ++ [e] } } := by simp [paged, h]

theorem GroupImages.paged_of_shut {r : GroupImages} (h : r.next = none) (e : PageEntry) : r.paged e = r := by
  cases r; simp_all [paged]

namespace State

variable (s : State)

theorem addPage_only (n : Nat) (d : Delivery) (slots : List (Nat × Nat)) (g : Nat) :
    ∃ images, addPage n d slots s g = s.withBld { s.bld with images := images } := by
  unfold addPage
  split
  · exact ⟨_, rfl⟩
  · exact ⟨s.bld.images, rfl⟩

theorem foldl_addPage_only (n : Nat) (d : Delivery) (slots : List (Nat × Nat)) (l : List Nat) :
    ∃ images, l.foldl (addPage n d slots) s = s.withBld { s.bld with images := images } := by
  induction l generalizing s with
  | nil => exact ⟨s.bld.images, rfl⟩
  | cons g l ih =>
    obtain ⟨i, first⟩ := s.addPage_only n d slots g
    obtain ⟨j, rest⟩ := ih (addPage n d slots s g)
    exact ⟨j, by rw [List.foldl_cons, rest, first]; rfl⟩

theorem writeSlots_only (f : Serial) (x : Slot) (l : List (Nat × Nat)) :
    ∃ maps, writeSlots f x s l = s.withRcp { s.rcp with maps := maps } := by
  induction l generalizing s with
  | nil => exact ⟨s.rcp.maps, rfl⟩
  | cons p l ih =>
    obtain ⟨m, rest⟩ := ih (s.setSlot f p.1 p.2 x)
    exact ⟨m, rest⟩

theorem unfile_only (n : Nat) : ∃ table, s.unfile n = s.withDlv table := by
  rcases s.unfile_cases n with ⟨d, -, -, h⟩ | ⟨-, h⟩
  · exact ⟨_, h⟩
  · exact ⟨s.dlv, h⟩

theorem images_addPage (n : Nat) (d : Delivery) (slots : List (Nat × Nat)) (g k : Nat) :
    (addPage n d slots s g).images k =
      if k = g then (s.images k).paged (s.entryFor n d slots k) else s.images k := by
  unfold addPage
  split
  · rename_i i next
    rw [images_setImages]
    split
    · subst k; rw [GroupImages.paged_of_open next]
    · rfl
  · rename_i shut
    split
    · subst k; rw [GroupImages.paged_of_shut shut]
    · rfl

/-- An entry is read off records that a page list does not hold. -/
theorem entryFor_of_standing {t : State} (h : t.standing = s.standing) (n : Nat) (d : Delivery) (slots : List (Nat × Nat))
    (g : Nat) : t.entryFor n d slots g = s.entryFor n d slots g := by
  have records : t.dlv.records = s.dlv.records := congrArg Standing.records h
  have subs : t.dir = s.dir := congrArg Standing.dir h
  simp [entryFor, ticket, record, sub, records, subs]

theorem images_foldl_addPage (n : Nat) (d : Delivery) (slots : List (Nat × Nat)) {l : List Nat} (nodup : l.Nodup) (k : Nat) :
    (l.foldl (addPage n d slots) s).images k =
      if k ∈ l then (s.images k).paged (s.entryFor n d slots k) else s.images k := by
  induction l generalizing s with
  | nil => simp
  | cons g l ih =>
    obtain ⟨new, rest⟩ := List.nodup_cons.1 nodup
    rw [List.foldl_cons, ih _ rest, images_addPage, entryFor_of_standing _ (s.standing_addPage ..)]
    by_cases hk : k = g
    · subst k; simp [new]
    · simp [hk]

section Place

variable (n : Nat) (d : Delivery) (x : Serial) (cand : GroupSet)

/-- The state of a placement when the pages are appended and the slots written, before its record is. -/
def offered : State :=
  writeSlots x (.claimed (s.ticket n)) ((members 4 cand).foldl (addPage n d (s.slotsFor d cand)) s) (s.slotsFor d cand)

theorem offered_only : ∃ images maps,
    s.offered n d x cand = (s.withBld { s.bld with images := images }).withRcp { s.rcp with maps := maps } := by
  obtain ⟨images, paged⟩ := s.foldl_addPage_only n d (s.slotsFor d cand) (members 4 cand)
  unfold offered
  rw [paged]
  obtain ⟨maps, written⟩ := (s.withBld { s.bld with images := images }).writeSlots_only x (.claimed (s.ticket n))
    (s.slotsFor d cand)
  exact ⟨images, maps, written⟩

theorem offered_dlv : (s.offered n d x cand).dlv = s.dlv := by
  obtain ⟨_, _, h⟩ := s.offered_only n d x cand
  rw [h]; rfl

theorem place_eq : s.place n d x cand =
    ((s.offered n d x cand).unfile n).setLive n (d.placed x cand (s.slotsFor d cand)) := by
  obtain ⟨_, paged⟩ := s.foldl_addPage_only n d (s.slotsFor d cand) (members 4 cand)
  unfold place offered
  dsimp only
  rw [show ((members 4 cand).foldl (addPage n d (s.slotsFor d cand)) s).ticket n = s.ticket n by rw [paged]; rfl]

/-- All that a placement writes: its record and its place in the calendar, the images, and the maps. -/
theorem place_only : s.place n d x cand =
    ((s.withDlv (s.place n d x cand).dlv).withBld { s.bld with images := (s.place n d x cand).bld.images }).withRcp
      { s.rcp with maps := (s.place n d x cand).rcp.maps } := by
  obtain ⟨_, _, offered⟩ := s.offered_only n d x cand
  obtain ⟨_, unfiled⟩ := (s.offered n d x cand).unfile_only n
  rw [place_eq, unfiled, offered]
  rfl

theorem place_live : (s.place n d x cand).live n = some (d.placed x cand (s.slotsFor d cand)) := by
  rw [place_eq, live_setLive, if_pos rfl]

theorem place_record {m : Nat} (h : m ≠ n) : (s.place n d x cand).record m = s.record m := by
  rw [place_eq, setLive, record_setRecord_other _ h, unfile_record, record, offered_dlv]
  rfl

theorem place_images (g : Nat) : (s.place n d x cand).images g =
    if g ∈ members 4 cand then (s.images g).paged (s.entryFor n d (s.slotsFor d cand) g) else s.images g := by
  rw [← s.images_foldl_addPage n d (s.slotsFor d cand) (nodup_members cand), place_eq]
  simp [images, offered]

/-- The slots claimed take the entry in the map of the frame built, and no other slot changes (R78, R144). -/
theorem place_maps (g : Nat) : (s.maps g).rewritten ((s.place n d x cand).maps g)
    (fun frame j => frame = x ∧ (g, j) ∈ s.slotsFor d cand) (.claimed (s.ticket n)) := by
  obtain ⟨_, paged⟩ := s.foldl_addPage_only n d (s.slotsFor d cand) (members 4 cand)
  have written := maps_writeSlots x (.claimed (s.ticket n)) g (s.slotsFor d cand)
    ((members 4 cand).foldl (addPage n d (s.slotsFor d cand)) s)
  rw [show ((members 4 cand).foldl (addPage n d (s.slotsFor d cand)) s).maps g = s.maps g by rw [paged]; rfl] at written
  rw [place_eq, maps_setLive, show ((s.offered n d x cand).unfile n).maps g = (s.offered n d x cand).maps g by simp [maps]]
  exact written

/-- The delivery leaves its calendar list, if it stands in one. -/
theorem place_calList (live : s.live n = some d) (k : Nat) : (s.place n d x cand).calList k =
    if d.state.waiting = true ∧ k = frameNumber d.due then (s.calList k).filter (fun m => m ≠ n) else s.calList k := by
  have table := s.offered_dlv n d x cand
  have live' : (s.offered n d x cand).live n = some d := by rw [State.live, record, table]; exact live
  have list : (s.offered n d x cand).calList k = s.calList k := by rw [calList, table]; rfl
  rw [place_eq, calList_setLive, calList_unfile, list]
  simp [live', @eq_comm _ k]

end Place

/-! ### A deferral (R75, R77) -/

/-- A delivery re-filed is the one R75 says: it stands in the list of its due serial, or has ended. -/
theorem refile_refiled (n : Nat) (d : Delivery) (due : Serial) :
    s.refiled (s.refile n d due) n { d with due := due } := by
  refine ⟨fun inTime => ?_, fun late => ?_⟩
  · have filed : s.refile n d due = (s.unfile n).file n { d with due := due } := if_neg (by simpa [beyond] using inTime)
    rw [filed]
    refine ⟨by rw [live_file, if_pos rfl], ?_⟩
    unfold file
    rw [calList_setCalList_same]
    exact (insertInList_perm ..).mem_iff.2 List.mem_cons_self
  · have ended : s.refile n d due = s.endDelivery n d .expired .lifetime := if_pos (by simpa [beyond] using late)
    rw [ended]
    refine ⟨by rw [endDelivery_live, if_pos rfl], by rw [endDelivery_record, if_pos rfl], s.usageOf n d .expired .lifetime, ?_,
      rfl, rfl, rfl, by rw [endDelivery_clk]; rfl⟩
    simp [Journal.append]

end State

/-- A delivery as a deferral leaves it, at its new due serial (R77). -/
def Delivery.deferred (d : Delivery) (due : Serial) : Delivery :=
  { d with deferrals := min (d.deferrals + 1) 255, due := due }

theorem State.defer_refiled (s : State) (n : Nat) (d : Delivery) (x : Serial) :
    s.refiled (s.defer n d x) n (d.deferred ((s.sub d.subscriber).nextEligible (x + 1))) :=
  s.refile_refiled n { d with deferrals := satAdd 255 d.deferrals 1 } (s.nextFor d (x + 1))

theorem State.live_defer {s : State} {n : Nat} {d e : Delivery} {x : Serial} (h : (s.defer n d x).live n = some e) :
    e = d.deferred ((s.sub d.subscriber).nextEligible (x + 1)) := by
  rw [defer, refile_live, if_pos rfl] at h
  split at h
  · cases h
  · cases h; rfl

/-! ### The slots of a placement (R78, R128) -/

theorem State.slotsFor_oneWay {s : State} {d : Delivery} (kind : d.kind = .oneWay) (cand : GroupSet) :
    s.slotsFor d cand = [] := by unfold slotsFor; rw [kind]

theorem State.slotsFor_twoWay {s : State} {d : Delivery} (kind : d.kind = .twoWay) (cand : GroupSet) :
    s.slotsFor d cand = (members 4 cand).filterMap (fun g => (s.slotFor g).map (fun j => (g, j))) := by
  unfold slotsFor; rw [kind]

/-- The slot that an entry carries: the one claimed in its group (R130). -/
theorem State.slotIn_slotsFor {s : State} {d : Delivery} {cand : GroupSet} {g : Nat} (listed : g ∈ members 4 cand)
    (passes : s.groupPasses d g = true) :
    slotIn (s.slotsFor d cand) g = if d.kind = .twoWay then s.slotFor g else none := by
  cases kind : d.kind with
  | oneWay => rw [s.slotsFor_oneWay kind]; rfl
  | twoWay =>
    obtain ⟨j, found⟩ := ((s.groupPasses_iff d g).1 passes).2 kind
    rw [s.slotsFor_twoWay kind, slotIn_pairs listed found, if_pos rfl, found]

theorem State.place_of_passes {s : State} {n : Nat} {d : Delivery} {x : Serial} (nonempty : s.candidates d x ≠ 0)
    (pass : ∀ g ∈ members 4 (s.candidates d x), s.groupPasses d g = true) :
    s.tryPlace n d x = s.place n d x (s.candidates d x) := if_pos ⟨nonempty, List.all_eq_true.2 pass⟩

theorem State.defer_of_fails {s : State} {n : Nat} {d : Delivery} {x : Serial}
    (fails : s.candidates d x = 0 ∨ ∃ g ∈ members 4 (s.candidates d x), s.groupPasses d g = false) :
    s.tryPlace n d x = s.defer n d x := by
  refine if_neg ?_
  rintro ⟨nonempty, pass⟩
  obtain empty | ⟨g, listed, fail⟩ := fails
  · exact nonempty empty
  · exact absurd (List.all_eq_true.1 pass g listed) (by simp [fail])

/-- Settles O45: the entry is placed in every candidate group or deferred, and the candidates, the tests and the slots are
those of R126 to R128 and R155. -/
theorem placementIsAllOrNothing : Obligations.PlacementIsAllOrNothing := by
  unfold Obligations.PlacementIsAllOrNothing
  refine ⟨fun s n d x cand live hcand => ⟨fun nonempty pass => ?_, fun fails => ?_⟩, fun s d x u fresh hu hfresh g hg => ⟨?_,
    s.groupPasses_iff d g, s.slotFor_eq_some g⟩⟩
  · subst hcand
    rw [State.place_of_passes nonempty pass]
    generalize s.candidates d x = cand at pass
    refine ⟨⟨{ serial := x, carried := cand, slots := s.slotsFor d cand, mark := d.nextMark, checkedIn := false }, ?_, rfl, rfl,
      rfl, rfl, fun kind => s.slotsFor_oneWay kind cand, fun kind => ?_, fun g => s.place_maps n d x cand g⟩,
      fun g listed i next => ?_, fun g unlisted => ?_, fun k => s.place_calList n d x cand live k,
      fun m hm => s.place_record n d x cand hm, s.place_only n d x cand⟩
    · rw [State.place_live, Delivery.placed]
      cases d.kind <;> rfl
    · dsimp only
      rw [s.slotsFor_twoWay kind]
      exact ⟨map_fst_pairs fun g listed => ((s.groupPasses_iff d g).1 (pass g listed)).2 kind,
        fun p hp => ((mem_pairs s.slotFor _ p).1 hp).2⟩
    · rw [State.place_images, if_pos listed, GroupImages.paged_of_open next, State.entryFor,
        State.slotIn_slotsFor listed (pass g listed)]
    · rw [State.place_images, if_neg unlisted]
  · subst hcand
    rw [State.defer_of_fails fails]
    exact ⟨State.refile_bld .., State.refile_rcp .., s.defer_refiled n d x, fun e found => State.live_defer found⟩
  · have hfresh (g : Nat) : fresh g ↔ u.fresh x = some g := (hfresh g).trans (u.fresh_eq_some x g).symm
    rw [State.candidates, BitVec.getLsbD_and, Bool.and_eq_true, State.openGroups, getLsbD_groupsWhere _ hg, ← hu,
      getLsbD_targets u d x hg, and_comm]
    simp only [hfresh, Option.isSome_iff_ne_none]

end Sys2Proof.Machine
end

section
/-! PROOFS. The charge calculation (R36 to R40): no stage wraps, the two limits, and the hold over every charge. -/

namespace Sys2Proof.Machine

/-! ### The ranges of a tariff entry (R31) -/

theorem Tariff.inRange_iff (e : Tariff) :
    e.inRange = true ↔
      e.base ≤ 4095 ∧ e.perWord ≤ 4095 ∧ 16 ≤ e.f1 ∧ e.f1 ≤ e.f2 ∧ e.f2 ≤ e.f3 ∧ e.f3 ≤ e.f4 ∧ e.f4 ≤ 64 ∧
        8 ≤ e.urgent ∧ e.urgent ≤ 32 ∧ 4 ≤ e.low ∧ e.low ≤ 8 ∧ e.minimum ≤ 4095 ∧ e.expiry ≤ 4095 := by
  simp only [inRange, Bool.and_eq_true, decide_eq_true_eq, and_assoc]

theorem Tariff.spanFactor_le {e : Tariff} (range : e.inRange = true) (span : Nat) : e.spanFactor span ≤ 64 := by
  obtain ⟨-, -, -, h12, h23, h34, top, -⟩ := e.inRange_iff.1 range
  unfold spanFactor
  split_ifs <;> omega

theorem Tariff.multiplier_le {e : Tariff} (range : e.inRange = true) (p : Priority) : e.multiplier p ≤ 32 := by
  obtain ⟨-, -, -, -, -, -, -, -, urgent, -, low, -⟩ := e.inRange_iff.1 range
  cases p with
  | urgent => exact urgent
  | normal => exact Nat.le_of_ble_eq_true rfl
  | low => exact low.trans (Nat.le_of_ble_eq_true rfl)

/-- The span factors of an entry do not decrease (R31). -/
theorem Tariff.spanFactor_mono {e : Tariff} (range : e.inRange = true) {a b : Nat} (h : a ≤ b) :
    e.spanFactor a ≤ e.spanFactor b := by
  obtain ⟨-, -, -, h12, h23, h34, -⟩ := e.inRange_iff.1 range
  unfold spanFactor
  split_ifs <;> omega

/-! ### The stages (R37) -/

/-- A product that fits in a word is the product of the numbers. -/
theorem toNat_mul_ofNat {a : BitVec 32} {b : Nat} (fits : a.toNat * b < 4294967296) :
    (a * BitVec.ofNat 32 b).toNat = a.toNat * b := by
  rw [BitVec.toNat_mul, BitVec.toNat_ofNat, Nat.mul_mod_mod, Nat.mod_eq_of_lt fits]

/-- Stage 1: the base charge and the words, in sixteenths. -/
theorem toNat_stage1 {e : Tariff} (range : e.inRange = true) {words : Nat} (h : words ≤ 122) :
    (16 * BitVec.ofNat 32 e.base + BitVec.ofNat 32 e.perWord * BitVec.ofNat 32 words : BitVec 32).toNat =
        16 * e.base + e.perWord * words ∧
      16 * e.base + e.perWord * words ≤ 565110 := by
  obtain ⟨base, perWord, -⟩ := e.inRange_iff.1 range
  have product : e.perWord * words ≤ 4095 * 122 := Nat.mul_le_mul perWord h
  have hp : (BitVec.ofNat 32 e.perWord).toNat = e.perWord := by rw [BitVec.toNat_ofNat]; omega
  have hw : (BitVec.ofNat 32 e.perWord * BitVec.ofNat 32 words).toNat = e.perWord * words := by
    rw [toNat_mul_ofNat (by rw [hp]; omega), hp]
  have hb : (16 * BitVec.ofNat 32 e.base : BitVec 32).toNat = 16 * e.base :=
    toNat_mul_ofNat (show (16 : BitVec 32).toNat * e.base < 4294967296 by simp; omega)
  exact ⟨by rw [BitVec.toNat_add_of_lt (by omega), hb, hw], by omega⟩

/-- The span factor, for the spans that a delivery can have. -/
theorem Tariff.spanFactor_eq (e : Tariff) {span : Nat} (h : 1 ≤ span) :
    e.spanFactor span = if span = 1 then e.f1 else if span = 2 then e.f2 else if span = 3 then e.f3 else e.f4 := by
  simp only [spanFactor, show span ≤ 1 ↔ span = 1 by omega]

/-- A stage that multiplies and divides, on a number with a known bound. -/
theorem toNat_mul_div {a d : BitVec 32} {b k bound top : Nat} (hd : d.toNat = k) (ha : a.toNat ≤ bound) (hb : b ≤ top)
    (fits : bound * top < 4294967296) :
    (a * BitVec.ofNat 32 b / d).toNat = a.toNat * b / k ∧ a.toNat * b ≤ bound * top := by
  have product : a.toNat * b ≤ bound * top := Nat.mul_le_mul ha hb
  exact ⟨by rw [BitVec.toNat_udiv, hd, toNat_mul_ofNat (product.trans_lt fits)], product⟩

/-- The greatest entry in range (R31). -/
def Tariff.greatest : Tariff :=
  { base := 4095, perWord := 4095, f1 := 64, f2 := 64, f3 := 64, f4 := 64, urgent := 32, low := 8, minimum := 4095,
    expiry := 4095 }

/-- Settles O21: each stage's product fits in a word, so each stage of the words is that of the numbers. -/
theorem stagedChargeNeverWraps : Obligations.StagedChargeNeverWraps := by
  unfold Obligations.StagedChargeNeverWraps
  refine ⟨fun e words span p trim range _ most first _ trimTop x1 x2 x3 x4 c e1 e2 e3 e4 e5 => ?_,
    Tariff.greatest, 9041760, by decide, by decide, by decide⟩
  rw [← e.spanFactor_eq first] at e2
  replace e3 : x3 = x2 * BitVec.ofNat 32 (e.multiplier p) / 8 := e3.trans (by cases p <;> rfl)
  replace e4 : x4 = x3 * BitVec.ofNat 32 (128 + trim) / 256 := by rw [e4, BitVec.ofNat_add]; rfl
  obtain ⟨stage1, bound1⟩ := toNat_stage1 range most
  rw [← e1] at stage1
  obtain ⟨stage2, bound2⟩ := toNat_mul_div (d := 16) (k := 16) rfl (stage1.trans_le bound1) (Tariff.spanFactor_le range span)
    (by decide)
  rw [← e2] at stage2
  have small2 : x2.toNat ≤ 2260440 := by omega
  obtain ⟨stage3, bound3⟩ := toNat_mul_div (d := 8) (k := 8) rfl small2 (Tariff.multiplier_le range p) (by decide)
  rw [← e3] at stage3
  have small3 : x3.toNat ≤ 9041760 := by omega
  obtain ⟨stage4, bound4⟩ := toNat_mul_div (d := 256) (k := 256) rfl small3 (Nat.add_le_add_left trimTop 128) (by decide)
  rw [← e4] at stage4
  have stage5 : c.toNat = (x4.toNat + 8) / 16 := by
    have fits : x4.toNat + (8 : BitVec 32).toNat < 2 ^ 32 := by simp; omega
    rw [e5, BitVec.toNat_udiv, BitVec.toNat_add_of_lt fits]; rfl
  exact ⟨by rw [stage5, stage4, stage3, stage2, stage1]; rfl, bound4⟩

/-! ### The two limits (R38) -/

/-- Settles O22: the staged result is raised to the minimum charge, or held at the greatest amount, or neither. -/
theorem chargeLimitsInOrder : Obligations.ChargeLimitsInOrder := by
  unfold Obligations.ChargeLimitsInOrder
  intro e words span p trim range
  obtain ⟨-, -, -, -, -, -, -, -, -, -, -, minimum, -⟩ := e.inRange_iff.1 range
  have small : e.minimum ≤ 65535 := minimum.trans (by decide)
  unfold Tariff.computed
  generalize e.staged words span p trim = c
  refine ⟨fun below => ?_, fun above => ?_, fun least most => ?_⟩
  · simp [Config.amountMax, below, max_eq_right below.le, small, small.not_gt]
  · have higher := small.trans above.le
    simp [Config.amountMax, above, above.le, max_eq_left higher, higher.not_gt]
  · simp [Config.amountMax, max_eq_left least, least.not_gt, most, most.not_gt]

/-! ### The hold over every charge (R39, R40) -/

theorem Tariff.staged_mono {e : Tariff} (range : e.inRange = true) {a b : Nat} (h : a ≤ b) (words : Nat) (p : Priority)
    (trim : Nat) : e.staged words a p trim ≤ e.staged words b p trim := by
  have factor := Tariff.spanFactor_mono range h
  unfold staged
  dsimp only
  gcongr

/-- A longer span costs no less: the limits keep the order of the stages. -/
theorem Tariff.computed_mono {e : Tariff} (range : e.inRange = true) {a b : Nat} (h : a ≤ b) (words : Nat) (p : Priority)
    (trim : Nat) : (e.computed words a p trim).1 ≤ (e.computed words b p trim).1 :=
  min_le_min_right _ (max_le_max_right _ (Tariff.staged_mono range h words p trim))

/-- Settles O23: each outcome's charge is capped at the hold, which is no less than what a smaller span, or an expiry, costs
under the entry it was taken from. -/
theorem chargeNeverExceedsHold : Obligations.ChargeNeverExceedsHold := by
  unfold Obligations.ChargeNeverExceedsHold
  rintro e words span holdSpan p trim hold x c rfl
  have covered (range : e.inRange = true) (h : span ≤ holdSpan) :
      (e.computed words span p trim).1 ≤ e.hold words holdSpan p trim :=
    (Tariff.computed_mono range h words p trim).trans (le_max_left ..)
  refine ⟨rfl, ?_⟩
  cases x with
  | delivered | sent =>
    refine ⟨fun _ => rfl, nofun, Nat.min_le_right .., by simp [Tariff.charge], nofun, fun range h eq => ?_⟩
    subst eq
    exact decide_eq_false (Nat.not_lt.2 (covered range h))
  | expired =>
    refine ⟨nofun, fun _ => rfl, Nat.min_le_right .., by simp [Tariff.charge], nofun, fun _ _ eq => ?_⟩
    subst eq
    exact decide_eq_false (Nat.not_lt.2 (le_max_right ..))
  | cancelled =>
    exact ⟨nofun, nofun, Nat.zero_le _, by simp [Tariff.charge, ChargeFlags.clear], fun _ => rfl, fun _ _ _ => rfl⟩

end Sys2Proof.Machine
end

section
/-! PROOFS. The requests of the account unit: what an accepted one writes, what it leaves, and what a refused one answers
(R23 to R28, R32, R35). -/

namespace Sys2Proof.Machine

/-! ### What a request of the account unit does -/

/-- A ready request whose only write is one account record. -/
theorem exec_writes_account {c : Instr} {kind tag : Byte} {p : List Byte} {serve : List Byte → State → State × Answer}
    {s : State} {n : Nat} {v : Account} {a : Answer} (run : exec c s = request kind tag p serve s)
    (ready : s.ready { kind := kind, tag := tag, payload := p }) (served : serve p s.taken = (s.taken.setAcct n v, a)) :
    ∃ t : State, exec c s = .next t ∧ t = (s.withAct { s.act with accounts := t.act.accounts }).withLnk t.lnk ∧
      t.lnk = s.lnk.answered { kind := kind, tag := tag, payload := p } a ∧
      ∀ k, t.acct k = if k = n then v else s.acct k :=
  ⟨_, exec_of_served run ready served, rfl, answered_lnk rfl _ _, fun k => s.taken.acct_setAcct n k v⟩

/-- One check of a service: where it is the first to fail its status is the answer, and where it passes the service goes on. -/
theorem refuses_of_firstFailing_cons {P : Prop} [Decidable P] {b : Bool} {x y : Status} {rest : List (Bool × Status)} {s : State}
    {next : State × Answer} (h : firstFailing ((b, y) :: rest) = some x) (check : b = true ↔ P)
    (goes_on : firstFailing rest = some x → next = refuse s x) : (if P then refuse s y else next) = refuse s x := by
  simp only [firstFailing_cons, check] at h
  split at h
  · cases h; rw [if_pos ‹_›]
  · rw [if_neg ‹_›]; exact goes_on h

/-! ### The fields of a payload behind its number -/

theorem get1_num2_num1 (n : Nat) {k : Nat} (h : k < 256) : get1 (num2 n ++ num1 k) 2 = k :=
  (get1_append (num2 n) (num1 k) 0).trans (get1_num1_self h)

theorem get4_num2_num4 (n : Nat) {k : Nat} (h : k < 4294967296) : get4 (num2 n ++ num4 k) 2 = k :=
  (get4_append (num2 n) (num4 k) 0).trans (by simpa using get4_num4 h [])

theorem getInt_num2_int4 (n : Nat) {i : Int} (lo : -2147483648 ≤ i) (hi : i ≤ 2147483647) :
    getInt (num2 n ++ int4 i) 2 = i :=
  (getInt_append (num2 n) (int4 i) 0).trans (by simpa using getInt_int4 lo hi [])

/-! ### Balances (R20, R24) -/

theorem balanceInRange_iff (b : Int) : balanceInRange b = true ↔ -8388608 ≤ b ∧ b ≤ 8388607 := by
  simp [balanceInRange, Config.balanceMin, Config.balanceMax]

theorem clampBalance_eq (b : Int) : clampBalance b = if 8388607 < b then 8388607 else if b < -8388608 then -8388608 else b := by
  unfold clampBalance Config.balanceMin Config.balanceMax; split_ifs <;> omega

theorem not_balanceInRange_eq (b : Int) : (!balanceInRange b) = (decide (8388607 < b) || decide (b < -8388608)) := by
  rw [Bool.eq_iff_iff]
  simp only [Bool.not_eq_true', ← Bool.not_eq_true, balanceInRange_iff, Bool.or_eq_true, decide_eq_true_eq]
  omega

/-- Check 3 of OPEN ACCOUNT: the class, then the balance (R23). -/
theorem openAccount_range_iff (cls : Nat) (b : Int) :
    (decide (8 ≤ cls) || decide (b < -8388608) || decide (8388607 < b)) = true ↔ 8 ≤ cls ∨ balanceInRange b = false := by
  rw [← Bool.not_eq_true, balanceInRange_iff]
  simp only [Bool.or_eq_true, decide_eq_true_eq]
  omega

/-! ### Accepted requests -/

theorem serveOpenAccount_accepts {n tariff credit : Nat} {balance : Int} {s : State} (hn : n < 2048) (ht : tariff < 8)
    (lo : -8388608 ≤ balance) (hi : balance ≤ 8388607) (hc : credit < 4294967296) (closed : (s.acct n).state = .closed) :
    serveOpenAccount (Payload.openAccount n tariff balance credit) s =
      (s.setAcct n { s.acct n with
          state := .opened, tariff := tariff, balance := balance, credit := min credit 8388607, settled := 0, charged := 0 },
        { status := .ok, clamped := 8388607 < credit, saturated := false,
          data := int4 (balance + (min credit 8388607 : Nat) - ((s.acct n).reserved : Nat)) }) := by
  obtain ⟨number, cls, start, limit⟩ := Payload.fields_openAccount n tariff credit balance (by omega) (by omega) (by omega)
    (by omega) hc
  have inRange : balanceInRange balance = true := (balanceInRange_iff _).2 ⟨lo, hi⟩
  have length : (Payload.openAccount n tariff balance credit).length = 11 := rfl
  simp only [serveOpenAccount, length, number, cls, start, limit, inRange, closed, ne_eq, not_true_eq_false, if_false,
    Nat.not_le.2 hn, Nat.not_le.2 ht, Bool.true_eq_false, or_self]
  rfl

theorem serveAdjustAccount_accepts {n : Nat} {amount : Int} {s : State} (hn : n < 2048) (lo : -2147483648 ≤ amount)
    (hi : amount ≤ 2147483647) (used : (s.acct n).state ≠ .closed) :
    serveAdjustAccount (num2 n ++ int4 amount) s =
      (s.setAcct n { s.acct n with balance := clampBalance ((s.acct n).balance + amount) },
        { status := .ok, clamped := false, saturated := !balanceInRange ((s.acct n).balance + amount),
          data := int4 (clampBalance ((s.acct n).balance + amount)) ++
            int4 (clampBalance ((s.acct n).balance + amount) + (s.acct n).credit - (s.acct n).reserved) }) := by
  have number : get2 (num2 n ++ int4 amount) 0 = n := get2_num2 (by omega) _
  have length : (num2 n ++ int4 amount).length = 6 := rfl
  simp only [serveAdjustAccount, length, number, getInt_num2_int4 n lo hi, ne_eq, not_true_eq_false, if_false,
    Nat.not_le.2 hn, used]
  rfl

theorem serveSetCredit_accepts {n credit : Nat} {s : State} (hn : n < 2048) (hc : credit < 4294967296)
    (used : (s.acct n).state ≠ .closed) :
    serveSetCredit (num2 n ++ num4 credit) s =
      (s.setAcct n { s.acct n with credit := min credit 8388607 },
        { status := .ok, clamped := 8388607 < credit, saturated := false,
          data := int4 ((s.acct n).balance + (min credit 8388607 : Nat) - ((s.acct n).reserved : Nat)) }) := by
  have number : get2 (num2 n ++ num4 credit) 0 = n := get2_num2 (by omega) _
  have length : (num2 n ++ num4 credit).length = 6 := rfl
  simp only [serveSetCredit, length, number, get4_num2_num4 n hc, ne_eq, not_true_eq_false, if_false, Nat.not_le.2 hn, used]
  rfl

theorem serveSetTariffClass_accepts {n tariff : Nat} {s : State} (hn : n < 2048) (ht : tariff < 8)
    (used : (s.acct n).state ≠ .closed) :
    serveSetTariffClass (num2 n ++ num1 tariff) s = (s.setAcct n { s.acct n with tariff := tariff }, .accept []) := by
  have number : get2 (num2 n ++ num1 tariff) 0 = n := get2_num2 (by omega) _
  have cls : get1 (num2 n ++ num1 tariff) 2 = tariff := get1_num2_num1 n (by omega)
  have length : (num2 n ++ num1 tariff).length = 3 := rfl
  simp only [serveSetTariffClass, length, number, cls, ne_eq, not_true_eq_false, if_false, Nat.not_le.2 hn,
    Nat.not_le.2 ht, used]

/-- Settles O15: each accepted request writes one account record, and each refused one fails the check named. -/
theorem accountRequestsWriteTheirFields : Obligations.AccountRequestsWriteTheirFields := by
  unfold Obligations.AccountRequestsWriteTheirFields
  refine ⟨?opens, ?adjusts, fun s tag n hn used => ⟨?credit, ?cls⟩, fun s tag p x => ⟨?_, ?_, ?_, ?_⟩⟩
  case opens =>
    intro s tag n tariff credit balance hn ht lo hi hc closed ready
    exact exec_writes_account (serve := serveOpenAccount) rfl ready
      (serveOpenAccount_accepts (s := s.taken) hn ht lo hi hc closed)
  case adjusts =>
    rintro s tag n amount sum balance hn lo hi used rfl saturates ready
    have served := serveAdjustAccount_accepts (s := s.taken) hn lo hi used
    rw [State.acct_taken, clampBalance_eq, not_balanceInRange_eq, ← saturates] at served
    exact exec_writes_account (serve := serveAdjustAccount) rfl ready served
  case credit =>
    intro credit hc ready
    exact exec_writes_account (serve := serveSetCredit) rfl ready (serveSetCredit_accepts (s := s.taken) hn hc used)
  case cls =>
    intro tariff ht ready
    exact exec_writes_account (serve := serveSetTariffClass) rfl ready
      (serveSetTariffClass_accepts (s := s.taken) hn ht used)
  · refine fun ready h => refuses_of_served (serve := serveOpenAccount) rfl ready ?_
    exact refuses_of_firstFailing_cons h decide_eq_true_iff fun h =>
      refuses_of_firstFailing_cons h decide_eq_true_iff fun h =>
        refuses_of_firstFailing_cons h (openAccount_range_iff ..) fun h =>
          refuses_of_firstFailing_cons h decide_eq_true_iff nofun
  · refine fun ready h => refuses_of_served (serve := serveAdjustAccount) rfl ready ?_
    exact refuses_of_firstFailing_cons h decide_eq_true_iff fun h =>
      refuses_of_firstFailing_cons h decide_eq_true_iff fun h => refuses_of_firstFailing_cons h decide_eq_true_iff nofun
  · refine fun ready h => refuses_of_served (serve := serveSetCredit) rfl ready ?_
    exact refuses_of_firstFailing_cons h decide_eq_true_iff fun h =>
      refuses_of_firstFailing_cons h decide_eq_true_iff fun h => refuses_of_firstFailing_cons h decide_eq_true_iff nofun
  · refine fun ready h => refuses_of_served (serve := serveSetTariffClass) rfl ready ?_
    exact refuses_of_firstFailing_cons h decide_eq_true_iff fun h =>
      refuses_of_firstFailing_cons h decide_eq_true_iff fun h =>
        refuses_of_firstFailing_cons h decide_eq_true_iff fun h => refuses_of_firstFailing_cons h decide_eq_true_iff nofun

/-! ### LOCK and UNLOCK (R27) -/

/-- The last check of LOCK and of UNLOCK, and the one field that each writes. -/
theorem serveLock_eq {p : List Byte} (s : State) (length : p.length = 2) (number : get2 p 0 < 2048) :
    serveLock p s =
      if (s.acct (get2 p 0)).state = .opened then
        (s.setAcct (get2 p 0) { s.acct (get2 p 0) with state := .locked }, .accept [])
      else refuse s .wrongState := by
  rw [serveLock, if_neg (not_not.2 length), if_neg (Nat.not_le.2 number)]

theorem serveUnlock_eq {p : List Byte} (s : State) (length : p.length = 2) (number : get2 p 0 < 2048) :
    serveUnlock p s =
      if (s.acct (get2 p 0)).state = .locked then
        (s.setAcct (get2 p 0) { s.acct (get2 p 0) with state := .opened }, .accept [])
      else refuse s .wrongState := by
  rw [serveUnlock, if_neg (not_not.2 length), if_neg (Nat.not_le.2 number)]

/-- Settles O16: each request goes through its checks in order, and the move writes one field of one account. -/
theorem lockAndUnlockMoveState : Obligations.LockAndUnlockMoveState := by
  unfold Obligations.LockAndUnlockMoveState
  refine fun s tag p => ⟨fun ready => ⟨fun length => ?_, fun length beyond => ?_, fun length number state => ?_,
    fun length number state => ?_⟩, fun ready => ⟨fun length => ?_, fun length beyond => ?_, fun length number state => ?_,
    fun length number state => ?_⟩⟩
  · exact refuses_of_served (serve := serveLock) rfl ready (if_pos length)
  · exact refuses_of_served (serve := serveLock) rfl ready ((if_neg (not_not.2 length)).trans (if_pos beyond))
  · exact refuses_of_served (serve := serveLock) rfl ready ((serveLock_eq _ length number).trans (if_neg state))
  · obtain ⟨t, run, frame, link, accounts⟩ := exec_writes_account (c := .lock tag p) (serve := serveLock) rfl ready
      ((serveLock_eq _ length number).trans (if_pos state))
    refine ⟨t, run, frame, link, fun k => ?_⟩
    rw [accounts]; split <;> simp [*]
  · exact refuses_of_served (serve := serveUnlock) rfl ready (if_pos length)
  · exact refuses_of_served (serve := serveUnlock) rfl ready ((if_neg (not_not.2 length)).trans (if_pos beyond))
  · exact refuses_of_served (serve := serveUnlock) rfl ready ((serveUnlock_eq _ length number).trans (if_neg state))
  · obtain ⟨t, run, frame, link, accounts⟩ := exec_writes_account (c := .unlock tag p) (serve := serveUnlock) rfl ready
      ((serveUnlock_eq _ length number).trans (if_pos state))
    refine ⟨t, run, frame, link, fun k => ?_⟩
    rw [accounts]; split <;> simp [*]

/-! ### CLOSE (R28) -/

theorem serveClose_eq {n : Nat} (s : State) (hn : n < 2048) (used : (s.acct n).state ≠ .closed) :
    serveClose (num2 n) s =
      if 0 < (s.acct n).links ∨ 0 < (s.acct n).reserved then refuse s .busy
      else (s.setAcct n .closed, .accept (int4 (s.acct n).balance ++ num4 (s.acct n).credit ++ num4 (s.acct n).settled ++
        num4 (s.acct n).charged)) := by
  have number : get2 (num2 n) 0 = n := get2_num2_self (by omega)
  simp only [serveClose, length_num2, number, ne_eq, not_true_eq_false, if_false, Nat.not_le.2 hn, used]

/-- Settles O17: a linked or held account is refused, and any other in use is reported and closed. -/
theorem closeReportsAndClears : Obligations.CloseReportsAndClears := by
  unfold Obligations.CloseReportsAndClears
  refine ⟨fun s tag n hn used ready => ⟨fun busy => ?_, fun links reserved => ?_⟩, fun s tag p x ready h =>
    refuses_of_served (serve := serveClose) rfl ready ?_⟩
  · exact refuses_of_served (serve := serveClose) rfl ready ((serveClose_eq s.taken hn used).trans (if_pos busy))
  · have idle : ¬(0 < (s.acct n).links ∨ 0 < (s.acct n).reserved) := by omega
    exact exec_writes_account (serve := serveClose) rfl ready ((serveClose_eq s.taken hn used).trans (if_neg idle))
  · have busy_iff (a : Account) :
        (decide (0 < a.links) || decide (0 < a.reserved)) = true ↔ 0 < a.links ∨ 0 < a.reserved := by
      simp only [Bool.or_eq_true, decide_eq_true_eq]
    exact refuses_of_firstFailing_cons h decide_eq_true_iff fun h =>
      refuses_of_firstFailing_cons h decide_eq_true_iff fun h =>
        refuses_of_firstFailing_cons h decide_eq_true_iff fun h => refuses_of_firstFailing_cons h (busy_iff _) nofun

/-! ### LOAD TARIFF (R32) -/

/-- The two range checks of LOAD TARIFF on a payload made from its fields. -/
theorem serveLoadTariff_eq {k : Nat} {e : Tariff} (s : State) (hk : k < 256) (carried : tariffOf (num1 k ++ e.bytes) = e) :
    serveLoadTariff (num1 k ++ e.bytes) s =
      if 8 ≤ k ∨ ¬e.inRange = true then refuse s .outOfRange else (s.setTariff k e, .accept []) := by
  have length : (num1 k ++ e.bytes).length = 15 := rfl
  simp only [serveLoadTariff, length, Payload.class_tariff hk, carried, ne_eq, not_true_eq_false, if_false, Bool.not_eq_true,
    ite_or]

/-- Settles O18: an entry in range replaces the stored one as a whole, and any other is refused. -/
theorem loadTariffReplacesWholeEntry : Obligations.LoadTariffReplacesWholeEntry := by
  unfold Obligations.LoadTariffReplacesWholeEntry
  refine ⟨fun s tag k e hk hb hw h1 h2 h3 h4 hu hl hm he ready => ?_, fun s tag p ready length =>
    refuses_of_served (serve := serveLoadTariff) rfl ready (if_pos length)⟩
  have served := serveLoadTariff_eq s.taken hk (Payload.tariffOf_bytes k e hb hw h1 h2 h3 h4 hu hl hm he)
  rw [← e.inRange_iff]
  refine ⟨fun outside => ?_, fun cls range => ?_⟩
  · exact refuses_of_served (serve := serveLoadTariff) rfl ready (served.trans (if_pos outside))
  · have inside : ¬(8 ≤ k ∨ ¬e.inRange = true) := by simp [cls, range]
    exact ⟨_, exec_of_served (serve := serveLoadTariff) rfl ready (served.trans (if_neg inside)), rfl, answered_lnk rfl _ _,
      fun j => s.taken.tariff_setTariff k j e⟩

/-! ### SET PRIORITY PROFILE (R35) -/

/-- A clamped field, by where the field falls. -/
theorem clampField_eq {top : Nat} (h : 1 ≤ top) (n : Nat) :
    (if n = 0 then 1 else if top < n then top else n) = max 1 (min n top) := by
  split_ifs <;> omega

/-- No one-byte field is above the greatest lifetime. -/
theorem clampByte_eq {n : Nat} (h : n < 256) : (if n = 0 then 1 else n) = max 1 (min n 255) := by
  split_ifs <;> omega

theorem Profile.eq_clamp {f g : Profile} (top : f.lifetime < 256)
    (allowance : g.allowance = (if f.allowance = 0 then 1 else if 15 < f.allowance then 15 else f.allowance))
    (repeats : g.repeats = (if f.repeats = 0 then 1 else if 4 < f.repeats then 4 else f.repeats))
    (base : g.base = (if f.base = 0 then 1 else if 64 < f.base then 64 else f.base))
    (lifetime : g.lifetime = (if f.lifetime = 0 then 1 else f.lifetime)) : g = f.clamp := by
  rw [clampField_eq (by decide)] at allowance repeats base
  rw [clampByte_eq top] at lifetime
  rcases g with ⟨⟩
  simp only at allowance repeats base lifetime
  rw [clamp, allowance, repeats, base, lifetime]

theorem serveSetPriorityProfile_accepts {pr : Priority} {f : Profile} (s : State)
    (carried : profileOf (num1 pr.code ++ f.bytes) = f) :
    serveSetPriorityProfile (num1 pr.code ++ f.bytes) s =
      (s.setProfile pr f.clamp, { status := .ok, clamped := f.clamp ≠ f, saturated := false, data := f.clamp.bytes }) := by
  have length : (num1 pr.code ++ f.bytes).length = 5 := rfl
  have named : Priority.ofCode (get1 (num1 pr.code ++ f.bytes) 0) = some pr := by
    rw [get1_num1 pr.code_lt, Priority.ofCode_code]
  simp only [serveSetPriorityProfile, length, named, carried, ne_eq, not_true_eq_false, if_false]

/-- Settles O19: the four clamped fields replace those of the priority named, and no other profile. -/
theorem setProfileClampsEachField : Obligations.SetProfileClampsEachField := by
  unfold Obligations.SetProfileClampsEachField
  refine fun s tag p ready => ⟨fun length => ?malformed, fun length unnamed => ?unnamed, ?stores⟩
  case malformed => exact refuses_of_served (serve := serveSetPriorityProfile) rfl ready (if_pos length)
  case unnamed =>
    refine refuses_of_served (serve := serveSetPriorityProfile) rfl ready ((if_neg (not_not.2 length)).trans ?_)
    rw [Priority.ofCode_none unnamed]
  case stores =>
    rintro pr f rfl ha hr hb hl g allowance repeats base lifetime
    obtain rfl := Profile.eq_clamp hl allowance repeats base lifetime
    refine ⟨_, exec_of_served (serve := serveSetPriorityProfile) rfl ready
      (serveSetPriorityProfile_accepts s.taken (Payload.profileOf_bytes pr.code f ha hr hb hl)), ?_, ?_, ?_, ?_, fun q => ?_⟩
    · cases pr <;> rfl
    · cases pr <;> rfl
    · cases pr <;> rfl
    · exact answered_lnk (State.setProfile_lnk ..) _ _
    · cases pr <;> cases q <;> rfl

end Sys2Proof.Machine
end

section
/-! PROOFS. An ending and its settlement as one step: what each block holds after it, and the notices (R41, R85, R164 to R171). -/

namespace Sys2Proof.Machine

namespace State

variable (s : State) (n : Nat) (d : Delivery) (e : Ending) (r : Reason)

/-! ### An ending, table by table -/

@[simp] theorem endDelivery_pending : (s.endDelivery n d e r).pending = s.pending := by simp [endDelivery]

theorem endDelivery_act : (s.endDelivery n d e r).act =
    (s.setAcct d.account ((s.acct d.account).settle (s.usageOf n d e r).charge d.hold)).act := by
  rw [endDelivery, settle_act, usageOf_unfile]; simp [setAcct, acct]

@[simp] theorem endDelivery_profile (p : Priority) : (s.endDelivery n d e r).profile p = s.profile p := by
  rw [endDelivery, settle_profile]; cases p <;> simp [profile]

theorem endDelivery_acct (k : Nat) : (s.endDelivery n d e r).acct k =
    if k = d.account then (s.acct k).settle (s.usageOf n d e r).charge d.hold else s.acct k := by
  rw [endDelivery, settle_acct, usageOf_unfile]; simp [acct]

/-- The release of a body reads and writes the text store alone (R66). -/
theorem releaseBody_of_txt {s t : State} (h : t.txt = s.txt) (n m : Nat) :
    (t.releaseBody n).body m = (s.releaseBody n).body m ∧ (t.releaseBody n).block m = (s.releaseBody n).block m := by
  have bodies (k : Nat) : t.body k = s.body k := by rw [body, h]; rfl
  have pool (k : Nat) : t.block k = s.block k := by rw [block, h]; rfl
  simp only [body_releaseBody, block_releaseBody, bodies, pool, and_self]

theorem endDelivery_body (b : Nat) : (s.endDelivery n d e r).body b = (s.releaseBody d.body).body b :=
  (settle_body ..).trans (releaseBody_of_txt (s.unfile_txt n) d.body b).1

/-- Of a settlement only the release of the body reaches the block pool (R66). -/
theorem settle_block (b : Nat) : (s.settle n d e r).block b = (s.releaseBody d.body).block b := by
  rw [settle, block_freeRecord]
  exact (releaseBody_of_txt (by simp) d.body b).2

theorem endDelivery_block (b : Nat) : (s.endDelivery n d e r).block b = (s.releaseBody d.body).block b :=
  (settle_block ..).trans (releaseBody_of_txt (s.unfile_txt n) d.body b).2

@[simp] theorem endDelivery_sequence : (s.endDelivery n d e r).dlv.sequence = s.dlv.sequence := by
  rw [endDelivery, settle_records, sequence_freeRecord, unfile_sequence]

theorem endDelivery_calList (k : Nat) : (s.endDelivery n d e r).calList k = (s.unfile n).calList k := by
  rw [endDelivery, calList, settle_records]; rfl

/-- The link after an ending: a JOURNAL NOTICE at the watermark, then a DELIVERY NOTICE where one is due (R167, R171). -/
theorem endDelivery_lnk : (s.endDelivery n d e r).lnk =
    let u := s.usageOf n d e r
    let l := if s.jnl.records.length + 1 = s.jnl.watermark then
      s.lnk.notice 0x84 ((s.jnl.append u).noticeFields u) else s.lnk
    if noticeDue d.noticeMode e then l.notice 0x81 (deliveryNoticeFields u) else l := by
  rw [endDelivery, settle_lnk, usageOf_unfile, unfile_jnl, unfile_lnk]

end State

/-- A JOURNAL NOTICE tells the occupancy and the reservation count after the append (R169, R171). -/
theorem Journal.noticeFields_append (j : Journal) (u : UsageRecord) :
    (j.append u).noticeFields u =
      num2 (j.records.length + 1) ++ num2 (j.reservation - 1) ++ num2 j.watermark ++ ser4 u.sequence := by
  simp [noticeFields, append]

theorem noticeDue_iff (m : NoticeMode) (e : Ending) :
    noticeDue m e = true ↔ m = .final ∨ m = .everyAttempt ∨ e = .expired := by
  simp [noticeDue, or_assoc]

/-- Settles O50: the usage record is the one named, and each table of the ending state is read off its own step of the
settlement. -/
theorem settlementIsOneStep : Obligations.SettlementIsOneStep := by
  unfold Obligations.SettlementIsOneStep
  intro s t n d e r span c u l hspan hc hu hl ht
  have spans : d.chargeSpan e = span := by
    cases e with
    | delivered | sent => refine Eq.trans ?_ hspan.symm; unfold Delivery.chargeSpan; cases d.last <;> rfl
    | expired | cancelled => exact hspan.symm
  have usage : s.usageOf n d e r = u := by rw [hu, hc, ← spans]; rfl
  have free : t.live n = none := by rw [ht, State.endDelivery_live, if_pos rfl]
  subst ht
  refine ⟨free, State.fields_of_free _ free, ?issue, fun m other => ?others, ?sequence, ?journal, fun k => ?accounts, fun m => ?subs,
    fun last => ⟨?freed, fun b => ?pool⟩, fun shared => ⟨?lowered, fun b => ?kept⟩, fun b other => ?bodies, fun k => ?calendar,
    s.endDelivery_profile n d e r, s.endDelivery_map n d e r, ?tariffs, s.endDelivery_clk n d e r, s.endDelivery_zon n d e r,
    s.endDelivery_bld n d e r, s.endDelivery_rcp n d e r, s.endDelivery_pending n d e r, ?link⟩
  case issue => rw [State.endDelivery_record, if_pos rfl]
  case others => rw [State.endDelivery_record, if_neg other]
  case sequence => exact s.endDelivery_sequence n d e r
  case journal => rw [State.endDelivery_jnl, usage]; rfl
  case accounts => rw [State.endDelivery_acct, usage]; rfl
  case subs => exact s.endDelivery_sub n d e r m
  case freed => rw [State.endDelivery_body, State.body_releaseBody, if_pos rfl, if_pos last]
  case pool => rw [State.endDelivery_block, State.block_releaseBody]; simp only [last, true_and]
  case lowered => rw [State.endDelivery_body, State.body_releaseBody, if_pos rfl, if_neg (by omega)]
  case kept => rw [State.endDelivery_block, State.block_releaseBody, if_neg (by omega)]
  case bodies => rw [State.endDelivery_body, State.body_releaseBody, if_neg other]
  case calendar =>
    rw [State.endDelivery_calList, State.calList_unfile]
    cases s.live n with
    | none => simp only [reduceCtorEq, false_and, exists_false, if_false]
    | some f => simp only [Option.some.injEq, exists_eq_left', eq_comm (a := frameNumber f.due)]
  case tariffs => rw [State.endDelivery_act]; rfl
  case link =>
    have sequence : u.sequence = s.jnl.sequence := by rw [hu]
    rw [State.endDelivery_lnk, usage, hl]
    simp only [noticeDue_iff, Journal.noticeFields_append, sequence]

end Sys2Proof.Machine
end

section
/-! PROOFS. The text store: the blocks that a new body takes, what it reads back as, and the words that a text packs into
(R46, R64, R65). -/

namespace Sys2Proof.Machine

/-! ### The lowest free numbers -/

/-- The lowest free numbers are the first of the free ones. -/
theorem lowestFrees_eq (used : Nat → Bool) (fuel n count : Nat) :
    lowestFrees used fuel n count = ((List.range' n fuel).filter (fun k => !used k)).take count := by
  induction fuel generalizing n count with
  | zero => simp [lowestFrees]
  | succ f ih =>
    cases count with
    | zero => simp [lowestFrees]
    | succ c => cases h : used n <;> simp [lowestFrees, List.range'_succ, h, ih]

/-- What stands before a chosen entry of a rising list is chosen too. -/
theorem mem_take_of_lt {l : List Nat} (rising : l.Pairwise (· < ·)) {k c e : Nat} (hc : c ∈ l.take k) (he : e ∈ l)
    (h : e < c) : e ∈ l.take k := by
  rw [← List.take_append_drop k l] at rising he
  refine (List.mem_append.1 he).resolve_right fun later => ?_
  have := (List.pairwise_append.1 rising).2.2 c hc e later
  omega

/-- In any table, canonical or not, at most as many numbers hold an entry of a kind as entries of it are listed. -/
theorem Table.count_le_numbers {α : Type} {dflt : α} (t : Table α) {p : α → Bool} (hp : p dflt = false) {l : List Nat}
    (nodup : l.Nodup) : (l.filter (fun n => p (t.read dflt n))).length ≤ (t.numbers p).length := by
  refine ((nodup.filter _).subperm fun n hn => ?_).length_le
  have holds : p (t.read dflt n) = true := (List.mem_filter.1 hn).2
  have listed : t.read dflt n ≠ dflt := fun e => by rw [e, hp] at holds; cases holds
  exact List.mem_map.2 ⟨_, List.mem_filter.2 ⟨Table.mem_of_read listed, holds⟩, rfl⟩

namespace State

variable (s : State)

/-! ### The blocks of a new body (R64) -/

theorem free_of_mem_freeBlocks {count b : Nat} (h : b ∈ s.freeBlocks count) : b < 8192 ∧ s.block b = none := by
  rw [freeBlocks, lowestFrees_eq] at h
  simpa using List.mem_filter.1 (List.mem_of_mem_take h)

theorem freeBlocks_pairwise (count : Nat) : (s.freeBlocks count).Pairwise (· < ·) := by
  rw [freeBlocks, lowestFrees_eq]
  exact ((List.pairwise_lt_range' ..).filter _).sublist (List.take_sublist ..)

/-- No free block below one that is taken is passed over. -/
theorem mem_freeBlocks_of_lt {count c e : Nat} (hc : c ∈ s.freeBlocks count) (h : e < c) (free : s.block e = none) :
    e ∈ s.freeBlocks count := by
  have below : c < 8192 := (s.free_of_mem_freeBlocks hc).1
  rw [freeBlocks, lowestFrees_eq] at hc ⊢
  refine mem_take_of_lt ((List.pairwise_lt_range' ..).filter _) hc (List.mem_filter.2 ⟨?_, by simp [free]⟩) h
  exact List.mem_range'_1.2 (by dsimp only [Config.blocks]; omega)

theorem length_freeBlocks {count : Nat} (room : count ≤ 8192 - s.blocksInUse) : (s.freeBlocks count).length = count := by
  have inUse : ((List.range' 0 8192).filter (fun n => (s.block n).isSome)).length ≤ s.blocksInUse :=
    Table.count_le_numbers s.txt.blocks (p := Option.isSome) rfl (List.nodup_range' ..)
  have all := (List.range' 0 8192).length_eq_length_filter_add (fun n => (s.block n).isSome)
  rw [List.length_range'] at all
  rw [freeBlocks, lowestFrees_eq, List.length_take]
  exact Nat.min_eq_left (by dsimp only [Config.blocks]; omega)

/-! ### A new body (R64) -/

theorem block_createBody_other {n b : Nat} {e : Encoding} {text : List Byte}
    (h : b ∉ s.freeBlocks (blocksOf text.length)) : (s.createBody n e text).block b = s.block b := by
  rw [createBody, block_writeBlocks_other, block_setBody]
  intro written
  obtain ⟨⟨c, chars⟩, pair, rfl⟩ := List.mem_map.1 written
  exact h (List.of_mem_zip pair).1

/-- A new body writes no block in use. -/
theorem block_createBody_used {n b : Nat} {e : Encoding} {text : List Byte} (used : (s.block b).isSome = true) :
    (s.createBody n e text).block b = s.block b := by
  refine s.block_createBody_other fun taken => ?_
  rw [(s.free_of_mem_freeBlocks taken).2] at used
  cases used

/-- What is written into different blocks reads back from them in order. -/
theorem map_block_writeBlocks {blocks : List Nat} {cuts : List (List Byte)} (nodup : blocks.Nodup)
    (lengths : blocks.length = cuts.length) :
    blocks.map (fun b => ((writeBlocks s (blocks.zip cuts)).block b).getD []) = cuts := by
  induction blocks generalizing s cuts with
  | nil => exact (List.length_eq_zero_iff.1 lengths.symm).symm
  | cons b blocks ih =>
    cases cuts with
    | nil => cases lengths
    | cons chars cuts =>
      obtain ⟨new, nodup⟩ := List.nodup_cons.1 nodup
      have lengths : blocks.length = cuts.length := Nat.succ.inj lengths
      have kept : b ∉ (blocks.zip cuts).map (·.1) := by rwa [List.map_fst_zip lengths.le]
      rw [List.zip_cons_cons, writeBlocks, List.map_cons, block_writeBlocks_other _ _ _ kept, block_setBlock_same,
        ih _ nodup lengths, Option.getD_some]

theorem bodyText_createBody {n : Nat} {e : Encoding} {text : List Byte}
    (room : blocksOf text.length ≤ 8192 - s.blocksInUse) : (s.createBody n e text).bodyText n = text := by
  have lengths : (s.freeBlocks (blocksOf text.length)).length = (cutBlocks (blocksOf text.length) text).length := by
    rw [s.length_freeBlocks room, length_cutBlocks]
  rw [bodyText, body_createBody, if_pos rfl]
  refine (congrArg List.flatten (map_block_writeBlocks _ ?_ lengths)).trans ?_
  · exact (s.freeBlocks_pairwise _).imp Nat.ne_of_lt
  · exact flatten_cutBlocks _ _ (by unfold blocksOf; omega)

end State

/-! ### Words (R65) -/

/-- Numeric words: four symbols each, the pad symbol where the text has ended. -/
theorem getElem?_numericWords (k : Nat) (text : List Byte) (h : k < (text.length + 3) / 4) :
    (numericWords text)[k]? = some (BitVec.ofNat 16
      ((text[4 * k]?.map symbolOf).getD 0xF * 4096 + (text[4 * k + 1]?.map symbolOf).getD 0xF * 256 +
        (text[4 * k + 2]?.map symbolOf).getD 0xF * 16 + (text[4 * k + 3]?.map symbolOf).getD 0xF)) := by
  induction text using numericWords.induct generalizing k with
  | case1 => simp at h
  | case2 a | case3 a b | case4 a b c =>
    obtain rfl : k = 0 := by simp at h; omega
    simp [numericWords]
  | case5 a b c d rest ih =>
    cases k with
    | zero => simp [numericWords]
    | succ k =>
      have skip (i : Nat) : (a :: b :: c :: d :: rest)[4 * (k + 1) + i]? = rest[4 * k + i]? := by
        rw [show 4 * (k + 1) + i = 4 * k + i + 1 + 1 + 1 + 1 by omega]; rfl
      rw [numericWords, List.getElem?_cons_succ, ih k (by simp at h; omega), skip 1, skip 2, skip 3,
        show (a :: b :: c :: d :: rest)[4 * (k + 1)]? = rest[4 * k]? from skip 0]

theorem getElem?_alphaWords (k : Nat) (text : List Byte) (h : k < (text.length + 1) / 2) :
    (alphaWords text)[k]? = some (BitVec.ofNat 16
      ((text[2 * k]?.map BitVec.toNat).getD 0 * 256 + (text[2 * k + 1]?.map BitVec.toNat).getD 0)) := by
  induction text using alphaWords.induct generalizing k with
  | case1 => simp at h
  | case2 a =>
    obtain rfl : k = 0 := by simp at h; omega
    simp [alphaWords]
  | case3 a b rest ih =>
    cases k with
    | zero => simp [alphaWords]
    | succ k =>
      have skip (i : Nat) : (a :: b :: rest)[2 * (k + 1) + i]? = rest[2 * k + i]? := by
        rw [show 2 * (k + 1) + i = 2 * k + i + 1 + 1 by omega]; rfl
      rw [alphaWords, List.getElem?_cons_succ, ih k (by simp at h; omega), skip 1,
        show (a :: b :: rest)[2 * (k + 1)]? = rest[2 * k]? from skip 0]

/-- Settles O27: the lowest free blocks are free and distinct, so each cut of the text stays where it was written; the words of
a text are read off the recursion that packs them. -/
theorem textIsStoredAndPacked : Obligations.TextIsStoredAndPacked := by
  unfold Obligations.TextIsStoredAndPacked
  refine ⟨fun s n e text room => ?_, fun text => ⟨rfl, length_numericWords text, length_alphaWords text,
    fun k hk => getElem?_numericWords k text hk, fun k hk => getElem?_alphaWords k text hk⟩⟩
  have body := (s.body_createBody n n e text).trans (if_pos rfl)
  rw [body]
  exact ⟨s.bodyText_createBody room, s.length_freeBlocks room, s.freeBlocks_pairwise _,
    fun b hb => s.free_of_mem_freeBlocks hb, fun b used => s.block_createBody_used used⟩

end Sys2Proof.Machine
end

section
/-! PROOFS. The checks of a submission: what makes a payload malformed, and the order of checks 2 to 11 (R44, R45, R60). -/

namespace Sys2Proof.Machine

/-! ### Malformed payloads (R44, R60) -/

theorem Encoding.ofCode_eq_none_iff (n : Nat) : Encoding.ofCode n = none ↔ 3 ≤ n := by
  unfold Encoding.ofCode; split <;> simp_all; omega

theorem NoticeMode.ofCode_eq_none_iff (n : Nat) : NoticeMode.ofCode n = Option.none ↔ 3 ≤ n := by
  unfold NoticeMode.ofCode; split <;> simp_all; omega

/-- The coded fields of a submission are refused exactly where one of the three codes is undefined. -/
theorem submissionOf_eq_none_iff (p : List Byte) (i : Nat) (text : List Byte) :
    submissionOf p i text = none ↔ 3 ≤ get1 p i ∨ 3 ≤ get1 p (i + 1) ∨ 3 ≤ get1 p (i + 2) := by
  rw [← Priority.ofCode_eq_none_iff, ← Encoding.ofCode_eq_none_iff, ← NoticeMode.ofCode_eq_none_iff, submissionOf]
  cases Priority.ofCode (get1 p i) with
  | none => simp
  | some pr =>
    cases Encoding.ofCode (get1 p (i + 1)) with
    | none => simp
    | some e => cases NoticeMode.ofCode (get1 p (i + 2)) <;> simp

theorem readPage_eq_none {p : List Byte}
    (h : p.length < 7 ∨ p.length ≠ 7 + get1 p 6 ∨ 3 ≤ get1 p 2 ∨ 3 ≤ get1 p 3 ∨ 3 ≤ get1 p 4) : readPage p = none := by
  unfold readPage
  split
  · rw [(submissionOf_eq_none_iff p 2 (p.drop 7)).2 (h.resolve_left (by omega) |>.resolve_left (by omega))]; rfl
  · rfl

theorem readGroupPage_eq_none {p : List Byte}
    (h : p.length < 6 ∨ get1 p 5 = 0 ∨ 64 < get1 p 5 ∨ p.length ≠ 6 + 2 * get1 p 5 + get1 p 4 ∨ 3 ≤ get1 p 0 ∨
      3 ≤ get1 p 1 ∨ 3 ≤ get1 p 2) : readGroupPage p = none := by
  unfold readGroupPage; dsimp only
  split
  · rw [(submissionOf_eq_none_iff p 0 (p.drop (6 + 2 * get1 p 5))).2 (by simp only [Nat.zero_add]; omega)]; rfl
  · rfl

/-! ### The service of SUBMIT PAGE (R45) -/

theorem serveSubmitPage_of_malformed {p : List Byte} (s : State) (malformed : readPage p = none) :
    serveSubmitPage p s = refuse s .badRequest := by simp only [serveSubmitPage, malformed]

theorem serveSubmitPage_of_refused {p : List Byte} {s : State} {n : Nat} {x : Submission} {status : Status}
    (carried : readPage p = some (n, x)) (checked : s.intakeCheck n x false = some status) :
    serveSubmitPage p s = refuse s status := by simp only [serveSubmitPage, carried, checked]

theorem serveSubmitPage_of_passed {p : List Byte} {s : State} {n : Nat} {x : Submission}
    (carried : readPage p = some (n, x)) (checked : s.intakeCheck n x false = none) :
    serveSubmitPage p s = ((s.accept n x none).state,
      { status := .ok, clamped := x.lifetime = 0, saturated := false, data := (s.accept n x none).bytes }) := by
  simp only [serveSubmitPage, carried, checked]

/-! ### The checks in their order (R45) -/

/-- One check of the chain: it is the first to fail, or the rest of the chain decides. -/
theorem ite_eq_firstFailing_cons {P : Prop} [Decidable P] {b : Bool} {x : Status} {rest : List (Bool × Status)}
    {next : Option Status} (check : P ↔ b = true) (goes_on : next = firstFailing rest) :
    (if P then some x else next) = firstFailing ((b, x) :: rest) := by
  simp only [firstFailing_cons, check, goes_on]

theorem lowestFree_eq_none_iff_all (used : Nat → Bool) (fuel : Nat) :
    lowestFree used fuel 0 = none ↔ (List.range fuel).all used = true := by
  rw [lowestFree_none, List.all_eq_true]
  simp

namespace State

variable (s : State)

theorem freeDelivery_eq_none_iff : s.freeDelivery = none ↔ (List.range 6144).all (fun k => (s.live k).isSome) = true :=
  lowestFree_eq_none_iff_all ..

theorem freeBody_eq_none_iff : s.freeBody = none ↔ (List.range 6144).all (fun b => (s.body b).inUse) = true :=
  lowestFree_eq_none_iff_all ..

/-- Check 10: no free body entry, or too few free blocks (R50). -/
theorem storeRoom_eq_false_iff (n : Nat) :
    s.storeRoom n = false ↔ s.freeBody = none ∨ 8192 - s.blocksInUse < (n + 31) / 32 := by
  rw [storeRoom, Bool.and_eq_false_iff, Option.isSome_eq_false_iff, Option.isNone_iff_eq_none, decide_eq_false_iff_not,
    Nat.not_le]
  rfl

/-- No check reads the link. -/
@[simp] theorem intakeCheck_taken (n : Nat) (x : Submission) (b : Bool) :
    s.taken.intakeCheck n x b = s.intakeCheck n x b := rfl

theorem intakeCheck_eq_firstFailing (n : Nat) (x : Submission) :
    s.intakeCheck n x false = firstFailing
      [ (8192 ≤ n || decide ((s.sub n).service = .unassigned), .noSuch),
        (decide ((s.sub n).service = .suspended), .suspended),
        (!(s.sub n).pager.accepts x.encoding, .wrongClass),
        (!textOk x.encoding x.text, .badText),
        (decide ((s.sub n).live = 32), .subscriberFull),
        (decide ((s.acct (s.sub n).account).state = .locked), .locked),
        (decide (s.jnl.records.length + s.jnl.reservation = 8192), .journalFull),
        ((List.range 6144).all (fun k => (s.live k).isSome), .tableFull),
        ((List.range 6144).all (fun b => (s.body b).inUse) || decide (8192 - s.blocksInUse < (x.text.length + 31) / 32),
          .storeFull),
        (decide ((s.acct (s.sub n).account).available < (s.holdFor (s.sub n) x : Int)), .credit) ] := by
  have subscriber : (8192 ≤ n ∨ (s.sub n).service = .unassigned) ↔
      (8192 ≤ n || decide ((s.sub n).service = .unassigned)) = true := by simp
  have store : (false = false ∧ s.storeRoom x.text.length = false) ↔
      ((List.range 6144).all (fun b => (s.body b).inUse) ||
        decide (8192 - s.blocksInUse < (x.text.length + 31) / 32)) = true := by
    rw [storeRoom_eq_false_iff, freeBody_eq_none_iff, Bool.or_eq_true, decide_eq_true_iff, and_iff_right rfl]
  have flag {P : Prop} [Decidable P] : P ↔ decide P = true := decide_eq_true_iff.symm
  have failed {b : Bool} : b = false ↔ (!b) = true := by simp
  exact ite_eq_firstFailing_cons subscriber <| ite_eq_firstFailing_cons flag <| ite_eq_firstFailing_cons failed <|
    ite_eq_firstFailing_cons failed <| ite_eq_firstFailing_cons flag <| ite_eq_firstFailing_cons flag <|
    ite_eq_firstFailing_cons flag <| ite_eq_firstFailing_cons s.freeDelivery_eq_none_iff <|
    ite_eq_firstFailing_cons store <| ite_eq_firstFailing_cons flag rfl

end State

/-- Settles O24: a malformed payload carries no submission, and the chain of checks is the list in its order. -/
theorem submissionsAreCheckedInOrder : Obligations.SubmissionsAreCheckedInOrder := by
  unfold Obligations.SubmissionsAreCheckedInOrder
  refine ⟨fun s tag p ready malformed => ?_, fun s tag n x st hn lifetime length ready failing => ?_⟩
  · exact refuses_of_served (serve := serveSubmitPage) rfl ready
      (serveSubmitPage_of_malformed _ (readPage_eq_none malformed))
  · have checked : s.taken.intakeCheck n x false = some st := by
      rw [s.intakeCheck_taken, s.intakeCheck_eq_firstFailing]; exact failing
    exact refuses_of_served (serve := serveSubmitPage) rfl ready
      (serveSubmitPage_of_refused (Payload.readPage_page n x hn lifetime length) checked)

end Sys2Proof.Machine
end

section
/-! PROOFS. The acceptance of a submission as one step: what each table holds after it, and the body that it takes or shares
(R52 to R57, R61, R64). -/

namespace Sys2Proof.Machine

namespace State

variable (s : State)

/-! ### Enrolment, table by table (R52) -/

theorem enroll_only (n : Nat) (d : Delivery) :
    s.enroll n d = (((s.withDir { s.dir with subs := (s.enroll n d).dir.subs }).withAct
      { s.act with accounts := (s.enroll n d).act.accounts }).withDlv (s.enroll n d).dlv).withJnl (s.enroll n d).jnl := rfl

theorem enroll_record (n : Nat) (d : Delivery) (m : Nat) :
    (s.enroll n d).record m =
      if m = n then { issue := (s.record n).issue + 1, live := some d } else s.record m := by
  rw [record, enroll_records, Table.read_put, Table.read_put]
  split <;> rfl

/-- The list of the due serial takes the delivery in, at whatever place its order gives (R74). -/
theorem enroll_calList_due (n : Nat) (d : Delivery) :
    ((s.enroll n d).calList (frameNumber d.due)).Perm (n :: s.calList (frameNumber d.due)) := by
  unfold enroll
  rw [calList_file, if_pos rfl]
  exact insertInList_perm ..

theorem enroll_calList_other (n : Nat) (d : Delivery) {j : Nat} (h : j ≠ frameNumber d.due) :
    (s.enroll n d).calList j = s.calList j := by
  unfold enroll
  rw [calList_file, if_neg h]
  rfl

/-! ### The body of a submission (R52, R61) -/

/-- Taking a body writes the text store alone. -/
theorem takeBody_only (x : Submission) (o : Option Nat) :
    (s.takeBody x o).1 = s.withTxt (s.takeBody x o).1.txt := by
  cases o with
  | none => unfold takeBody createBody; dsimp only; rw [writeBlocks_eq]; rfl
  | some b => rfl

theorem takeBody_none {x : Submission} {b : Nat} (h : s.freeBody = some b) :
    s.takeBody x none = (s.createBody b x.encoding x.text, b) := by simp [takeBody, h]

/-- Check 10, passed while no body exists: there is a free entry, and room for the text (R50). -/
theorem storeRoom_of_passed {n : Nat} {x : Submission} (h : s.intakeCheck n x false = none) :
    ∃ b, s.freeBody = some b ∧ blocksOf x.text.length ≤ 8192 - s.blocksInUse := by
  rw [intakeCheck_eq_firstFailing, firstFailing, Option.map_eq_none_iff, List.find?_eq_none] at h
  obtain ⟨-, -, -, -, -, -, -, -, store, -⟩ := by simpa only [List.forall_mem_cons] using h
  rw [Bool.or_eq_true, not_or, ← freeBody_eq_none_iff, decide_eq_true_iff, Nat.not_lt] at store
  obtain ⟨b, free⟩ := Option.ne_none_iff_exists'.1 store.1
  exact ⟨b, free, store.2⟩

/-- A text store in which body `b` is a new one that holds a text: in the lowest free blocks, every other body and block as it
was in `s` (R63, R64). -/
structure Stores (s : State) (store : TextStore) (b : Nat) (e : Encoding) (text : List Byte) : Prop where
  inUse : ((s.withTxt store).body b).inUse = true
  refs : ((s.withTxt store).body b).refs = 1
  encoding : ((s.withTxt store).body b).encoding = e
  length : ((s.withTxt store).body b).length = text.length
  others : ∀ m, m ≠ b → (s.withTxt store).body m = s.body m
  reads : (s.withTxt store).bodyText b = text
  count : ((s.withTxt store).body b).blocks.length = (text.length + 31) / 32
  rising : ((s.withTxt store).body b).blocks.Pairwise (· < ·)
  lowest : ∀ c ∈ ((s.withTxt store).body b).blocks, c < 8192 ∧ s.block c = none ∧
    ∀ e < c, s.block e = none → e ∈ ((s.withTxt store).body b).blocks
  free : ∀ c, c ∉ ((s.withTxt store).body b).blocks → (s.withTxt store).block c = s.block c
  used : ∀ c, (s.block c).isSome = true → (s.withTxt store).block c = s.block c

theorem createBody_stores (b : Nat) (e : Encoding) {text : List Byte} (room : blocksOf text.length ≤ 8192 - s.blocksInUse) :
    s.Stores (s.createBody b e text).txt b e text := by
  have body : (s.withTxt (s.createBody b e text).txt).body b = _ := (s.body_createBody b b e text).trans (if_pos rfl)
  constructor
  case others => exact fun m other => (s.body_createBody b m e text).trans (if_neg other)
  case reads => exact s.bodyText_createBody room
  case used => exact fun c used => s.block_createBody_used used
  all_goals rw [body]
  case count => exact s.length_freeBlocks room
  case rising => exact s.freeBlocks_pairwise _
  case lowest =>
    intro c taken
    obtain ⟨below, free⟩ := s.free_of_mem_freeBlocks taken
    exact ⟨below, free, fun e lower => s.mem_freeBlocks_of_lt taken lower⟩
  case free => exact fun c unwritten => s.block_createBody_other unwritten

/-! ### An acceptance (R52, R53) -/

/-- Between two states a delivery was accepted in record `r`: all that R52 changes outside the text store, which takes or
shares the body. -/
structure Accepts (s z : State) (r : Nat) (d : Delivery) : Prop where
  only : z = ((((s.withDir { s.dir with subs := z.dir.subs }).withAct { s.act with accounts := z.act.accounts }).withTxt
    z.txt).withDlv z.dlv).withJnl z.jnl
  record : ∀ m, z.record m = if m = r then { issue := (s.record r).issue + 1, live := some d } else s.record m
  sequence : z.dlv.sequence = s.dlv.sequence + 1
  filed : (z.calList (frameNumber d.due)).Perm (r :: s.calList (frameNumber d.due))
  lists : ∀ j, j ≠ frameNumber d.due → z.calList j = s.calList j
  acct : ∀ n, z.acct n = if n = d.account then { s.acct n with reserved := (s.acct n).reserved + d.hold } else s.acct n
  sub : ∀ n, z.sub n = if n = d.subscriber then { s.sub n with live := (s.sub n).live + 1 } else s.sub n
  jnl : z.jnl = { s.jnl with reservation := s.jnl.reservation + 1 }
  lnk : z.lnk = s.lnk

/-- Enrolment is such a step, whatever the text store holds. -/
theorem enroll_accepts (store : TextStore) (r : Nat) (d : Delivery) : s.Accepts ((s.withTxt store).enroll r d) r d where
  only := (s.withTxt store).enroll_only r d
  record := (s.withTxt store).enroll_record r d
  sequence := rfl
  filed := (s.withTxt store).enroll_calList_due r d
  lists _ h := (s.withTxt store).enroll_calList_other r d h
  acct := (s.withTxt store).enroll_acct r d
  sub := (s.withTxt store).enroll_sub r d
  jnl := rfl
  lnk := rfl

variable {s} {n r b : Nat} {x : Submission} {o : Option Nat}

theorem accept_accepts (table : s.freeDelivery = some r) (body : (s.takeBody x o).2 = b) :
    s.Accepts (s.accept n x o).state r (s.newDelivery n x b) := by
  have accepted : (s.accept n x o).state = (s.withTxt (s.takeBody x o).1.txt).enroll r (s.newDelivery n x b) := by
    rw [← takeBody_only, ← body, accept, table]; rfl
  exact accepted ▸ s.enroll_accepts ..

theorem accept_txt (n : Nat) (x : Submission) (o : Option Nat) : (s.accept n x o).state.txt = (s.takeBody x o).1.txt := rfl

/-- An accepted submission without a body yet stores its text in a new one (R52, R64). -/
theorem accept_stores (checked : s.intakeCheck n x false = none) (free : s.freeBody = some b) :
    s.Stores (s.accept n x none).state.txt b x.encoding x.text := by
  obtain ⟨-, -, room⟩ := s.storeRoom_of_passed checked
  rw [accept_txt, takeBody_none s free]
  exact s.createBody_stores b x.encoding room

/-- Ticket, hold and due serial of an accepted delivery (R57, R62). -/
theorem accept_bytes (table : s.freeDelivery = some r) (body : (s.takeBody x o).2 = b) :
    (s.accept n x o).bytes = ticket3 { number := r, issue := (s.record r).issue + 1 } ++
      num2 (s.newDelivery n x b).hold ++ ser4 (s.newDelivery n x b).due := by
  have number : (s.accept n x o).number = r := by simp [accept, table]
  have delivery : (s.accept n x o).delivery = s.newDelivery n x b := by rw [← body]; rfl
  rw [Accepted.bytes, delivery, number, ticket, (accept_accepts table body).record, if_pos rfl]

/-! ### The new delivery (R53) -/

theorem newDelivery_twoWay (h : (s.newDelivery n x b).kind = .twoWay) :
    (s.newDelivery n x b).allowance = (s.profile x.priority).allowance ∧
    (s.newDelivery n x b).attemptsLeft = (s.newDelivery n x b).allowance ∧ (s.newDelivery n x b).repeatsLeft = 0 := by
  have kind : (s.sub n).pager.kind = .twoWay := h
  simp [newDelivery, kind]

theorem newDelivery_oneWay (h : (s.newDelivery n x b).kind = .oneWay) :
    (s.newDelivery n x b).repeatsLeft = (s.profile x.priority).repeats ∧
    (s.newDelivery n x b).allowance = 0 ∧ (s.newDelivery n x b).attemptsLeft = 0 := by
  have kind : (s.sub n).pager.kind = .oneWay := h
  simp [newDelivery, kind]

end State

/-- Settles O25: the acceptance is one step, its body is a new one, and its reply gives ticket, hold and due serial. -/
theorem acceptedPageCreatesDelivery : Obligations.AcceptedPageCreatesDelivery := by
  unfold Obligations.AcceptedPageCreatesDelivery
  intro s tag n x k b hn lifetime length ready checked table free
  have checked : s.taken.intakeCheck n x false = none := (s.intakeCheck_taken n x false).trans checked
  have body : (s.taken.takeBody x none).2 = b := by rw [s.taken.takeBody_none free]
  have accepts := State.accept_accepts (s := s.taken) (n := n) table body
  have stores := State.accept_stores (s := s.taken) checked free
  have served := serveSubmitPage_of_passed (Payload.readPage_page n x (by omega) lifetime length) checked
  rw [State.accept_bytes (s := s.taken) table body] at served
  generalize (s.taken.accept n x none).state = z at *
  refine ⟨_, s.taken.newDelivery n x b, exec_of_served (serve := serveSubmitPage) rfl ready served, ?only, ?live, rfl, rfl, rfl,
    rfl, rfl, rfl, rfl, rfl, rfl, rfl, rfl, State.newDelivery_twoWay, State.newDelivery_oneWay, rfl, rfl, rfl, rfl, rfl, rfl,
    rfl, rfl, rfl, rfl, ?issue, ?records, accepts.sequence, accepts.filed, accepts.lists, accepts.acct, accepts.sub,
    accepts.jnl, stores.inUse, stores.refs, stores.encoding, stores.length, stores.others, stores.reads, stores.count,
    stores.rising, stores.lowest, stores.free, stores.used, ?link⟩
  case only =>
    have linked (l : Link) := congrArg (State.withLnk · l) accepts.only
    exact linked _
  case live => exact congrArg DeliveryRecord.live ((accepts.record k).trans (if_pos rfl))
  case issue => exact congrArg DeliveryRecord.issue ((accepts.record k).trans (if_pos rfl))
  case records => exact fun m other => (accepts.record m).trans (if_neg other)
  case link => exact answered_lnk accepts.lnk _ _

end Sys2Proof.Machine
end

section
/-! PROOFS. The group page: its members one by one, over one body (R60 to R62). -/

namespace Sys2Proof.Machine

/-! ### The service of SUBMIT GROUP PAGE (R60) -/

/-- A group page before its first member. -/
def GroupProgress.start (s : State) : GroupProgress := { state := s, body := none, accepted := 0, entries := [] }

/-- A group page after the members of a list. -/
def GroupProgress.after (s : State) (x : Submission) (list : List Nat) : GroupProgress :=
  list.foldl (takeMember x) (.start s)

theorem GroupProgress.after_concat (s : State) (x : Submission) (list : List Nat) (m : Nat) :
    after s x (list ++ [m]) = takeMember x (after s x list) m := List.foldl_concat ..

/-- The members before place `i`, and the member there. -/
theorem GroupProgress.after_take_succ (s : State) (x : Submission) {list : List Nat} {i m : Nat} (h : list[i]? = some m) :
    after s x (list.take (i + 1)) = takeMember x (after s x (list.take i)) m := by
  rw [List.take_add_one, h, Option.toList_some, after_concat]

theorem serveSubmitGroupPage_of_malformed {p : List Byte} (s : State) (malformed : readGroupPage p = none) :
    serveSubmitGroupPage p s = refuse s .badRequest := by simp only [serveSubmitGroupPage, malformed]

theorem serveSubmitGroupPage_of_carried {p : List Byte} (s : State) {list : List Nat} {x : Submission}
    (carried : readGroupPage p = some (list, x)) :
    serveSubmitGroupPage p s = ((GroupProgress.after s x list).state,
      { status := .ok, clamped := x.lifetime = 0 && 0 < (GroupProgress.after s x list).accepted, saturated := false,
        data := num1 (GroupProgress.after s x list).accepted ++ (GroupProgress.after s x list).entries }) := by
  simp only [serveSubmitGroupPage, carried]; rfl

/-! ### One member (R61, R62) -/

namespace State

variable {s : State} {n b : Nat} {x : Submission}

/-- A member that passes its checks takes a record, and the body that exists or the lowest free entry. -/
theorem takes_of_passed {o : Option Nat} (checked : s.intakeCheck n x o.isSome = none) :
    ∃ r b, s.freeDelivery = some r ∧ (s.takeBody x o).2 = b ∧ ((o = none ∧ s.freeBody = some b) ∨ o = some b) := by
  obtain ⟨-, -, -, table, store⟩ := intakeCheck_passed checked
  obtain ⟨r, table⟩ := Option.ne_none_iff_exists'.1 table
  cases o with
  | none =>
    obtain ⟨b, free⟩ := Option.ne_none_iff_exists'.1 (store rfl)
    exact ⟨r, b, table, by rw [s.takeBody_none free], .inl ⟨rfl, free⟩⟩
  | some b => exact ⟨r, b, table, rfl, .inr rfl⟩

/-- An accepted submission with a body adds one reference to it, and no block changes (R61). -/
theorem accept_shares (s : State) (n : Nat) (x : Submission) (b m : Nat) :
    (s.accept n x (some b)).state.body m = (if m = b then { s.body b with refs := (s.body b).refs + 1 } else s.body m) ∧
    (s.accept n x (some b)).state.block m = s.block m := ⟨s.body_shareBody b m, rfl⟩

/-- An acceptance writes no body but its own. -/
theorem accept_body_other {o : Option Nat} {m : Nat} (taken : (s.takeBody x o).2 = b) (other : m ≠ b) :
    (s.accept n x o).state.body m = s.body m := by
  subst taken
  cases o with
  | none => exact (body_createBody ..).trans (if_neg other)
  | some b => exact (s.body_shareBody ..).trans (if_neg other)

/-! ### Check 10 is made only until the body exists (R61) -/

/-- A check that stands before check 10 decides both chains, or neither. -/
theorem ite_check_before {P : Prop} [Decidable P] {status : Status} (other : status ≠ .storeFull)
    {shared fresh last : Option Status} (rest : shared = if fresh = some .storeFull then last else fresh) :
    (if P then some status else shared) =
      if (if P then some status else fresh) = some .storeFull then last else (if P then some status else fresh) := by
  split
  · simp [other]
  · exact rest

theorem intakeCheck_shared (s : State) (n : Nat) (x : Submission) :
    s.intakeCheck n x true =
      if s.intakeCheck n x false = some .storeFull then
        (if (s.acct (s.sub n).account).available < (s.holdFor (s.sub n) x : Int) then some .credit else none)
      else s.intakeCheck n x false := by
  unfold intakeCheck; dsimp only
  iterate 8 refine ite_check_before (by decide) ?_
  by_cases room : s.storeRoom x.text.length = false <;> simp [room]

end State

/-! ### The page as a whole (R61, R62) -/

/-- From one state to another the free body entry `b` became the body of a submission with `k` references, and no other body
changed (R61, R63). -/
structure Submission.Held (x : Submission) (s t : State) (b k : Nat) : Prop where
  free : s.freeBody = some b
  inUse : (t.body b).inUse = true
  refs : (t.body b).refs = k
  encoding : (t.body b).encoding = x.encoding
  length : (t.body b).length = x.text.length
  others : ∀ m, m ≠ b → t.body m = s.body m

/-- A group page after the members `done`, from the state `s`: ten bytes for each, and one delivery, reservation and reference
for each that was accepted. -/
structure GroupProgress.Sound (s : State) (x : Submission) (done : List Nat) (g : GroupProgress) : Prop where
  entries : g.entries.length = 10 * done.length
  accepted : g.accepted ≤ done.length
  sequence : g.state.dlv.sequence = s.dlv.sequence + BitVec.ofNat 32 g.accepted
  jnl : g.state.jnl = { s.jnl with reservation := s.jnl.reservation + g.accepted }
  subs : ∀ m, m ∉ done → g.state.sub m = s.sub m
  untouched : g.accepted = 0 → g.body = none ∧ g.state = s
  shared : 0 < g.accepted → ∃ b, g.body = some b ∧ x.Held s g.state b g.accepted

namespace GroupProgress

variable {s : State} {x : Submission} {done : List Nat} {g : GroupProgress} {m : Nat}

theorem start_sound (s : State) (x : Submission) : (start s).Sound s x [] where
  entries := rfl
  accepted := Nat.le_refl _
  sequence := (BitVec.add_zero _).symm
  jnl := rfl
  subs _ _ := rfl
  untouched _ := ⟨rfl, rfl⟩
  shared h := absurd h (Nat.lt_irrefl _)

/-- A member that is refused gives its ten bytes. -/
theorem Sound.refused {status : Status} (h : g.Sound s x done)
    (checked : g.state.intakeCheck m x g.body.isSome = some status) : (takeMember x g m).Sound s x (done ++ [m]) := by
  rw [takeMember_of_refused checked]
  refine { h with entries := ?_, accepted := ?_, subs := fun k other => h.subs k fun old => other (by simp [old]) }
  · simp [h.entries]; omega
  · simpa using Nat.le_succ_of_le h.accepted

/-- The body after one more member is accepted: a new one with the first, one more reference with a later one. -/
theorem Sound.body_passed (h : g.Sound s x done) (checked : g.state.intakeCheck m x g.body.isSome = none) :
    ∃ b, (g.state.takeBody x g.body).2 = b ∧ x.Held s (g.state.accept m x g.body).state b (g.accepted + 1) := by
  rcases Nat.eq_zero_or_pos g.accepted with first | later
  · obtain ⟨body, state⟩ := h.untouched first
    rw [body, state] at checked
    obtain ⟨b, free, -⟩ := s.storeRoom_of_passed checked
    have stores := State.accept_stores checked free
    rw [body, state, first]
    exact ⟨b, by rw [s.takeBody_none free], free, stores.inUse, stores.refs, stores.encoding, stores.length, stores.others⟩
  · obtain ⟨b, body, held⟩ := h.shared later
    have own : (g.state.accept m x (some b)).state.body b = { g.state.body b with refs := (g.state.body b).refs + 1 } :=
      (g.state.accept_shares m x b b).1.trans (if_pos rfl)
    rw [body]
    refine ⟨b, rfl, held.free, ?_, ?_, ?_, ?_, fun k other => ?_⟩
    · rw [own]; exact held.inUse
    · rw [own, held.refs]
    · rw [own]; exact held.encoding
    · rw [own]; exact held.length
    · rw [State.accept_body_other rfl other]; exact held.others k other

theorem Sound.passed (h : g.Sound s x done) (checked : g.state.intakeCheck m x g.body.isSome = none) :
    (takeMember x g m).Sound s x (done ++ [m]) := by
  obtain ⟨b, taken, held⟩ := h.body_passed checked
  obtain ⟨r, -, table, -, -⟩ := State.takes_of_passed checked
  have accepts := State.accept_accepts (n := m) table taken
  have bytes := State.accept_bytes (n := m) table taken
  rw [takeMember_of_passed checked]
  constructor
  case entries => simp [h.entries, bytes]; omega
  case accepted => simpa using h.accepted
  case sequence => rw [accepts.sequence, h.sequence, BitVec.ofNat_add, BitVec.add_assoc]; rfl
  case jnl => rw [accepts.jnl, h.jnl, Nat.add_assoc]
  case subs =>
    intro k other
    obtain ⟨old, last⟩ := not_or.1 (List.mem_append.not.1 other)
    exact (accepts.sub k).trans ((if_neg (List.mem_singleton.not.1 last)).trans (h.subs k old))
  case untouched => exact nofun
  case shared => exact fun _ => ⟨b, congrArg some taken, held⟩

theorem after_sound (s : State) (x : Submission) (list : List Nat) : (after s x list).Sound s x list := by
  induction list using List.reverseRecOn with
  | nil => exact start_sound s x
  | append_singleton list m ih =>
    rw [after_concat]
    cases checked : (after s x list).state.intakeCheck m x (after s x list).body.isSome with
    | some status => exact ih.refused checked
    | none => exact ih.passed checked

/-- No member takes back the acceptance of another. -/
theorem accepted_le_foldl (x : Submission) (list : List Nat) (g : GroupProgress) :
    g.accepted ≤ (list.foldl (takeMember x) g).accepted := by
  induction list generalizing g with
  | nil => exact Nat.le_refl _
  | cons m list ih =>
    refine Nat.le_trans ?_ (ih _)
    cases checked : g.state.intakeCheck m x g.body.isSome with
    | some status => rw [takeMember_of_refused checked]
    | none => rw [takeMember_of_passed checked]; exact Nat.le_succ _

theorem accepted_pos_of_head {list : List Nat} (head : list.head? = some m) (checked : s.intakeCheck m x false = none) :
    1 ≤ (after s x list).accepted := by
  obtain ⟨rest, rfl⟩ := List.head?_eq_some_iff.1 head
  have first : (takeMember x (start s) m).accepted = 1 := by rw [takeMember_of_passed checked]; rfl
  exact first ▸ accepted_le_foldl x rest (takeMember x (start s) m)

end GroupProgress

/-- Settles O26: the page after each member is the page after the members before it, taken one member further. -/
theorem groupPageSharesOneBody : Obligations.GroupPageSharesOneBody := by
  unfold Obligations.GroupPageSharesOneBody
  refine ⟨fun s tag list x nonempty most numbers lifetime length ready => ?_, State.intakeCheck_shared,
    fun s tag p ready malformed => refuses_of_served (serve := serveSubmitGroupPage) rfl ready
      (serveSubmitGroupPage_of_malformed _ (readGroupPage_eq_none malformed))⟩
  have served := serveSubmitGroupPage_of_carried s.taken
    (Payload.readGroupPage_groupPage list x nonempty most numbers lifetime length)
  have sound := GroupProgress.after_sound s.taken x list
  have whole : GroupProgress.after s.taken x list = .after s.taken x (list.take list.length) := by rw [List.take_length]
  refine ⟨fun i => .after s.taken x (list.take i), (GroupProgress.after s.taken x list).accepted,
    (GroupProgress.after s.taken x list).entries, (GroupProgress.after s.taken x list).state,
    exec_of_served (serve := serveSubmitGroupPage) rfl ready served, rfl, congrArg _ whole, congrArg _ whole, congrArg _ whole,
    fun i m place => ?member, sound.entries, sound.accepted,
    fun m head checked => GroupProgress.accepted_pos_of_head head checked, sound.sequence, sound.jnl, sound.subs,
    fun idle => (sound.untouched idle).2, fun accepted => ?body⟩
  case body =>
    obtain ⟨b, -, held⟩ := sound.shared accepted
    exact ⟨b, held.free, held.inUse, held.refs, held.encoding, held.length, held.others⟩
  case member =>
    dsimp only
    rw [GroupProgress.after_take_succ s.taken x place]
    generalize GroupProgress.after s.taken x (list.take i) = g
    refine ⟨fun st checked => takeMember_of_refused checked, ?_⟩
    rintro checked a z rfl rfl
    obtain ⟨r, b, table, taken, which⟩ := State.takes_of_passed checked
    have accepts := State.accept_accepts (n := m) table taken
    have bytes := State.accept_bytes (n := m) table taken
    rw [takeMember_of_passed checked]
    refine ⟨r, b, g.state.newDelivery m x b, table, which, ?delivery, ?next, ?only, accepts.record,
      accepts.sequence, accepts.filed, accepts.lists, accepts.acct, accepts.sub,
      fun k other => State.accept_body_other taken other, fun absent => ?fresh, fun held => ?shared⟩
    case delivery =>
      unfold State.newDelivery; dsimp only
      cases (g.state.sub m).pager <;> rfl
    case next =>
      have body : (g.state.accept m x g.body).body = b := taken
      rw [bytes, body]; rfl
    case only => exact accepts.only.trans (by rw [accepts.jnl])
    case fresh =>
      have free := (which.resolve_right (by simp [absent])).2
      rw [absent] at checked ⊢
      have stores := State.accept_stores checked free
      exact ⟨stores.inUse, stores.refs, stores.encoding, stores.length, stores.reads, stores.used⟩
    case shared =>
      have shares (k : Nat) := g.state.accept_shares m x b k
      rw [held]
      exact ⟨(shares b).1.trans (if_pos rfl), fun k => (shares k).2⟩

end Sys2Proof.Machine
end

section
/-! PROOFS. What events on deliveries leave alone: a run of events on the deliveries of a list changes no other delivery, keeps
the clock, the zones and the standing tables, and adds one usage record for each delivery that ends (R72, R85, R169). -/

namespace Sys2Proof.Machine

/-- Between two states events fell on the deliveries listed and on no other (R72, R75, R85): what they leave alone, and the
usage records of those that ended. -/
structure Touched (l : List Nat) (s t : State) : Prop where
  clk : t.clk = s.clk
  zon : t.zon = s.zon
  pending : t.pending = s.pending
  map : t.dir.map = s.dir.map
  tariffs : t.act.tariffs = s.act.tariffs
  profile : ∀ p, t.profile p = s.profile p
  sub : ∀ m, t.sub m = { s.sub m with live := (t.sub m).live }
  queue : ∀ z, t.queue z = s.queue z
  requests : t.lnk.requests = s.lnk.requests
  replies : t.lnk.replies = s.lnk.replies
  air : t.bld.air = s.bld.air
  sequence : t.dlv.sequence = s.dlv.sequence
  watermark : t.jnl.watermark = s.jnl.watermark
  record : ∀ m ∉ l, t.record m = s.record m
  issue : ∀ m, (t.record m).issue = (s.record m).issue
  gone : ∀ m, s.live m = none → t.live m = none
  listed : ∀ m ∉ l, ∀ k, m ∈ t.calList k ↔ m ∈ s.calList k
  wrote : ∃ w : List UsageRecord, t.jnl.records = s.jnl.records ++ w ∧ (w.map (fun u => u.ticket.number)).Sublist l ∧
    (∀ u ∈ w, u.ticket = s.ticket u.ticket.number ∧ u.endSerial = s.clk.serial ∧ t.live u.ticket.number = none) ∧
    ∀ m, s.live m ≠ none → (t.live m = none ↔ m ∈ w.map (fun u => u.ticket.number))

namespace Touched

variable {l k : List Nat} {s t u : State} {n : Nat} {d : Delivery}

theorem live (h : Touched l s t) {m : Nat} (other : m ∉ l) : t.live m = s.live m := by
  rw [State.live, h.record m other]; rfl

theorem ticket (h : Touched l s t) (m : Nat) : t.ticket m = s.ticket m := by rw [State.ticket, h.issue]; rfl

/-- The next eligible serial is read off settings that no event on a delivery changes (R7). -/
theorem nextEligible (h : Touched l s t) (m : Nat) (x : Serial) : (t.sub m).nextEligible x = (s.sub m).nextEligible x := by
  rw [h.sub]; rfl

/-- Where no usage record is written and no record freed, the last clause of `Touched` holds with no record. -/
theorem wrote_nothing {s t : State} (jnl : t.jnl.records = s.jnl.records) (live : ∀ m, s.live m ≠ none → t.live m ≠ none) :
    ∃ w : List UsageRecord, t.jnl.records = s.jnl.records ++ w ∧ (w.map (fun u => u.ticket.number)).Sublist l ∧
    (∀ u ∈ w, u.ticket = s.ticket u.ticket.number ∧ u.endSerial = s.clk.serial ∧ t.live u.ticket.number = none) ∧
    ∀ m, s.live m ≠ none → (t.live m = none ↔ m ∈ w.map (fun u => u.ticket.number)) :=
  ⟨[], by simp [jnl], List.nil_sublist l, by simp, fun m found => by simpa using live m found⟩

theorem refl (s : State) : Touched l s s where
  clk := rfl
  zon := rfl
  pending := rfl
  map := rfl
  tariffs := rfl
  profile _ := rfl
  sub _ := rfl
  queue _ := rfl
  requests := rfl
  replies := rfl
  air := rfl
  sequence := rfl
  watermark := rfl
  record _ _ := rfl
  issue _ := rfl
  gone _ h := h
  listed _ _ _ := .rfl
  wrote := wrote_nothing rfl fun _ h => h

theorem mono (h : Touched l s t) (more : l.Sublist k) : Touched k s t where
  clk := h.clk
  zon := h.zon
  pending := h.pending
  map := h.map
  tariffs := h.tariffs
  profile := h.profile
  sub := h.sub
  queue := h.queue
  requests := h.requests
  replies := h.replies
  air := h.air
  sequence := h.sequence
  watermark := h.watermark
  record m other := h.record m fun listed => other (more.subset listed)
  issue := h.issue
  gone := h.gone
  listed m other := h.listed m fun listed => other (more.subset listed)
  wrote := by
    obtain ⟨w, jnl, order, each, all⟩ := h.wrote
    exact ⟨w, jnl, order.trans more, each, all⟩

theorem trans (h : Touched l s t) (g : Touched k t u) : Touched (l ++ k) s u where
  clk := g.clk.trans h.clk
  zon := g.zon.trans h.zon
  pending := g.pending.trans h.pending
  map := g.map.trans h.map
  tariffs := g.tariffs.trans h.tariffs
  profile p := (g.profile p).trans (h.profile p)
  sub m := by rw [g.sub, h.sub]
  queue z := (g.queue z).trans (h.queue z)
  requests := g.requests.trans h.requests
  replies := g.replies.trans h.replies
  air := g.air.trans h.air
  sequence := g.sequence.trans h.sequence
  watermark := g.watermark.trans h.watermark
  record m other := by
    rw [List.mem_append, not_or] at other
    exact (g.record m other.2).trans (h.record m other.1)
  issue m := (g.issue m).trans (h.issue m)
  gone m free := g.gone m (h.gone m free)
  listed m other k := by
    rw [List.mem_append, not_or] at other
    exact (g.listed m other.2 k).trans (h.listed m other.1 k)
  wrote := by
    obtain ⟨w, jnl, order, each, all⟩ := h.wrote
    obtain ⟨v, jnl', order', each', all'⟩ := g.wrote
    refine ⟨w ++ v, by rw [jnl', jnl, List.append_assoc], by simpa using order.append order', fun r hr => ?_, fun m found => ?_⟩
    · rcases List.mem_append.1 hr with hr | hr
      · obtain ⟨ticket, serial, free⟩ := each r hr
        exact ⟨ticket, serial, g.gone _ free⟩
      · obtain ⟨ticket, serial, free⟩ := each' r hr
        exact ⟨ticket.trans (h.ticket _), serial.trans (congrArg Clock.serial h.clk), free⟩
    · rw [List.map_append, List.mem_append, ← all m found]
      by_cases free : t.live m = none
      · simp [free, g.gone m free]
      · simp [free, all' m free]

/-- What is no event on a delivery comes before one. -/
theorem before (h : Touched [] s t) (g : Touched l t u) : Touched l s u := h.trans g

/-- What is no event on a delivery comes after one. -/
theorem after (h : Touched l s t) (g : Touched [] t u) : Touched l s u := by simpa using h.trans g

theorem foldl {f : State → Nat → State} (h : ∀ s n, Touched [n] s (f s n)) (l : List Nat) (s : State) :
    Touched l s (l.foldl f s) := by
  induction l generalizing s with
  | nil => exact .refl s
  | cons n l ih => exact (h s n).trans (ih _)

/-- In a run of events on different deliveries, the event on one of them comes between events on the others. -/
theorem foldl_split {f : State → Nat → State} (h : ∀ s n, Touched [n] s (f s n)) {l : List Nat} (nodup : l.Nodup)
    (mem : n ∈ l) (s : State) : ∃ a b u, n ∉ a ∧ n ∉ b ∧ Touched a s u ∧ Touched b (f u n) (l.foldl f s) := by
  obtain ⟨a, b, rfl⟩ := List.append_of_mem mem
  rw [List.nodup_middle, List.nodup_cons, List.mem_append, not_or] at nodup
  refine ⟨a, b, a.foldl f s, nodup.1.1, nodup.1.2, foldl h a s, ?_⟩
  rw [List.foldl_append, List.foldl_cons]
  exact foldl h b _

/-! ### Endings and re-filings seen from further off -/

/-- An ending seen from a state before events on other deliveries. -/
theorem ended_before (h : Touched l s t) {e : Ending} {r : Reason} (ended : t.ended u n e r) :
    s.ended u n e r := by
  obtain ⟨free, issue, w, mem, ticket, rest⟩ := ended
  obtain ⟨v, jnl, -⟩ := h.wrote
  refine ⟨free, issue.trans (h.issue n), w, ?_, ticket.trans (h.ticket n), rest⟩
  rw [jnl, List.length_append, ← List.drop_drop] at mem
  exact List.mem_of_mem_drop (i := v.length) (by rwa [List.drop_drop, Nat.add_comm] at mem ⊢)

/-- An ending stays one through later events. -/
theorem ended_after (h : Touched l t u) {e : Ending} {r : Reason} (ended : s.ended t n e r) : s.ended u n e r := by
  obtain ⟨free, issue, w, mem, ticket, ending, reason, serial⟩ := ended
  obtain ⟨v, jnl, -⟩ := h.wrote
  refine ⟨h.gone n free, (h.issue n).trans issue, w, ?_, ticket, ending, reason, by rw [serial, h.clk]⟩
  rw [jnl]
  by_cases hl : s.jnl.records.length ≤ t.jnl.records.length
  · rw [List.drop_append_of_le_length hl]
    exact List.mem_append_left _ mem
  · rw [List.drop_eq_nil_of_le (by omega)] at mem
    cases mem

theorem refiled_before (h : Touched l s t) (refiled : t.refiled u n d) : s.refiled u n d :=
  ⟨refiled.1, fun late => h.ended_before (refiled.2 late)⟩

theorem refiled_after (h : Touched l t u) (other : n ∉ l) (refiled : s.refiled t n d) : s.refiled u n d :=
  ⟨fun inTime => ⟨(h.live other).trans (refiled.1 inTime).1, (h.listed n other _).2 (refiled.1 inTime).2⟩,
    fun late => h.ended_after (refiled.2 late)⟩

/-! ### Each event -/

theorem setCounters (s : State) (c : ReceiptCounters) : Touched [] s (s.setCounters c) :=
  { refl s with profile := fun p => by simp, sub := fun _ => rfl, queue := fun _ => rfl, requests := rfl, replies := rfl,
                wrote := wrote_nothing rfl fun _ h => h }

theorem withRcpMaps (s : State) (maps : Table GroupMaps) : Touched [] s (s.withRcp { s.rcp with maps := maps }) :=
  { refl s with profile := fun p => by simp }

theorem withImages (s : State) (images : Table GroupImages) : Touched [] s (s.withBld { s.bld with images := images }) :=
  { refl s with profile := fun p => by simp }

theorem notice (s : State) (b : Byte) (f : List Byte) : Touched [] s (s.notice b f) :=
  { refl s with profile := fun p => by simp, requests := by simp, replies := by simp }

theorem writeAttempt (s : State) (x : Slot) (o : Option Attempt) : Touched [] s (s.writeAttempt x o) := by
  cases o with
  | none => exact .refl s
  | some a =>
    obtain ⟨maps, h⟩ := s.writeSlots_only a.serial x a.slots
    show Touched [] s (writeSlots a.serial x s a.slots)
    rw [h]
    exact withRcpMaps s maps

/-- The record of a live delivery is rewritten. -/
theorem setLive (live : s.live n = some d) (e : Delivery) : Touched [n] s (s.setLive n e) :=
  { refl s with
    profile := fun p => by simp
    record := fun m other => State.record_setRecord_other _ (by simpa using other) _
    issue := fun m => s.issue_setLive n m e
    gone := fun m free => by
      rw [State.live_setLive, if_neg]
      · exact free
      · rintro rfl; simp [live] at free
    wrote := wrote_nothing rfl fun m found => by rw [State.live_setLive]; split <;> simp [found] }

theorem mem_calList_unfile {m : Nat} (other : m ≠ n) (k : Nat) : m ∈ (s.unfile n).calList k ↔ m ∈ s.calList k := by
  rw [State.calList_unfile]
  split
  · simp [other]
  · rfl

theorem unfile (s : State) (n : Nat) : Touched [n] s (s.unfile n) := by
  have other := fun m (h : m ∉ [n]) => mem_calList_unfile (s := s) (n := n) (m := m) (by simpa using h)
  obtain ⟨table, h⟩ := s.unfile_only n
  have records (m : Nat) : (s.withDlv table).record m = s.record m := by rw [← h, State.unfile_record]
  have live (m : Nat) : (s.withDlv table).live m = s.live m := by rw [← h, State.unfile_live]
  have sequence : (s.withDlv table).dlv.sequence = s.dlv.sequence := by rw [← h, State.unfile_sequence]
  rw [h] at other ⊢
  exact { refl (l := [n]) s with
    profile := fun p => by simp
    sequence := sequence
    record := fun m _ => records m
    issue := fun m => congrArg _ (records m)
    gone := fun m free => (live m).trans free
    listed := other
    wrote := wrote_nothing rfl fun m found => by rwa [live] }

theorem setCalList (s : State) (k : Nat) {l : List Nat} (same : ∀ m, m ≠ n → (m ∈ l ↔ m ∈ s.calList k)) :
    Touched [n] s (s.setCalList k l) :=
  { refl s with
    profile := fun p => by simp
    listed := fun m other j => by
      rw [State.calList_setCalList]
      split
      · rename_i h; rw [h]; exact same m (by simpa using other)
      · rfl }

/-- A second event on the same delivery, after one that settled nothing. -/
theorem again (h : Touched [n] s t) (jnl : t.jnl.records = s.jnl.records) (stays : ∀ m, s.live m ≠ none → t.live m ≠ none)
    (g : Touched [n] t u) : Touched [n] s u :=
  { h.trans g with
    record := fun m other => (h.trans g).record m (by simpa using other)
    listed := fun m other => (h.trans g).listed m (by simpa using other)
    wrote := by
      obtain ⟨w, written, order, each, all⟩ := g.wrote
      refine ⟨w, by rw [written, jnl], order, fun v hv => ?_, fun m found => all m (stays m found)⟩
      obtain ⟨ticket, serial, free⟩ := each v hv
      exact ⟨ticket.trans (h.ticket _), serial.trans (congrArg Clock.serial h.clk), free⟩ }

theorem unfile_then (g : Touched [n] (s.unfile n) t) : Touched [n] s t :=
  (unfile s n).again (by simp) (fun m found => by simpa using found) g

theorem file (live : s.live n = some d) (e : Delivery) : Touched [n] s (s.file n e) :=
  (setLive live e).again rfl (fun m found => by rw [State.live_setLive]; split <;> simp [found])
    (setCalList _ _ fun m other => by
      rw [(State.insertInList_perm ..).mem_iff, List.mem_cons, or_iff_right other])

theorem settle (s : State) (n : Nat) (e : Delivery) (x : Ending) (r : Reason) : Touched [n] s (s.settle n e x r) where
  clk := by simp
  zon := by simp
  pending := by simp
  map := by simp
  tariffs := by rw [State.settle_act]; rfl
  profile := by simp
  sub m := by rw [State.settle_sub]; split <;> rfl
  queue z := by simp [State.queue]
  requests := by rw [State.settle_lnk]; dsimp only; split_ifs <;> simp
  replies := by rw [State.settle_lnk]; dsimp only; split_ifs <;> simp
  air := by simp
  sequence := by rw [State.settle_records, State.sequence_freeRecord]
  watermark := by rw [State.settle_jnl]; rfl
  record m other := by
    rw [State.record, State.settle_records]
    exact State.record_setRecord_other _ (by simpa using other) _
  issue m := by
    rw [State.record, State.settle_records]
    exact s.issue_freeRecord n m
  gone m free := by
    rw [State.live, State.record, State.settle_records]
    exact (s.live_freeRecord n m).trans (by rw [free, ite_self])
  listed m _ k := by rw [State.calList, State.settle_records]; rfl
  wrote := by
    have after (m : Nat) : (s.settle n e x r).live m = if m = n then none else s.live m := by
      rw [State.live, State.record, State.settle_records]
      exact s.live_freeRecord n m
    refine ⟨[s.usageOf n e x r], by rw [State.settle_jnl]; rfl, List.Sublist.refl _, fun u hu => ?_, fun m found => ?_⟩
    · rw [List.mem_singleton.1 hu]
      exact ⟨rfl, rfl, (after n).trans (if_pos rfl)⟩
    · rw [after, List.map_singleton, List.mem_singleton, State.usageOf, State.ticket]
      split <;> simp [*]

theorem endDelivery (s : State) (n : Nat) (e : Delivery) (x : Ending) (r : Reason) :
    Touched [n] s (s.endDelivery n e x r) := unfile_then (settle _ n e x r)

theorem refile (live : s.live n = some d) (e : Delivery) (due : Serial) : Touched [n] s (s.refile n e due) := by
  unfold State.refile
  split
  · exact endDelivery ..
  · exact unfile_then (file (by simpa using live) _)

theorem revert (live : s.live n = some d) (e : Delivery) : Touched [n] s (s.revert n e) := by
  rw [State.revert_eq]
  have written := writeAttempt s .empty e.last
  exact written.before (refile ((written.live (by simp)).trans live) ..)

theorem launchOne (kept : GroupSet) (s : State) (n : Nat) : Touched [n] s (launchOne kept s n) := by
  unfold Machine.launchOne
  split
  · exact .refl s
  · rename_i d live
    split
    · split
      · exact revert live d
      · exact setLive live _
    · exact .refl s

theorem endFrameOne (s : State) (n : Nat) : Touched [n] s (endFrameOne s n) := by
  unfold Machine.endFrameOne
  split
  · exact .refl s
  · rename_i d live
    split
    · split
      · exact setLive live _
      · dsimp only
        split
        · exact endDelivery ..
        · exact refile live ..
    · exact .refl s

theorem resolveOne (s : State) (n : Nat) : Touched [n] s (resolveOne s n) := by
  unfold Machine.resolveOne
  split
  · exact .refl s
  · rename_i d live
    split
    · have counted : Touched [] s s.countMiss := setCounters s _
      have live' : s.countMiss.live n = some d := live
      dsimp only
      split
      · exact (counted.before (endDelivery ..)).after (setCounters ..)
      · split
        · exact (counted.before (refile live' ..)).after (setCounters ..)
        · split
          · exact (counted.before (refile live' ..)).after (notice ..)
          · exact counted.before (refile live' ..)
    · exact .refl s

theorem cancelOne (s : State) (n : Nat) : Touched [n] s (cancelOne s n) := by
  unfold Machine.cancelOne
  split
  · exact endDelivery ..
  · exact .refl s

theorem place (live : s.live n = some d) (e : Delivery) (x : Serial) (cand : GroupSet) :
    Touched [n] s (s.place n e x cand) := by
  obtain ⟨images, maps, offered⟩ := s.offered_only n e x cand
  have paged : Touched [] s (s.offered n e x cand) := by
    rw [offered]
    exact (withImages s images).after (withRcpMaps _ maps)
  rw [State.place_eq]
  exact paged.before (unfile_then (setLive (d := d) (by rw [State.unfile_live, paged.live (by simp), live]) _))

theorem visit (x : Serial) (s : State) (n : Nat) : Touched [n] s (visit x s n) := by
  unfold Machine.visit
  split
  · exact .refl s
  · rename_i d live
    split
    · exact .refl s
    split
    · exact endDelivery ..
    split
    · unfold State.tryPlace
      dsimp only
      split
      · exact place live ..
      · exact refile live ..
    · exact refile live ..

end Touched

end Sys2Proof.Machine
end

section
/-! PROOFS. What changes the zone controller and the link alone, and the requests that leave every delivery and the calendar
alone. -/

namespace Sys2Proof.Machine

/-! ### Events of the zone controller -/

/-- Between two states the zone controller and the link may have changed, and nothing else. -/
def State.ZonesOnly (s t : State) : Prop := ∃ zon lnk, t = (s.withZon zon).withLnk lnk

namespace State

variable {s t u : State}

theorem ZonesOnly.refl (s : State) : s.ZonesOnly s := ⟨s.zon, s.lnk, rfl⟩

theorem ZonesOnly.trans (h : s.ZonesOnly t) (g : t.ZonesOnly u) : s.ZonesOnly u := by
  obtain ⟨_, _, rfl⟩ := h
  obtain ⟨zon, lnk, rfl⟩ := g
  exact ⟨zon, lnk, rfl⟩

theorem ZonesOnly.foldl {α : Type} {f : State → α → State} (h : ∀ (s : State) (a : α), s.ZonesOnly (f s a)) (l : List α) (s : State) :
    s.ZonesOnly (l.foldl f s) := by
  induction l generalizing s with
  | nil => exact .refl s
  | cons a l ih => exact (h s a).trans (ih _)

theorem ZonesOnly.dlv (h : s.ZonesOnly t) : t.dlv = s.dlv := by obtain ⟨_, _, rfl⟩ := h; rfl

theorem setZone_zonesOnly (s : State) (n : Nat) (z : Zone) : s.ZonesOnly (s.setZone n z) :=
  ⟨(s.setZone n z).zon, s.lnk, rfl⟩

theorem setGroup_zonesOnly (s : State) (g : Nat) (r : Group) : s.ZonesOnly (s.setGroup g r) :=
  ⟨(s.setGroup g r).zon, s.lnk, rfl⟩

theorem notice_zonesOnly (s : State) (k : Byte) (f : List Byte) : s.ZonesOnly (s.notice k f) := ⟨s.zon, _, rfl⟩

theorem flagZone_zonesOnly (s : State) (n : Nat) (z : Zone) (e : BitVec 3) : s.ZonesOnly (s.flagZone n z e) := by
  unfold flagZone
  dsimp only
  split
  · exact (s.setZone_zonesOnly n _).trans (notice_zonesOnly ..)
  · exact s.setZone_zonesOnly ..

theorem zonesOnly_of_followAlarm (s : State) (n : Nat) (z : Zone) : s.ZonesOnly (s.followAlarm n z) := by
  unfold followAlarm
  dsimp only
  split
  · exact s.setZone_zonesOnly ..
  · exact s.flagZone_zonesOnly ..

theorem takeZoneSettings_zonesOnly (s : State) (n : Nat) : s.ZonesOnly (s.takeZoneSettings n) := by
  unfold takeZoneSettings
  dsimp only
  split
  · split
    · exact s.setZone_zonesOnly ..
    · exact s.zonesOnly_of_followAlarm ..
  · exact .refl s

theorem takeGroupSettings_zonesOnly (s : State) (g : Nat) : s.ZonesOnly (s.takeGroupSettings g) := by
  unfold takeGroupSettings
  dsimp only
  split
  · exact s.setGroup_zonesOnly ..
  · exact .refl s

theorem testService_zonesOnly (s : State) (n : Nat) : s.ZonesOnly (s.testService n) := by
  unfold testService
  dsimp only
  split
  · exact .refl s
  · exact s.flagZone_zonesOnly ..

theorem zoneBuildPoint_zonesOnly (s : State) : s.ZonesOnly s.zoneBuildPoint := by
  unfold zoneBuildPoint
  exact (((ZonesOnly.foldl takeZoneSettings_zonesOnly _ _).trans (ZonesOnly.foldl takeGroupSettings_zonesOnly _ _)).trans
    (ZonesOnly.foldl testService_zonesOnly _ _)).trans (ZonesOnly.foldl (fun s _ => s.setGroup_zonesOnly ..) _ _)

theorem keyZone_zonesOnly (s : State) (n : Nat) : s.ZonesOnly (s.keyZone n) := by
  unfold keyZone
  dsimp only
  split <;> exact s.setZone_zonesOnly ..

theorem startPlan_zonesOnly (s : State) (g : Nat) : s.ZonesOnly (s.startPlan g) := s.setGroup_zonesOnly ..

theorem judgeAt_zonesOnly (k : Nat) (s : State) (n : Nat) : s.ZonesOnly (judgeAt k s n) := by
  unfold judgeAt judge
  split
  · split
    · dsimp only
      split
      · exact s.setZone_zonesOnly ..
      · exact s.flagZone_zonesOnly ..
    · exact .refl s
  · exact .refl s

theorem offerAt_zonesOnly (k : Nat) (s : State) (n : Nat) : s.ZonesOnly (offerAt k s n) := by
  unfold offerAt
  split
  · exact .refl s
  · split
    · split
      · exact s.setZone_zonesOnly ..
      · exact .refl s
    · exact .refl s

/-! ### Folds that leave the deliveries alone -/

/-- What no visit changes, a run of visits does not change. -/
theorem foldl_fixed {α β : Type} {f : State → α → State} {read : State → β} (h : ∀ s a, read (f s a) = read s) (l : List α)
    (s : State) : read (l.foldl f s) = read s := by
  induction l generalizing s with
  | nil => rfl
  | cons a l ih => exact (ih _).trans (h s a)

theorem dlv_foldl {α : Type} {f : State → α → State} (h : ∀ s a, (f s a).dlv = s.dlv) (l : List α) (s : State) :
    (l.foldl f s).dlv = s.dlv := foldl_fixed (read := State.dlv) h l s

@[simp] theorem openGroup_dlv (s : State) (g : Nat) : (s.openGroup g).dlv = s.dlv := by
  unfold openGroup
  split
  · rfl
  · split <;> rfl

@[simp] theorem completeGroup_dlv (s : State) (g : Nat) : (s.completeGroup g).dlv = s.dlv := by
  unfold completeGroup
  split <;> rfl

end State

/-! ### Requests that leave the deliveries alone -/

/-- A request that leaves every delivery, the calendar and the intake sequence as they stand. -/
def LeavesDeliveries (serve : List Byte → State → State × Answer) : Prop := ∀ p s, (serve p s).1.dlv = s.dlv

theorem ReadsOnly.leavesDeliveries {serve : List Byte → State → State × Answer} (h : ReadsOnly serve) :
    LeavesDeliveries serve := fun p s => by rw [h p s]

theorem State.dlv_rekey (s : State) (n : Nat) (old new : Subscriber) : (s.rekey n old new).dlv = s.dlv := by
  unfold State.rekey
  split <;> rfl

theorem serveAssignSubscriber_leavesDeliveries : LeavesDeliveries serveAssignSubscriber := by
  intro p s; unfold serveAssignSubscriber; repeat' split
  all_goals rfl

theorem serveModifySubscriber_leavesDeliveries : LeavesDeliveries serveModifySubscriber := by
  have relink (s : State) (old new : Nat) : (s.relink old new).dlv = s.dlv := by unfold State.relink; split <;> rfl
  intro p s; unfold serveModifySubscriber; dsimp only; repeat' split
  all_goals simp only [refuse, relink, State.dlv_rekey]

theorem serveSuspend_leavesDeliveries : LeavesDeliveries serveSuspend := by
  intro p s; unfold serveSuspend; repeat' split
  all_goals rfl

theorem serveResume_leavesDeliveries : LeavesDeliveries serveResume := by
  intro p s; unfold serveResume; repeat' split
  all_goals rfl

theorem serveRelease_leavesDeliveries : LeavesDeliveries serveRelease := by
  intro p s; unfold serveRelease; dsimp only; repeat' split
  all_goals rfl

theorem serveOpenAccount_leavesDeliveries : LeavesDeliveries serveOpenAccount := by
  intro p s; unfold serveOpenAccount; repeat' split
  all_goals rfl

theorem serveAdjustAccount_leavesDeliveries : LeavesDeliveries serveAdjustAccount := by
  intro p s; unfold serveAdjustAccount; repeat' split
  all_goals rfl

theorem serveSetCredit_leavesDeliveries : LeavesDeliveries serveSetCredit := by
  intro p s; unfold serveSetCredit; repeat' split
  all_goals rfl

theorem serveSetTariffClass_leavesDeliveries : LeavesDeliveries serveSetTariffClass := by
  intro p s; unfold serveSetTariffClass; repeat' split
  all_goals rfl

theorem serveLock_leavesDeliveries : LeavesDeliveries serveLock := by
  intro p s; unfold serveLock; repeat' split
  all_goals rfl

theorem serveUnlock_leavesDeliveries : LeavesDeliveries serveUnlock := by
  intro p s; unfold serveUnlock; repeat' split
  all_goals rfl

theorem serveClose_leavesDeliveries : LeavesDeliveries serveClose := by
  intro p s; unfold serveClose; dsimp only; repeat' split
  all_goals rfl

theorem serveLoadTariff_leavesDeliveries : LeavesDeliveries serveLoadTariff := by
  intro p s; unfold serveLoadTariff; repeat' split
  all_goals rfl

theorem serveSetPriorityProfile_leavesDeliveries : LeavesDeliveries serveSetPriorityProfile := by
  intro p s; unfold serveSetPriorityProfile; repeat' split
  · rfl
  · rfl
  · exact State.setProfile_dlv ..

theorem serveSetClock_leavesDeliveries : LeavesDeliveries serveSetClock := by
  intro p s; unfold serveSetClock; repeat' split
  all_goals rfl

theorem serveStopClock_leavesDeliveries : LeavesDeliveries serveStopClock := by
  intro p s; unfold serveStopClock; dsimp only; repeat' split
  · rfl
  · rfl
  · rfl
  · exact (State.dlv_foldl (f := dropMaps) (fun _ _ => rfl) ..).trans
      (State.dlv_foldl (f := State.dropPlans) (fun _ _ => rfl) ..)

theorem serveSetTrim_leavesDeliveries : LeavesDeliveries serveSetTrim := by
  intro p s; unfold serveSetTrim; split <;> rfl

theorem serveSetZone_leavesDeliveries : LeavesDeliveries serveSetZone := by
  intro p s; unfold serveSetZone; repeat' split
  all_goals rfl

theorem serveSetGroup_leavesDeliveries : LeavesDeliveries serveSetGroup := by
  intro p s; unfold serveSetGroup; repeat' split
  all_goals rfl

theorem serveClearZoneFlags_leavesDeliveries : LeavesDeliveries serveClearZoneFlags := by
  intro p s; unfold serveClearZoneFlags; repeat' split
  all_goals rfl

theorem serveAirOn_leavesDeliveries : LeavesDeliveries serveAirOn := by
  intro p s; unfold serveAirOn; repeat' split
  all_goals rfl

theorem serveTakeUsage_leavesDeliveries : LeavesDeliveries serveTakeUsage := by
  intro p s; unfold serveTakeUsage; split <;> rfl

theorem serveSetWatermark_leavesDeliveries : LeavesDeliveries serveSetWatermark := by
  intro p s; unfold serveSetWatermark; split <;> rfl

theorem serveQueryLink_leavesDeliveries : LeavesDeliveries serveQueryLink := by
  intro p s; unfold serveQueryLink; split <;> rfl

end Sys2Proof.Machine
end

section
/-! PROOFS. Every step keeps the calendar lists exact: a delivery is taken out of its list before it is written, and what is
written as waiting is filed (R74, R75, R85). -/

namespace Sys2Proof.Machine

namespace State

variable {s t : State} {n : Nat} {d e : Delivery}

/-- The calendar lists are exact but for delivery `n`, which stands in none (R75). -/
def calendarAgreesBut (s : State) (n : Nat) : Prop :=
  ∀ k, (s.calList k).Nodup ∧ n ∉ s.calList k ∧
    ∀ m, m ≠ n → (m ∈ s.calList k ↔ ∃ d, s.live m = some d ∧ d.state.waiting = true ∧ frameNumber d.due = k)

/-- A delivery that does not wait stands in no list. -/
theorem calendarAgrees_iff_but (idle : ∀ d, s.live n = some d → d.state.waiting = false) :
    s.calendarAgrees ↔ s.calendarAgreesBut n := by
  have absent (k : Nat) : ¬∃ d, s.live n = some d ∧ d.state.waiting = true ∧ frameNumber d.due = k := by
    rintro ⟨d, live, waiting, -⟩
    simp [idle d live] at waiting
  refine forall_congr' fun k => and_congr_right fun _ => ⟨fun h => ⟨fun listed => absent k ((h n).1 listed), fun m _ => h m⟩,
    fun ⟨unlisted, others⟩ m => ?_⟩
  by_cases hm : m = n
  · subst m; exact iff_of_false unlisted (absent k)
  · exact others m hm

theorem calendarAgreesBut_congr (list : ∀ k, t.calList k = s.calList k) (live : ∀ m, m ≠ n → t.live m = s.live m)
    (but : s.calendarAgreesBut n) : t.calendarAgreesBut n := by
  intro k
  obtain ⟨nodup, unlisted, others⟩ := but k
  rw [list]
  exact ⟨nodup, unlisted, fun m hm => by rw [live m hm]; exact others m hm⟩

/-- The calendar is read off the delivery table alone. -/
theorem calendarAgrees_of_dlv (h : t.dlv = s.dlv) (agrees : s.calendarAgrees) : t.calendarAgrees := by
  have list (k : Nat) : t.calList k = s.calList k := by rw [calList, h]; rfl
  have live (m : Nat) : t.live m = s.live m := by rw [State.live, record, h]; rfl
  intro k
  simp only [list, live]
  exact agrees k

/-- A delivery taken out of its list stands in none. -/
theorem unfile_agreesBut (agrees : s.calendarAgrees) (n : Nat) : (s.unfile n).calendarAgreesBut n := by
  intro k
  obtain ⟨nodup, exact'⟩ := agrees k
  refine ⟨?_, ?_, fun m hm => ?_⟩
  · rw [calList_unfile]
    split
    · exact nodup.filter _
    · exact nodup
  · rw [calList_unfile]
    split
    · simp
    · rw [exact']; assumption
  · rw [Touched.mem_calList_unfile hm, unfile_live]
    exact exact' m

/-- A record written keeps the rest of the calendar exact. -/
theorem setRecord_agreesBut (but : s.calendarAgreesBut n) (r : DeliveryRecord) : (s.setRecord n r).calendarAgreesBut n :=
  calendarAgreesBut_congr (s := s) (fun _ => rfl) (fun _ hm => congrArg DeliveryRecord.live (s.record_setRecord_other hm r)) but

/-- A waiting delivery is filed in the list of its due serial, once. -/
theorem file_agrees (but : s.calendarAgreesBut n) (waiting : e.state.waiting = true) : (s.file n e).calendarAgrees := by
  intro k
  obtain ⟨nodup, unlisted, others⟩ := but k
  have mem (m : Nat) : m ∈ (s.file n e).calList k ↔ (m = n ∧ k = frameNumber e.due) ∨ m ∈ s.calList k := by
    rw [calList_file]
    split
    · rw [(insertInList_perm ..).mem_iff, List.mem_cons, and_iff_left ‹_›]
    · simp [*]
  refine ⟨?_, fun m => ?_⟩
  · rw [calList_file]
    split
    · exact (insertInList_perm ..).nodup_iff.2 (List.nodup_cons.2 ⟨unlisted, nodup⟩)
    · exact nodup
  · rw [mem, live_file]
    by_cases hm : m = n
    · subst m; simp [unlisted, waiting, @eq_comm _ k]
    · simp [hm, others m hm]

theorem settle_agrees {x : Ending} {r : Reason} (but : s.calendarAgreesBut n) :
    (s.settle n e x r).calendarAgrees := by
  have free (d : Delivery) (h : (s.freeRecord n).live n = some d) : d.state.waiting = false := by
    rw [live_freeRecord, if_pos rfl] at h
    cases h
  exact calendarAgrees_of_dlv (s.settle_records n e x r) ((calendarAgrees_iff_but free).2 (setRecord_agreesBut but _))

theorem endDelivery_agrees {x : Ending} {r : Reason} (agrees : s.calendarAgrees) :
    (s.endDelivery n e x r).calendarAgrees := settle_agrees (unfile_agreesBut agrees n)

theorem refile_agrees {due : Serial} (agrees : s.calendarAgrees) (waiting : e.state.waiting = true) :
    (s.refile n e due).calendarAgrees := by
  unfold refile
  split
  · exact endDelivery_agrees agrees
  · exact file_agrees (unfile_agreesBut agrees n) waiting

/-- A delivery that does not wait, before and after, is rewritten. -/
theorem setLive_agrees (agrees : s.calendarAgrees) (before : ∀ d, s.live n = some d → d.state.waiting = false)
    (after : e.state.waiting = false) : (s.setLive n e).calendarAgrees := by
  rw [calendarAgrees_iff_but (n := n) (by simpa [live_setLive] using after)]
  exact setRecord_agreesBut ((calendarAgrees_iff_but before).1 agrees) _

theorem reverted_waiting (d : Delivery) : d.reverted.state.waiting = true := by
  unfold Delivery.reverted
  cases d.kind with
  | oneWay => rfl
  | twoWay => dsimp only; split <;> rfl

theorem revert_agrees (agrees : s.calendarAgrees) : (s.revert n d).calendarAgrees := by
  rw [revert_eq]
  exact refile_agrees (calendarAgrees_of_dlv (s.writeAttempt_dlv ..) agrees) (reverted_waiting d)

theorem foldl_keeps {α : Type} {P : State → Prop} {f : State → α → State} (h : ∀ s a, P s → P (f s a)) (l : List α) (s : State)
    (hs : P s) : P (l.foldl f s) := by
  induction l generalizing s with
  | nil => exact hs
  | cons a l ih => exact ih _ (h s a hs)

/-! ### The boundary -/

theorem launchOne_agrees (kept : GroupSet) (s : State) (n : Nat) (agrees : s.calendarAgrees) :
    (launchOne kept s n).calendarAgrees := by
  unfold launchOne
  split
  · exact agrees
  · rename_i d live
    split
    · rename_i placed
      split
      · exact revert_agrees agrees
      · exact setLive_agrees agrees (fun e he => by cases live.symm.trans he; simp [placed, DeliveryState.waiting]) rfl
    · exact agrees

theorem endFrameOne_agrees (s : State) (n : Nat) (agrees : s.calendarAgrees) : (endFrameOne s n).calendarAgrees := by
  unfold endFrameOne
  split
  · exact agrees
  · rename_i d live
    split
    · rename_i onAir
      split
      · exact setLive_agrees agrees (fun e he => by cases live.symm.trans he; simp [onAir, DeliveryState.waiting]) rfl
      · dsimp only
        split
        · exact endDelivery_agrees agrees
        · exact refile_agrees agrees rfl
    · exact agrees

theorem resolveOne_agrees (s : State) (n : Nat) (agrees : s.calendarAgrees) : (resolveOne s n).calendarAgrees := by
  unfold resolveOne
  split
  · exact agrees
  · split
    · have counted : s.countMiss.calendarAgrees := calendarAgrees_of_dlv rfl agrees
      have counts (t : State) (h : t.calendarAgrees) : t.countExpired.calendarAgrees := calendarAgrees_of_dlv rfl h
      have notes (t : State) (k : Byte) (f : List Byte) (h : t.calendarAgrees) : (t.notice k f).calendarAgrees :=
        calendarAgrees_of_dlv rfl h
      dsimp only
      split
      · exact counts _ (endDelivery_agrees counted)
      · split
        · exact counts _ (refile_agrees counted rfl)
        · split
          · exact notes _ _ _ (refile_agrees counted rfl)
          · exact refile_agrees counted rfl
    · exact agrees

theorem endingStep_agrees (w : BoundaryWork) (s : State) (g : EndingGroup) (agrees : s.calendarAgrees) :
    (endingStep w s g).calendarAgrees := by
  cases g with
  | ended => exact foldl_keeps endFrameOne_agrees _ _ agrees
  | missed => exact foldl_keeps resolveOne_agrees _ _ agrees
  | dropped => exact foldl_keeps (launchOne_agrees _) _ _ agrees

theorem boundaryEvent_agrees (agrees : s.calendarAgrees) (order : EndingOrder) : (s.boundaryEvent order).calendarAgrees := by
  unfold boundaryEvent
  dsimp only
  refine calendarAgrees_of_dlv (dlv_foldl (f := moveMaps _) (fun _ _ => rfl) ..) (foldl_keeps (endingStep_agrees _) _ _ ?_)
  refine calendarAgrees_of_dlv ?_ agrees
  rw [withBld_dlv, dlv_foldl (f := handOverGroup _) (fun _ _ => rfl), (ZonesOnly.foldl keyZone_zonesOnly ..).dlv,
    (ZonesOnly.foldl startPlan_zonesOnly ..).dlv]

/-! ### The build -/

theorem place_agrees {x : Serial} {cand : GroupSet} (agrees : s.calendarAgrees) :
    (s.place n d x cand).calendarAgrees := by
  rw [place_eq]
  have but := unfile_agreesBut (calendarAgrees_of_dlv (s.offered_dlv n d x cand) agrees) n
  rw [calendarAgrees_iff_but (n := n) (by simp [live_setLive, Delivery.placed, DeliveryState.waiting])]
  exact setRecord_agreesBut but _

theorem visit_agrees (agrees : s.calendarAgrees) (waits : ∀ d, s.live n = some d → d.state.waiting = true) (x : Serial) :
    (visit x s n).calendarAgrees := by
  unfold visit
  split
  · exact agrees
  · rename_i d live
    split
    · exact agrees
    split
    · exact endDelivery_agrees agrees
    split
    · unfold tryPlace
      dsimp only
      split
      · exact place_agrees agrees
      · exact refile_agrees agrees (waits d live)
    · exact refile_agrees agrees (waits d live)

/-- The walk visits each entry of its list once, so that each is visited as it stood in the list (R76). -/
theorem walk_agrees (x : Serial) {l : List Nat} (nodup : l.Nodup) (agrees : s.calendarAgrees)
    (waits : ∀ n ∈ l, ∀ d, s.live n = some d → d.state.waiting = true) : (l.foldl (visit x) s).calendarAgrees := by
  induction l generalizing s with
  | nil => exact agrees
  | cons n l ih =>
    obtain ⟨new, rest⟩ := List.nodup_cons.1 nodup
    refine ih rest (visit_agrees agrees (waits n List.mem_cons_self) x) fun m hm d live => ?_
    have other : m ≠ n := fun h => new (h ▸ hm)
    rw [(Touched.visit x s n).live (by simpa using other)] at live
    exact waits m (List.mem_cons_of_mem _ hm) d live

theorem build_agrees (agrees : s.calendarAgrees) (x : Serial) : (s.build x).calendarAgrees := by
  unfold build
  dsimp only
  have opened := calendarAgrees_of_dlv (dlv_foldl openGroup_dlv groupNumbers s) agrees
  obtain ⟨nodup, listed⟩ := opened (frameNumber x)
  refine calendarAgrees_of_dlv (dlv_foldl completeGroup_dlv ..) (walk_agrees x nodup opened fun n hn d live => ?_)
  obtain ⟨e, found, waiting, -⟩ := (listed n).1 hn
  cases live.symm.trans found
  exact waiting

theorem buildPointEvent_agrees (agrees : s.calendarAgrees) : s.buildPointEvent.calendarAgrees := by
  unfold buildPointEvent
  dsimp only
  have planned := calendarAgrees_of_dlv s.zoneBuildPoint_zonesOnly.dlv agrees
  split
  · exact build_agrees planned _
  · exact planned

/-! ### Return records -/

theorem takeReceipt_agrees {zone frame slot reply : Nat} {check : Byte} (agrees : s.calendarAgrees) :
    (s.takeReceipt zone frame slot reply check).calendarAgrees := by
  unfold takeReceipt
  split
  · exact calendarAgrees_of_dlv rfl agrees
  · exact calendarAgrees_of_dlv rfl agrees
  · exact calendarAgrees_of_dlv rfl agrees
  · rw [deliver_eq]
    refine endDelivery_agrees (calendarAgrees_of_dlv ?_ agrees)
    exact s.writeAttempt_dlv ..

theorem checkInOne_agrees (k : Nat) (s : State) (n : Nat) (agrees : s.calendarAgrees) :
    (checkInOne k s n).calendarAgrees := by
  unfold checkInOne
  split
  · exact agrees
  · rename_i d live
    have still (x : DeliveryState) (state : d.state = x) (idle : x.waiting = false) (o : Option Attempt) :
        (s.setLive n { d with last := o }).calendarAgrees :=
      setLive_agrees agrees (fun e he => by cases live.symm.trans he; rw [state]; exact idle) (by rw [state]; exact idle)
    split
    · split
      · rename_i retryWait
        exact refile_agrees agrees (by rw [retryWait]; rfl)
      · exact still _ ‹_› rfl _
      · exact still _ ‹_› rfl _
      · exact agrees
      · exact agrees
    · exact agrees

theorem takeCheckIn_agrees {zone : Nat} {a : Word} {x : Serial} {g : Option Nat} (agrees : s.calendarAgrees) :
    (s.takeCheckIn zone a x g).calendarAgrees := by
  unfold takeCheckIn
  dsimp only
  split
  · exact calendarAgrees_of_dlv rfl agrees
  · exact foldl_keeps (checkInOne_agrees _) _ _ (calendarAgrees_of_dlv rfl agrees)

/-! ### Submissions and the ends of many deliveries -/

theorem enroll_agrees (agrees : s.calendarAgrees) (free : s.live n = none) (waiting : d.state.waiting = true) :
    (s.enroll n d).calendarAgrees := by
  unfold enroll
  dsimp only
  refine file_agrees (calendarAgreesBut_congr (s := s.setRecord n { issue := (s.record n).issue + 1, live := none })
    (fun _ => rfl) (fun _ _ => rfl) (setRecord_agreesBut ((calendarAgrees_iff_but ?_).1 agrees) _)) waiting
  simp [free]

theorem accept_agrees {k : Nat} {x : Submission} {o : Option Nat} (agrees : s.calendarAgrees)
    (checked : s.intakeCheck k x o.isSome = none) : (s.accept k x o).state.calendarAgrees := by
  have same : (s.takeBody x o).1.dlv = s.dlv := s.takeBody_dlv x o
  refine enroll_agrees (calendarAgrees_of_dlv same agrees) ?_ rfl
  rw [State.live, record, same]
  obtain ⟨-, -, -, table, -⟩ := intakeCheck_passed checked
  exact live_freeDelivery table

theorem revertOne_agrees (s : State) (n : Nat) (agrees : s.calendarAgrees) : (revertOne s n).calendarAgrees := by
  unfold revertOne
  split
  · split
    · exact revert_agrees agrees
    · exact agrees
  · exact agrees

theorem cancelOne_agrees (s : State) (n : Nat) (agrees : s.calendarAgrees) : (cancelOne s n).calendarAgrees := by
  unfold cancelOne
  split
  · exact endDelivery_agrees agrees
  · exact agrees

theorem resetBlocks_agrees (s : State) : s.resetBlocks.calendarAgrees :=
  calendarAgrees_of_dlv (s := State.reset) rfl reset_calendarAgrees

end State

/-! ### The requests and the commands -/

/-- A service that keeps the calendar exact. -/
def KeepsCalendar (serve : List Byte → State → State × Answer) : Prop :=
  ∀ p s, s.calendarAgrees → (serve p s).1.calendarAgrees

theorem LeavesDeliveries.keepsCalendar {serve : List Byte → State → State × Answer} (h : LeavesDeliveries serve) :
    KeepsCalendar serve := fun p s agrees => State.calendarAgrees_of_dlv (h p s) agrees

theorem ReadsOnly.keepsCalendar {serve : List Byte → State → State × Answer} (h : ReadsOnly serve) :
    KeepsCalendar serve := h.leavesDeliveries.keepsCalendar

theorem serveSubmitPage_keepsCalendar : KeepsCalendar serveSubmitPage := by
  intro p s agrees
  unfold serveSubmitPage
  split
  · exact agrees
  split
  · exact agrees
  · exact State.accept_agrees agrees ‹_›

theorem takeMember_agrees (x : Submission) (g : GroupProgress) (n : Nat) (agrees : g.state.calendarAgrees) :
    (takeMember x g n).state.calendarAgrees := by
  cases checked : g.state.intakeCheck n x g.body.isSome with
  | some status => rw [takeMember_of_refused checked]; exact agrees
  | none => rw [takeMember_of_passed checked]; exact State.accept_agrees agrees checked

theorem serveSubmitGroupPage_keepsCalendar : KeepsCalendar serveSubmitGroupPage := by
  intro p s agrees
  unfold serveSubmitGroupPage
  split
  · exact agrees
  rename_i list x _
  dsimp only
  have members (l : List Nat) (g : GroupProgress) (h : g.state.calendarAgrees) :
      (l.foldl (takeMember x) g).state.calendarAgrees := by
    induction l generalizing g with
    | nil => exact h
    | cons n l ih => exact ih _ (takeMember_agrees x g n h)
  exact members list _ agrees

theorem serveCancel_keepsCalendar : KeepsCalendar serveCancel := by
  intro p s agrees
  unfold serveCancel
  split
  · exact agrees
  dsimp only
  split
  · exact agrees
  split
  · exact State.endDelivery_agrees agrees
  · exact agrees

theorem serveStartClock_keepsCalendar : KeepsCalendar serveStartClock := by
  intro p s agrees
  unfold serveStartClock
  split
  · exact agrees
  split
  · exact agrees
  · exact State.boundaryEvent_agrees (s := s.withClk s.clk.start) (State.calendarAgrees_of_dlv rfl agrees) _

theorem serveAirOff_keepsCalendar : KeepsCalendar serveAirOff := by
  intro p s agrees
  unfold serveAirOff
  split
  · exact agrees
  split
  · exact agrees
  · exact agrees
  · exact State.calendarAgrees_of_dlv (State.dlv_foldl (f := discardNext) (fun _ _ => rfl) ..)
      (State.foldl_keeps State.revertOne_agrees _ _ (State.calendarAgrees_of_dlv rfl agrees))

theorem serveTrafficReset_keepsCalendar : KeepsCalendar serveTrafficReset := by
  intro p s agrees
  unfold serveTrafficReset
  split
  · exact agrees
  · exact State.calendarAgrees_of_dlv
      ((State.dlv_foldl (f := emptyNext) (fun _ _ => rfl) ..).trans (State.dlv_foldl (f := emptyMaps) (fun _ _ => rfl) ..))
      (State.foldl_keeps State.cancelOne_agrees _ _ agrees)

theorem serveFullReset_keepsCalendar : KeepsCalendar serveFullReset := by
  intro p s agrees
  unfold serveFullReset
  split
  · exact agrees
  · exact s.resetBlocks_agrees

theorem event_keepsCalendar {u t : State} (agrees : u.calendarAgrees) (h : event u = .next t) : t.calendarAgrees := by
  cases h
  exact State.calendarAgrees_of_dlv rfl agrees

/-- A request command keeps the calendar exact as its service does. -/
theorem request_keepsCalendar {kind tag : Byte} {p : List Byte} {serve : List Byte → State → State × Answer} {s t : State}
    (serves : KeepsCalendar serve) (agrees : s.calendarAgrees) (h : request kind tag p serve s = .next t) :
    t.calendarAgrees := by
  obtain ⟨u, reached, idle | ⟨-, served⟩⟩ := request_cases kind tag p serve s
  all_goals
    have arrived : u.calendarAgrees := by
      rcases reached with rfl | rfl
      · exact agrees
      · rw [arrival_eq]; exact State.calendarAgrees_of_dlv rfl agrees
  · cases idle.symm.trans h
    exact State.calendarAgrees_of_dlv rfl arrived
  · cases served.symm.trans h
    exact State.calendarAgrees_of_dlv rfl (serves p u.taken (State.calendarAgrees_of_dlv rfl arrived))

/-- An event at a moment of the frame, where the frame reaches it. -/
theorem atMoment_keepsCalendar {s t : State} {q : Nat} {f : State → Host.Outcome State Fault Refusal}
    (acts : ∀ u, u.calendarAgrees → f u = .next t → t.calendarAgrees) (agrees : s.calendarAgrees)
    (h : (match s.atMoment q with | some u => f u | none => event s) = .next t) : t.calendarAgrees := by
  cases moment : s.atMoment q with
  | none => simp only [moment] at h; exact event_keepsCalendar agrees h
  | some u =>
    simp only [moment] at h
    refine acts u (State.calendarAgrees_of_dlv ?_ agrees) h
    unfold State.atMoment at moment
    split at moment
    · cases moment; rfl
    · cases moment

/-- A command that leaves every delivery alone. -/
theorem event_leaves {s u t : State} (agrees : s.calendarAgrees) (h : event u = .next t) (leaves : u.dlv = s.dlv := by rfl) :
    t.calendarAgrees := event_keepsCalendar (State.calendarAgrees_of_dlv leaves agrees) h

section Events

variable {s t : State}

theorem execUnknownKindRequest_agrees {kind tag : Byte} {p : List Byte} (agrees : s.calendarAgrees)
    (h : execUnknownKindRequest kind tag p s = .next t) : t.calendarAgrees := by
  unfold execUnknownKindRequest at h
  split at h
  · exact event_leaves agrees h
  · exact request_keepsCalendar (fun _ _ held => held) agrees h

theorem execFramingError_agrees (agrees : s.calendarAgrees) (h : execFramingError s = .next t) : t.calendarAgrees := by
  unfold execFramingError at h
  split at h
  · exact event_leaves agrees h (by rw [enterLinkError_eq]; rfl)
  · exact event_leaves agrees h (by rw [enterLinkError_eq]; rfl)
  · exact event_leaves agrees h

theorem execBoundary_agrees {order : EndingOrder} (agrees : s.calendarAgrees) (h : execBoundary order s = .next t) :
    t.calendarAgrees :=
  atMoment_keepsCalendar (fun u held hu => event_keepsCalendar
    (State.boundaryEvent_agrees (s := u.withClk u.clk.nextFrame) (State.calendarAgrees_of_dlv rfl held) order) hu) agrees h

theorem execBuildPoint_agrees (agrees : s.calendarAgrees) (h : execBuildPoint s = .next t) : t.calendarAgrees := by
  refine atMoment_keepsCalendar (fun u held hu => ?_) agrees h
  split at hu
  · exact event_leaves agrees hu
  · exact event_keepsCalendar (State.buildPointEvent_agrees (s := u.withClk { u.clk with buildPassed := true })
      (State.calendarAgrees_of_dlv rfl held)) hu

theorem execWordOffer_agrees {k : Nat} (agrees : s.calendarAgrees) (h : execWordOffer k s = .next t) : t.calendarAgrees := by
  unfold execWordOffer at h
  split at h
  · exact atMoment_keepsCalendar (fun u held hu => event_leaves held hu
      (State.ZonesOnly.foldl (State.offerAt_zonesOnly k) ..).dlv) agrees h
  · exact event_leaves agrees h

theorem execDataFieldEnd_agrees {k : Nat} (agrees : s.calendarAgrees) (h : execDataFieldEnd k s = .next t) :
    t.calendarAgrees := by
  unfold execDataFieldEnd at h
  split at h
  · exact atMoment_keepsCalendar (fun u held hu => event_leaves held hu
      (State.ZonesOnly.foldl (State.judgeAt_zonesOnly k) ..).dlv) agrees h
  · exact event_leaves agrees h

theorem execWordTaken_agrees {z : Fin 8} (agrees : s.calendarAgrees) (h : execWordTaken z s = .next t) :
    t.calendarAgrees := by
  unfold execWordTaken at h
  dsimp only at h
  split at h
  · exact event_leaves agrees h
  · exact event_leaves agrees h

theorem execReturnRecordArrival_agrees {z : Fin 8} {l : List Byte} (agrees : s.calendarAgrees)
    (h : execReturnRecordArrival z l s = .next t) : t.calendarAgrees := by
  unfold execReturnRecordArrival at h
  dsimp only at h
  split at h
  · exact event_leaves agrees h
  · split at h
    · exact event_leaves agrees h
    · exact event_leaves agrees h

theorem execReceiptTaken_agrees {z : Fin 8} (agrees : s.calendarAgrees) (h : execReceiptTaken z s = .next t) :
    t.calendarAgrees := by
  unfold execReceiptTaken at h
  split at h
  · rename_i rest _
    exact event_keepsCalendar (State.takeReceipt_agrees (s := s.setQueue z.val rest) (State.calendarAgrees_of_dlv rfl agrees)) h
  · exact event_leaves agrees h

theorem execCheckInTaken_agrees {z : Fin 8} (agrees : s.calendarAgrees) (h : execCheckInTaken z s = .next t) :
    t.calendarAgrees := by
  unfold execCheckInTaken at h
  split at h
  · rename_i rest _
    exact event_keepsCalendar (State.takeCheckIn_agrees (s := s.setQueue z.val rest) (State.calendarAgrees_of_dlv rfl agrees)) h
  · exact event_leaves agrees h

theorem execTick_agrees (agrees : s.calendarAgrees) (h : execTick s = .next t) : t.calendarAgrees := by
  unfold execTick at h
  split at h
  · exact event_leaves agrees h
  · exact event_leaves agrees h

end Events

/-- Every command keeps the calendar exact. -/
theorem exec_keepsCalendar {c : Instr} {s t : State} (agrees : s.calendarAgrees) (h : exec c s = .next t) :
    t.calendarAgrees := by
  cases c with
  | assignSubscriber tag p => exact request_keepsCalendar serveAssignSubscriber_leavesDeliveries.keepsCalendar agrees h
  | modifySubscriber tag p => exact request_keepsCalendar serveModifySubscriber_leavesDeliveries.keepsCalendar agrees h
  | suspend tag p => exact request_keepsCalendar serveSuspend_leavesDeliveries.keepsCalendar agrees h
  | resume tag p => exact request_keepsCalendar serveResume_leavesDeliveries.keepsCalendar agrees h
  | release tag p => exact request_keepsCalendar serveRelease_leavesDeliveries.keepsCalendar agrees h
  | querySubscriber tag p => exact request_keepsCalendar serveQuerySubscriber_readsOnly.keepsCalendar agrees h
  | openAccount tag p => exact request_keepsCalendar serveOpenAccount_leavesDeliveries.keepsCalendar agrees h
  | adjustAccount tag p => exact request_keepsCalendar serveAdjustAccount_leavesDeliveries.keepsCalendar agrees h
  | setCredit tag p => exact request_keepsCalendar serveSetCredit_leavesDeliveries.keepsCalendar agrees h
  | setTariffClass tag p => exact request_keepsCalendar serveSetTariffClass_leavesDeliveries.keepsCalendar agrees h
  | lock tag p => exact request_keepsCalendar serveLock_leavesDeliveries.keepsCalendar agrees h
  | unlock tag p => exact request_keepsCalendar serveUnlock_leavesDeliveries.keepsCalendar agrees h
  | close tag p => exact request_keepsCalendar serveClose_leavesDeliveries.keepsCalendar agrees h
  | queryAccount tag p => exact request_keepsCalendar serveQueryAccount_readsOnly.keepsCalendar agrees h
  | loadTariff tag p => exact request_keepsCalendar serveLoadTariff_leavesDeliveries.keepsCalendar agrees h
  | queryTariff tag p => exact request_keepsCalendar serveQueryTariff_readsOnly.keepsCalendar agrees h
  | setPriorityProfile tag p => exact request_keepsCalendar serveSetPriorityProfile_leavesDeliveries.keepsCalendar agrees h
  | queryProfile tag p => exact request_keepsCalendar serveQueryProfile_readsOnly.keepsCalendar agrees h
  | submitPage tag p => exact request_keepsCalendar serveSubmitPage_keepsCalendar agrees h
  | submitGroupPage tag p => exact request_keepsCalendar serveSubmitGroupPage_keepsCalendar agrees h
  | queryStore tag p => exact request_keepsCalendar serveQueryStore_readsOnly.keepsCalendar agrees h
  | cancel tag p => exact request_keepsCalendar serveCancel_keepsCalendar agrees h
  | queryDelivery tag p => exact request_keepsCalendar serveQueryDelivery_readsOnly.keepsCalendar agrees h
  | queryClock tag p => exact request_keepsCalendar serveQueryClock_readsOnly.keepsCalendar agrees h
  | setClock tag p => exact request_keepsCalendar serveSetClock_leavesDeliveries.keepsCalendar agrees h
  | startClock tag p => exact request_keepsCalendar serveStartClock_keepsCalendar agrees h
  | stopClock tag p => exact request_keepsCalendar serveStopClock_leavesDeliveries.keepsCalendar agrees h
  | setTrim tag p => exact request_keepsCalendar serveSetTrim_leavesDeliveries.keepsCalendar agrees h
  | setZone tag p => exact request_keepsCalendar serveSetZone_leavesDeliveries.keepsCalendar agrees h
  | setGroup tag p => exact request_keepsCalendar serveSetGroup_leavesDeliveries.keepsCalendar agrees h
  | clearZoneFlags tag p => exact request_keepsCalendar serveClearZoneFlags_leavesDeliveries.keepsCalendar agrees h
  | queryZone tag p => exact request_keepsCalendar serveQueryZone_readsOnly.keepsCalendar agrees h
  | airOn tag p => exact request_keepsCalendar serveAirOn_leavesDeliveries.keepsCalendar agrees h
  | airOff tag p => exact request_keepsCalendar serveAirOff_keepsCalendar agrees h
  | queryAir tag p => exact request_keepsCalendar serveQueryAir_readsOnly.keepsCalendar agrees h
  | queryReceipts tag p => exact request_keepsCalendar serveQueryReceipts_readsOnly.keepsCalendar agrees h
  | takeUsage tag p => exact request_keepsCalendar serveTakeUsage_leavesDeliveries.keepsCalendar agrees h
  | setWatermark tag p => exact request_keepsCalendar serveSetWatermark_leavesDeliveries.keepsCalendar agrees h
  | queryJournal tag p => exact request_keepsCalendar serveQueryJournal_readsOnly.keepsCalendar agrees h
  | trafficReset tag p => exact request_keepsCalendar serveTrafficReset_keepsCalendar agrees h
  | queryLink tag p => exact request_keepsCalendar serveQueryLink_leavesDeliveries.keepsCalendar agrees h
  | fullReset tag p => exact request_keepsCalendar serveFullReset_keepsCalendar agrees h
  | unknownKindRequest kind tag p => exact execUnknownKindRequest_agrees agrees h
  | powerOn rate => exact event_keepsCalendar (u := s.resetBlocks.withLnk (.powerOn rate)) s.resetBlocks_agrees h
  | inboundByte b => exact event_leaves (u := s.receive b) agrees h (by rw [receive_eq]; rfl)
  | framingError => exact execFramingError_agrees agrees h
  | breakLine => exact event_leaves (u := s.withLnk { s.lnk with receiver := .hunt, assembling := [] }) agrees h
  | recordTransmissionEnd => exact event_leaves (u := s.withLnk { s.lnk with sending := none }) agrees h
  | boundary order => exact execBoundary_agrees agrees h
  | buildPoint => exact execBuildPoint_agrees agrees h
  | markEdge => exact event_leaves (u := s.withClk s.clk.mark) agrees h
  | alarmEdge z high => exact event_leaves (u := s.followAlarm _ _) agrees h (s.zonesOnly_of_followAlarm ..).dlv
  | wordOffer k => exact execWordOffer_agrees agrees h
  | wordTaken z => exact execWordTaken_agrees agrees h
  | dataFieldEnd k => exact execDataFieldEnd_agrees agrees h
  | returnRecordArrival z l => exact execReturnRecordArrival_agrees agrees h
  | receiptTaken z => exact execReceiptTaken_agrees agrees h
  | checkInTaken z => exact execCheckInTaken_agrees agrees h
  | tick => exact execTick_agrees agrees h

/-- Settles O58: each command keeps the lists exact, event by event on the deliveries that it touches. -/
theorem stepKeepsCalendar : Obligations.StepKeepsCalendar := by
  unfold Obligations.StepKeepsCalendar
  intro s t agrees h
  unfold step at h
  split at h
  · cases h; exact agrees
  · rename_i rest _
    exact exec_keepsCalendar (s := s.withPending rest) (State.calendarAgrees_of_dlv rfl agrees) h

end Sys2Proof.Machine
end

section
/-! PROOFS. CANCEL (R86), and the place at which a delivery is filed in its calendar list (R73, R74). -/

namespace Sys2Proof.Machine

/-! ### CANCEL (R86) -/

theorem serveCancel_of_unnamed {k : Ticket} (small : k.number < 65536) {s : State} (unnamed : s.named k = none) :
    serveCancel (ticket3 k) s = refuse s .noSuch := by
  have read : getTicket (ticket3 k) 0 = k := by simpa using getTicket_ticket3 small []
  simp [serveCancel, read, unnamed]

theorem serveCancel_of_named {k : Ticket} (small : k.number < 65536) {s : State} {d : Delivery} (named : s.named k = some d) :
    serveCancel (ticket3 k) s =
      if d.state.waiting = true then
        (s.endDelivery k.number d .cancelled .request, .accept (ticket3 k ++ num1 d.attemptsMade ++ num1 d.deferrals))
      else refuse s .inFlight := by
  have read : getTicket (ticket3 k) 0 = k := by simpa using getTicket_ticket3 small []
  simp [serveCancel, read, named]

/-- Settles O28: the delivery that the ticket names is withdrawn where it waits, by its state. -/
theorem cancelWithdrawsWaitingDelivery : Obligations.CancelWithdrawsWaitingDelivery := by
  unfold Obligations.CancelWithdrawsWaitingDelivery
  refine ⟨fun s tag k small ready => ⟨fun unnamed => ?unnamed, fun d named state => ?inFlight, fun d named state => ?waiting⟩,
    fun s tag p ready length => ?malformed⟩
  case unnamed => exact refuses_of_served (serve := serveCancel) rfl ready (serveCancel_of_unnamed small unnamed)
  case inFlight =>
    have idle : ¬d.state.waiting = true := by obtain h | h | h := state <;> simp [h, DeliveryState.waiting]
    exact refuses_of_served (serve := serveCancel) rfl ready ((serveCancel_of_named (s := s.taken) small named).trans (if_neg idle))
  case waiting =>
    have waits : d.state.waiting = true := by obtain h | h := state <;> simp [h, DeliveryState.waiting]
    exact exec_of_served (serve := serveCancel) rfl ready ((serveCancel_of_named (s := s.taken) small named).trans (if_pos waits))
  case malformed => exact refuses_of_served (serve := serveCancel) rfl ready (if_pos length)

/-! ### The order of a calendar list (R73, R74) -/

/-- Calendar order between two deliveries: by priority, and within one priority by order key in serial order (R74). -/
def Delivery.Ordered (e f : Delivery) : Prop :=
  e.priority.code < f.priority.code ∨ (e.priority = f.priority ∧ (f.orderKey - e.orderKey).toNat < 2 ^ 31)

theorem Priority.code_injective {p q : Priority} (h : p.code = q.code) : p = q := by
  cases p <;> cases q <;> simp_all [Priority.code]

theorem Delivery.precedes_iff (d e : Delivery) : d.precedes e = true ↔ d.Ordered e := by
  simp [precedes, Ordered, atOrBefore]

/-- The order key lies in the half of the counter that begins at `base` (R73). -/
def Delivery.KeyedFrom (base : Serial) (d : Delivery) : Prop := (d.orderKey - base).toNat < 2 ^ 31

/-- Within one half of the counter, one serial is at or before another exactly when it lies no further from the base. -/
theorem serial_le_iff {base a b : Serial} (ha : (a - base).toNat < 2 ^ 31) (hb : (b - base).toNat < 2 ^ 31) :
    (b - a).toNat < 2 ^ 31 ↔ (a - base).toNat ≤ (b - base).toNat := by
  bv_omega

theorem Delivery.Ordered.trans {base : Serial} {d e f : Delivery} (hd : d.KeyedFrom base) (he : e.KeyedFrom base)
    (hf : f.KeyedFrom base) (h : d.Ordered e) (g : e.Ordered f) : d.Ordered f := by
  unfold Ordered at *
  rw [serial_le_iff hd he] at h
  rw [serial_le_iff he hf] at g
  rw [serial_le_iff hd hf]
  obtain h | ⟨h, hk⟩ := h
  · obtain g | ⟨g, -⟩ := g
    · exact .inl (h.trans g)
    · exact .inl (g ▸ h)
  · obtain g | ⟨g, gk⟩ := g
    · exact .inl (h ▸ g)
    · exact .inr ⟨h.trans g, hk.trans gk⟩

/-- Of two deliveries one comes first. -/
theorem Delivery.ordered_of_not {base : Serial} {d e : Delivery} (hd : d.KeyedFrom base) (he : e.KeyedFrom base)
    (h : ¬d.Ordered e) : e.Ordered d := by
  unfold Ordered at *
  rw [serial_le_iff hd he] at h
  rw [serial_le_iff he hd]
  push Not at h
  obtain ⟨first, later⟩ := h
  obtain less | same := Nat.lt_or_eq_of_le first
  · exact .inl less
  · exact .inr ⟨Priority.code_injective same, (later (Priority.code_injective same).symm).le⟩

/-- The deliveries of a list stand in calendar order. -/
def State.InOrder (s : State) (l : List Nat) : Prop :=
  l.Pairwise (fun a b => ∀ e f, s.live a = some e → s.live b = some f → e.Ordered f)

/-- A delivery entered at its place keeps the list in order (R74). -/
theorem State.insertInList_inOrder {s : State} {n : Nat} {d : Delivery} {base : Serial} (live : s.live n = some d)
    (key : d.KeyedFrom base) {l : List Nat} (keys : ∀ m ∈ l, ∃ e, s.live m = some e ∧ e.KeyedFrom base) (order : s.InOrder l) :
    s.InOrder (insertInList s n d l) := by
  induction l with
  | nil => exact List.pairwise_singleton ..
  | cons m rest ih =>
    obtain ⟨e, found, keyed⟩ := keys m List.mem_cons_self
    obtain ⟨first, rest'⟩ := List.pairwise_cons.1 order
    have keys' (k : Nat) (hk : k ∈ rest) := keys k (List.mem_cons_of_mem _ hk)
    unfold insertInList
    simp only [found]
    split
    · rename_i before
      rw [Delivery.precedes_iff] at before
      refine List.pairwise_cons.2 ⟨fun k hk f g hf hg => ?_, order⟩
      cases live.symm.trans hf
      rcases List.mem_cons.1 hk with rfl | hk
      · cases found.symm.trans hg; exact before
      · obtain ⟨g', hg', keyed'⟩ := keys' k hk
        cases hg.symm.trans hg'
        exact before.trans key keyed keyed' (first k hk e g found hg)
    · rename_i after
      rw [Delivery.precedes_iff] at after
      refine List.pairwise_cons.2 ⟨fun k hk f g hf hg => ?_, ih keys' rest'⟩
      cases found.symm.trans hf
      rcases List.mem_cons.1 ((s.insertInList_perm n d rest).mem_iff.1 hk) with rfl | hk
      · cases live.symm.trans hg; exact Delivery.ordered_of_not key keyed after
      · exact first k hk e g found hg

/-- Settles O29: the delivery enters its list before the first that it precedes, and the half of the counter that holds the
order keys makes that order transitive. -/
theorem filingKeepsListOrder : Obligations.FilingKeepsListOrder := by
  unfold Obligations.FilingKeepsListOrder
  intro s n d base l hl unlisted keys key order
  have list : (s.file n d).calList (frameNumber d.due) = insertInList (s.setLive n d) n d l := by
    rw [State.calList_file, if_pos rfl, hl]
  have others (m : Nat) (hm : m ∈ l) : (s.setLive n d).live m = s.live m := by
    rw [State.live_setLive, if_neg]
    rintro rfl
    exact unlisted hm
  have order' : (s.setLive n d).InOrder l := order.imp_of_mem fun ha hb h e f he hf =>
    h e f ((others _ ha).symm.trans he) ((others _ hb).symm.trans hf)
  refine ⟨by rw [list]; exact State.insertInList_perm .., ?_, by decide, by decide⟩
  rw [list]
  exact State.insertInList_inOrder (s := s.setLive n d) (by rw [State.live_setLive, if_pos rfl]) key
    (fun m hm => by rw [others m hm]; exact keys m hm) order'

end Sys2Proof.Machine
end

section
/-! PROOFS. What becomes of one delivery when its placement is reverted (R79), when its frame ends (R81, R154), and when its
attempt was missed (R82, R151 to R153). -/

namespace Sys2Proof.Machine

namespace State

variable {s : State} {n : Nat} {d : Delivery}

/-! ### A re-filing, in time or late (R75) -/

theorem refile_of_inTime {due : Serial} (inTime : atOrBefore due d.deadline = true) :
    s.refile n d due = (s.unfile n).file n { d with due := due } := if_neg (by simp [beyond, inTime])

theorem refile_of_late {due : Serial} (late : atOrBefore due d.deadline = false) :
    s.refile n d due = s.endDelivery n d .expired .lifetime := if_pos (by simp [beyond, late])

theorem mem_calList_file (s : State) (n : Nat) (d : Delivery) : n ∈ (s.file n d).calList (frameNumber d.due) := by
  rw [calList_file, if_pos rfl, (insertInList_perm ..).mem_iff]
  exact List.mem_cons_self

/-- A delivery re-filed in time stands at its due serial, and nothing but the delivery table has changed. -/
theorem refile_inTime {due : Serial} (inTime : atOrBefore due d.deadline = true) :
    (s.refile n d due).live n = some { d with due := due } ∧ n ∈ (s.refile n d due).calList (frameNumber due) ∧
    (s.refile n d due).jnl = s.jnl ∧ (s.refile n d due).lnk = s.lnk := by
  rw [refile_of_inTime inTime]
  exact ⟨by rw [live_file, if_pos rfl], mem_calList_file .., by simp, by simp⟩

/-- An ending frees the record and writes its usage record. -/
theorem endDelivery_writes (s : State) (n : Nat) (d : Delivery) (e : Ending) (r : Reason) :
    (s.endDelivery n d e r).live n = none ∧
    (s.endDelivery n d e r).jnl.records = s.jnl.records ++ [s.usageOf n d e r] :=
  ⟨by rw [endDelivery_live, if_pos rfl], by rw [endDelivery_jnl]; rfl⟩

/-! ### A revert (R79) -/

@[simp] theorem writeAttempt_zon (x : Slot) (o : Option Attempt) : (s.writeAttempt x o).zon = s.zon := by
  cases o <;> simp [writeAttempt]

end State

/-- A revert undoes the placement as R79 says. -/
theorem Delivery.undone_eq (d : Delivery) (due : Serial) : { d.reverted with due := due } = d.undone due := by
  unfold Delivery.reverted Delivery.undone
  cases kind : d.kind with
  | oneWay => simp
  | twoWay =>
    by_cases second : 2 ≤ d.attemptsMade
    · have later : ¬d.attemptsMade - 1 = 0 := by omega
      simp [second, later]
    · have first : d.attemptsMade - 1 = 0 := by omega
      simp [second, first]

theorem Delivery.deadline_reverted (d : Delivery) : d.reverted.deadline = d.deadline := by
  unfold Delivery.reverted; cases d.kind <;> rfl

theorem Delivery.attemptsMade_reverted (d : Delivery) (due : Serial) : d.reverted.attemptsMade = (d.undone due).attemptsMade := by
  rw [← d.undone_eq]

namespace State

variable {s : State} {n : Nat} {d : Delivery}

/-- A revert: the slots are freed, and the delivery is re-filed with its placement undone. -/
theorem revert_eq_refile (s : State) (n : Nat) (d : Delivery) :
    s.revert n d = (s.writeAttempt .empty d.last).refile n d.reverted
      ((s.sub d.subscriber).nextEligible s.clk.earliestUnbuilt) := by
  rw [revert_eq, nextFor, writeAttempt_sub, writeAttempt_clk]

theorem revert_maps (s : State) (n : Nat) (d : Delivery) (g : Nat) :
    (s.revert n d).maps g = (s.writeAttempt .empty d.last).maps g := by
  rw [revert_eq_refile, State.maps, refile_rcp]; rfl

/-- Only the slots of the placement are freed, in the maps of its frame (R79). -/
theorem revert_rewritten (s : State) (n : Nat) (d : Delivery) (g : Nat) :
    (s.maps g).rewritten ((s.revert n d).maps g)
      (fun frame j => ∃ a, d.last = some a ∧ frame = a.serial ∧ (g, j) ∈ a.slots) .empty := by
  rw [revert_maps]
  cases last : d.last with
  | none => exact GroupMaps.rewritten_refl _ _ (by simp)
  | some a => exact GroupMaps.rewritten_congr (by simp) (maps_writeSlots a.serial .empty g a.slots s)

theorem writeAttempt_live (s : State) (x : Slot) (o : Option Attempt) (m : Nat) : (s.writeAttempt x o).live m = s.live m :=
  live_of_standing (s.standing_writeAttempt x o) m

end State

/-- Settles O30: the slots of the placement are written first, and what is left is a re-filing. -/
theorem revertUndoesPlacement : Obligations.RevertUndoesPlacement := by
  unfold Obligations.RevertUndoesPlacement
  intro s n d e a live placed last he
  have due : e.due = (s.sub d.subscriber).nextEligible s.clk.earliestUnbuilt := by rw [he]
  have undone : e = d.undone e.due := by rw [due, he]; rfl
  have revert := s.revert_eq_refile n d
  rw [← due] at revert
  have others := Touched.revert live d
  refine ⟨others.clk, others.zon, ?images, fun m hm => others.live (by simpa using hm), fun p hp m building serial => ?slots,
    fun inTime => ?filed, fun late => ?ended⟩
  case images => rw [revert, State.refile_bld, State.writeAttempt_bld]
  case slots =>
    have written := (s.revert_rewritten n d p.1).1
    rw [building] at written
    exact slot_of_rewrittenRole written ⟨a, last, serial, hp⟩
  case filed =>
    obtain ⟨filed, list, jnl, -⟩ := State.refile_inTime (s := s.writeAttempt .empty d.last) (n := n) (d := d.reverted)
      (due := e.due) (by rw [d.deadline_reverted]; exact inTime)
    rw [revert]
    exact ⟨filed.trans (by rw [d.undone_eq, ← undone]), list, jnl.trans (State.writeAttempt_jnl ..)⟩
  case ended =>
    rw [revert, State.refile_of_late (by rw [d.deadline_reverted]; exact late)]
    obtain ⟨free, jnl⟩ := (s.writeAttempt .empty d.last).endDelivery_writes n d.reverted .expired .lifetime
    refine ⟨free, _, jnl.trans (by rw [State.writeAttempt_jnl]), rfl, rfl, ?_⟩
    exact (d.attemptsMade_reverted e.due).trans (by rw [← undone])

/-! ### The end of a frame (R81, R154) -/

/-- The record of a ONE-WAY delivery with a repeat left after its frame, before it is filed (R81). -/
def Delivery.afterFrame (d : Delivery) : Delivery :=
  { d with repeatsLeft := d.repeatsLeft - 1, state := .queued, nextMark := .again }

section

variable {s : State} {n : Nat} {d : Delivery} (live : s.live n = some d)
include live

theorem endFrameOne_twoWay (state : d.state = .onAir) (kind : d.kind = .twoWay) :
    endFrameOne s n = s.setLive n { d with state := .awaitReceipt } := by
  simp [endFrameOne, live, state, kind]

theorem endFrameOne_last (state : d.state = .onAir) (kind : d.kind = .oneWay) (last : d.repeatsLeft ≤ 1) :
    endFrameOne s n = s.endDelivery n { d with repeatsLeft := d.repeatsLeft - 1 } .sent .none := by
  have used : d.repeatsLeft - 1 = 0 := by omega
  simp [endFrameOne, live, state, kind, used]

theorem endFrameOne_again (state : d.state = .onAir) (kind : d.kind = .oneWay) (more : 2 ≤ d.repeatsLeft) :
    endFrameOne s n = s.refile n d.afterFrame ((s.sub d.subscriber).nextEligible (s.clk.serial + 1)) := by
  have left : ¬d.repeatsLeft - 1 = 0 := by omega
  simp [endFrameOne, live, state, kind, left, State.nextFor, Delivery.afterFrame]

/-! ### A missed attempt (R82, R151 to R153) -/

variable {a : Attempt} (state : d.state = .awaitReceipt) (last : d.last = some a)
include state last

theorem resolveOne_last (none : d.attemptsLeft ≤ 1) :
    resolveOne s n = (s.countMiss.endDelivery n { d with attemptsLeft := 0 } .expired .attempts).countExpired := by
  simp [resolveOne, live, state, last, none]

/-- A delivery with attempts left is re-filed at its retry serial, in time or late. -/
theorem resolveOne_more (more : 2 ≤ d.attemptsLeft) {due : Serial}
    (hdue : due = (s.sub d.subscriber).nextEligible (s.retryFrom d a)) :
    resolveOne s n =
      if beyond due d.deadline then (s.countMiss.refile n (d.afterMiss a) due).countExpired
      else if d.noticeMode = .everyAttempt then
        (s.countMiss.refile n (d.afterMiss a) due).notice 0x82
          (attemptNoticeFields (s.ticket n) { d.afterMiss a with due := due } a)
      else s.countMiss.refile n (d.afterMiss a) due := by
  have left : ¬d.attemptsLeft ≤ 1 := by omega
  have counted : s.countMiss.nextFor d (s.countMiss.retryFrom d a) = due := by
    rw [hdue]; simp [State.nextFor, State.retryFrom, State.countMiss]
  have ticket : (s.countMiss.refile n (d.afterMiss a) due).ticket n = s.ticket n :=
    (Touched.refile (s := s.countMiss) (d := d) live _ due).ticket n
  simp [resolveOne, live, state, last, left, counted, ticket]

end

/-- The counters of the receipt unit after a missed attempt is resolved: one more miss, and one more expiry where it ends. -/
theorem countMiss_counters (s : State) :
    s.countMiss.rcp.counters = { s.rcp.counters with misses := s.rcp.counters.misses + 1 } := rfl

theorem State.retryFrom_eq (s : State) (d : Delivery) (a : Attempt) :
    s.retryFrom d a = if a.checkedIn then a.serial + 3
      else a.serial + 2 + BitVec.ofNat 32 (min ((s.profile d.priority).base * 2 ^ (d.attemptsMade - 1)) 256) := rfl

/-- Settles O31: the end of a frame and the resolution of a miss, each by the repeats or attempts left and by the deadline. -/
theorem frameEndsRepeatOrRetry : Obligations.FrameEndsRepeatOrRetry := by
  unfold Obligations.FrameEndsRepeatOrRetry
  refine ⟨fun s n d due live state kind hdue => ⟨fun last => ?sent, fun more inTime => ?again, fun more late => ?expired⟩,
    fun s n d a start due live state last hstart hdue => ?missed⟩
  case sent =>
    rw [endFrameOne_last live state kind last]
    obtain ⟨free, jnl⟩ := s.endDelivery_writes n { d with repeatsLeft := d.repeatsLeft - 1 } .sent .none
    exact ⟨free, _, jnl, rfl, rfl, rfl⟩
  case again =>
    rw [endFrameOne_again live state kind more, ← hdue]
    obtain ⟨filed, list, jnl, -⟩ := State.refile_inTime (s := s) (n := n) (d := d.afterFrame) inTime
    exact ⟨filed, list, jnl⟩
  case expired =>
    rw [endFrameOne_again live state kind more, ← hdue, State.refile_of_late (d := d.afterFrame) late]
    obtain ⟨free, jnl⟩ := s.endDelivery_writes n d.afterFrame .expired .lifetime
    exact ⟨free, _, jnl, rfl, rfl⟩
  case missed =>
    have hdue' : due = (s.sub d.subscriber).nextEligible (s.retryFrom d a) := by rw [hdue, hstart, s.retryFrom_eq]
    have more := fun more => resolveOne_more live state last more hdue'
    have counts (due : Serial) : (s.countMiss.refile n (d.afterMiss a) due).rcp = s.countMiss.rcp := State.refile_rcp ..
    refine ⟨?misses, fun none => ?_, fun left late => ?_, fun left inTime => ?_⟩
    case misses =>
      by_cases left : 2 ≤ d.attemptsLeft
      · rw [more left]
        split
        · rw [State.countExpired, State.counters_setCounters, counts]; rfl
        · split
          · rw [State.notice_rcp, counts]; rfl
          · rw [counts]; rfl
      · rw [resolveOne_last live state last (by omega), State.countExpired, State.counters_setCounters, State.endDelivery_rcp]
        rfl
    · rw [resolveOne_last live state last none]
      obtain ⟨free, jnl⟩ := s.countMiss.endDelivery_writes n { d with attemptsLeft := 0 } .expired .attempts
      refine ⟨free, ?_, _, jnl, rfl, rfl⟩
      rw [State.countExpired, State.counters_setCounters, State.endDelivery_rcp]
      rfl
    · rw [more left, if_pos (by simp [beyond, late]), State.refile_of_late (d := d.afterMiss a) late]
      obtain ⟨free, jnl⟩ := s.countMiss.endDelivery_writes n (d.afterMiss a) .expired .lifetime
      refine ⟨free, ?_, _, jnl, rfl, rfl⟩
      rw [State.countExpired, State.counters_setCounters, State.endDelivery_rcp]
      rfl
    · rw [more left, if_neg (by simp [beyond, inTime])]
      obtain ⟨filed, list, jnl, lnk⟩ := State.refile_inTime (s := s.countMiss) (n := n) (d := d.afterMiss a) (due := due) inTime
      have counted := congrArg (fun r => r.counters.expired) (counts due)
      by_cases notices : d.noticeMode = .everyAttempt
      · rw [if_pos notices]
        refine ⟨filed, list, jnl, counted, fun h => absurd notices h, fun _ => ?_⟩
        rw [State.notice_lnk, lnk]
        cases checked : a.checkedIn <;> simp [attemptNoticeFields, Delivery.afterMiss, checked, TxMark.code] <;> rfl
      · rw [if_neg notices]
        exact ⟨filed, list, jnl, counted, fun _ => lnk, fun h => absurd h notices⟩

end Sys2Proof.Machine
end

section
/-! PROOFS. The placed deliveries of the next images and what becomes of them when a frame begins or the air goes off: what each
leaves in its record, and the slots that it frees (R79, R80, R133, R134). -/

namespace Sys2Proof.Machine

/-! ### The live deliveries by number -/

namespace State

variable {s t : State}

theorem mem_liveWhere (wf : Table.wf .fresh s.dlv.records = true) (p : Delivery → Bool) (n : Nat) :
    n ∈ s.liveWhere p ↔ ∃ d, s.live n = some d ∧ p d = true := by
  rw [liveWhere, Table.mem_numbers wf rfl]
  show (match s.live n with | some d => p d | none => false) = true ↔ _
  cases s.live n <;> simp

theorem liveWhere_ascend (wf : Table.wf .fresh s.dlv.records = true) (p : Delivery → Bool) :
    (s.liveWhere p).Pairwise (· < ·) := Table.numbers_ascend wf _

theorem nodup_of_ascend {l : List Nat} (h : l.Pairwise (· < ·)) : l.Nodup := h.imp fun a => Nat.ne_of_lt a

theorem mem_placedNumbers (wf : Table.wf .fresh s.dlv.records = true) (n : Nat) :
    n ∈ s.placedNumbers ↔ s.inNextImage n = true ∧ ∃ d, s.live n = some d ∧ d.state = .placed := by
  rw [placedNumbers, List.mem_filter, mem_liveWhere wf, and_comm]
  simp

theorem placedNumbers_ascend (wf : Table.wf .fresh s.dlv.records = true) : s.placedNumbers.Pairwise (· < ·) :=
  (liveWhere_ascend wf _).filter _

theorem mem_missedNumbers (wf : Table.wf .fresh s.dlv.records = true) (n : Nat) :
    n ∈ s.missedNumbers ↔ s.missed n = true ∧ ∃ d, s.live n = some d ∧ d.state = .awaitReceipt := by
  rw [missedNumbers, List.mem_filter, mem_liveWhere wf, and_comm]
  simp

theorem missedNumbers_ascend (wf : Table.wf .fresh s.dlv.records = true) : s.missedNumbers.Pairwise (· < ·) :=
  (liveWhere_ascend wf _).filter _

end State

/-- Two ascending lists with the same members are the same. -/
theorem eq_of_ascend {l k : List Nat} (hl : l.Pairwise (· < ·)) (hk : k.Pairwise (· < ·)) (h : ∀ n, n ∈ l ↔ n ∈ k) :
    l = k :=
  ((List.perm_ext_iff_of_nodup (State.nodup_of_ascend hl) (State.nodup_of_ascend hk)).2 h).eq_of_pairwise
    (fun _ _ _ _ hab hba => absurd hab (Nat.lt_asymm hba)) hl hk

/-! ### Entries written one after another -/

/-- A read after each entry of a list was rewritten once, each from its own number and what it held, as long as the rest that
the writes depend on stands. -/
theorem read_foldl_rewrite {α : Type} {read : State → Nat → α} {f : State → Nat → State} {F : Nat → α → α}
    {P : State → Prop} (stands : ∀ s n, P s → P (f s n))
    (writes : ∀ s n k, P s → read (f s n) k = if k = n then F k (read s k) else read s k) {l : List Nat} (nodup : l.Nodup)
    {s : State} (hs : P s) (k : Nat) : read (l.foldl f s) k = if k ∈ l then F k (read s k) else read s k := by
  induction l generalizing s with
  | nil => simp
  | cons n l ih =>
    obtain ⟨new, rest⟩ := List.nodup_cons.1 nodup
    rw [List.foldl_cons, ih rest (stands s n hs), writes s n k hs]
    by_cases hk : k = n
    · subst k; simp [new]
    · simp [hk]

theorem nodup_groupNumbers : groupNumbers.Nodup := by decide

theorem nodup_zoneNumbers : zoneNumbers.Nodup := by decide

/-! ### One placed delivery -/

section

variable {s : State} {n : Nat} {d : Delivery} {kept : GroupSet}

theorem launchOne_idle (idle : ∀ d, s.live n = some d → d.state ≠ .placed) : launchOne kept s n = s := by
  unfold launchOne
  split
  · rfl
  · rw [if_neg (idle _ ‹_›)]

theorem launchOne_kept {a : Attempt} (live : s.live n = some d) (state : d.state = .placed) (last : d.last = some a)
    (stays : a.carried &&& kept ≠ 0) : launchOne kept s n = s.setLive n (d.launched kept) := by
  simp [launchOne, live, state, last, show ¬a.carried &&& kept = 0#4 from stays]

theorem launchOne_dropped (live : s.live n = some d) (state : d.state = .placed)
    (drops : ∀ a, d.last = some a → a.carried &&& kept = 0) : launchOne kept s n = s.revert n d := by
  have none_kept : (d.last.map (fun a => a.carried)).getD 0 &&& kept = 0 := by
    cases last : d.last with
    | none => simp
    | some a => exact drops a last
  simp only [launchOne, live, state, none_kept, if_pos]

/-- The delivery is placed and all its carried groups are dropped; the slot was claimed by its attempt of the frame (R134). -/
def Delivery.LosesSlot (d : Delivery) (kept : GroupSet) (g : Nat) (frame : Serial) (j : Nat) : Prop :=
  d.state = .placed ∧ ∃ a, d.last = some a ∧ a.carried &&& kept = 0 ∧ a.serial = frame ∧ (g, j) ∈ a.slots

theorem launchOne_rewritten (kept : GroupSet) (s : State) (n g : Nat) :
    (s.maps g).rewritten ((launchOne kept s n).maps g)
      (fun frame j => ∃ d, s.live n = some d ∧ d.LosesSlot kept g frame j) .empty := by
  by_cases placed : ∃ d, s.live n = some d ∧ d.state = .placed
  · obtain ⟨d, live, state⟩ := placed
    by_cases stays : ∃ a, d.last = some a ∧ a.carried &&& kept ≠ 0
    · obtain ⟨a, last, stays⟩ := stays
      rw [launchOne_kept live state last stays]
      refine GroupMaps.rewritten_refl _ _ fun frame j => ?_
      rintro ⟨e, he, -, b, hb, drops, -⟩
      cases live.symm.trans he
      cases last.symm.trans hb
      exact stays drops
    · push Not at stays
      rw [launchOne_dropped live state stays]
      refine GroupMaps.rewritten_congr (fun frame j => ⟨?_, ?_⟩) (s.revert_rewritten n d g)
      · rintro ⟨a, last, rfl, mem⟩
        exact ⟨d, live, state, a, last, stays a last, rfl, mem⟩
      · rintro ⟨e, he, -, a, last, -, rfl, mem⟩
        cases live.symm.trans he
        exact ⟨a, last, rfl, mem⟩
  · push Not at placed
    rw [launchOne_idle placed]
    refine GroupMaps.rewritten_refl _ _ fun frame j => ?_
    rintro ⟨d, live, state, -⟩
    exact placed d live state

theorem foldl_launchOne_rewritten (kept : GroupSet) {l : List Nat} (nodup : l.Nodup) (s : State) (g : Nat) :
    (s.maps g).rewritten ((l.foldl (launchOne kept) s).maps g)
      (fun frame j => ∃ n ∈ l, ∃ d, s.live n = some d ∧ d.LosesSlot kept g frame j) .empty := by
  induction l generalizing s with
  | nil => exact GroupMaps.rewritten_refl _ _ (by simp)
  | cons n l ih =>
    obtain ⟨new, rest⟩ := List.nodup_cons.1 nodup
    have same (m : Nat) (hm : m ∈ l) : (launchOne kept s n).live m = s.live m :=
      (Touched.launchOne kept s n).live (by simpa using fun h : m = n => new (h ▸ hm))
    refine GroupMaps.rewritten_congr (fun frame j => ?_) (GroupMaps.rewritten_trans (launchOne_rewritten kept s n g) (ih rest _))
    rw [or_comm]
    simp only [List.mem_cons, exists_eq_or_imp]
    refine or_congr_right (exists_congr fun m => and_congr_right fun hm => ?_)
    rw [same m hm]

theorem State.losesSlot_iff {s : State} (wf : Table.wf .fresh s.dlv.records = true) (kept : GroupSet) (g : Nat)
    (frame : Serial) (j : Nat) :
    (∃ n ∈ s.placedNumbers, ∃ d, s.live n = some d ∧ d.LosesSlot kept g frame j) ↔ s.losesSlot kept g frame j := by
  constructor
  · rintro ⟨n, listed, d, live, state, a, last, drops, serial, mem⟩
    exact ⟨n, d, a, live, state, ((State.mem_placedNumbers wf n).1 listed).1, last, drops, serial, mem⟩
  · rintro ⟨n, d, a, live, state, image, last, drops, serial, mem⟩
    exact ⟨n, (State.mem_placedNumbers wf n).2 ⟨image, d, live, state⟩, d, live, state, a, last, drops, serial, mem⟩

/-- To revert a delivery is to launch it in no group. -/
theorem revertOne_eq (s : State) (n : Nat) : revertOne s n = launchOne 0 s n := by
  unfold revertOne launchOne
  cases s.live n with
  | none => rfl
  | some d => simp

@[simp] theorem launchOne_bld (kept : GroupSet) (s : State) (n : Nat) : (launchOne kept s n).bld = s.bld := by
  unfold launchOne
  split
  · rfl
  · split
    · split
      · rw [State.revert_eq, State.refile_bld, State.writeAttempt_bld]
      · rfl
    · rfl

/-- A reverted delivery is the one R79 says. -/
theorem launchOne_refiled (live : s.live n = some d) (state : d.state = .placed)
    (drops : ∀ a, d.last = some a → a.carried &&& kept = 0) :
    s.refiled (launchOne kept s n) n (d.undone ((s.sub d.subscriber).nextEligible s.clk.earliestUnbuilt)) := by
  rw [launchOne_dropped live state drops, State.revert_eq_refile, ← d.undone_eq]
  exact (Touched.writeAttempt s .empty d.last).refiled_before (State.refile_refiled ..)

theorem launched_eq {a : Attempt} (last : d.last = some a) : d.launched kept = { d with
    state := .onAir,
    last := some { a with carried := a.carried &&& kept, slots := a.slots.filter (fun p => kept.getLsbD p.1) } } := by
  simp [Delivery.launched, last]

end

end Sys2Proof.Machine
end

section
/-! PROOFS. The boundary: what it turns before any delivery is touched (R93, R112, R113, R122, R133), and what each of its three
groups of endings does (R80 to R82, R134, R151, R154, R170). -/

namespace Sys2Proof.Machine

/-! ### Plans, keying, images and air -/

/-- A zone as the start of a frame leaves it (R113). -/
def Zone.atStart (r : Zone) (image : Bool) (serial : Serial) : Zone :=
  if r.inService && image then { r with keyed := true, wordsTaken := 0, wordsSerial := serial, offered := 0, port := none }
  else r.unkey

namespace State

/-- The plans have moved on (R112). -/
def begun (s : State) : State := groupNumbers.foldl startPlan s

/-- The zones of the frame that starts are keyed (R113). -/
def keyedUp (s : State) : State := zoneNumbers.foldl keyZone s.begun

/-- The groups launched by the boundary (R133). -/
def keptGroups (s : State) : GroupSet := s.begun.boundaryWork.kept

/-- The next images are launched or dropped (R133, R134). -/
def handedOver (s : State) : State := groupNumbers.foldl (handOverGroup s.keptGroups) s.keyedUp

/-- The boundary as it stands before any delivery is touched: plans moved on, zones keyed, images handed over, air turned. -/
def turned (s : State) : State := s.handedOver.withBld { s.handedOver.bld with air := s.handedOver.bld.air.atBoundary }

theorem boundaryEvent_eq (s : State) (o : EndingOrder) :
    s.boundaryEvent o =
      groupNumbers.foldl (moveMaps s.keptGroups) ((endingGroups o).foldl (endingStep s.begun.boundaryWork) s.turned) := by
  unfold boundaryEvent turned handedOver keyedUp keptGroups begun
  dsimp only

variable (s : State)

theorem begun_zonesOnly : s.ZonesOnly s.begun := ZonesOnly.foldl startPlan_zonesOnly _ _

theorem keyedUp_zonesOnly : s.ZonesOnly s.keyedUp := s.begun_zonesOnly.trans (ZonesOnly.foldl keyZone_zonesOnly _ _)

/-- A group after its next plan became its current one (R112). -/
theorem begun_group {g : Nat} (hg : g < 4) :
    s.begun.group g = { s.group g with current := (s.group g).next, next := none } :=
  (read_foldl_rewrite (read := State.group) (F := fun _ r => { r with current := r.next, next := none }) (P := fun _ => True)
    (fun _ _ _ => trivial) (fun s n k _ => by rw [startPlan, group_setGroup]; split <;> simp [*]) nodup_groupNumbers trivial
    g).trans (if_pos ((mem_groupNumbers g).2 hg))

theorem begun_zone (z : Nat) : s.begun.zone z = s.zone z :=
  foldl_fixed (f := startPlan) (read := fun s => s.zone z) (fun _ _ => rfl) _ _


@[simp] theorem begun_images (g : Nat) : s.begun.images g = s.images g :=
  foldl_fixed (f := startPlan) (read := fun s => s.images g) (fun _ _ => rfl) _ _

@[simp] theorem begun_clk : s.begun.clk = s.clk := foldl_fixed (f := startPlan) (read := State.clk) (fun _ _ => rfl) _ _

/-- A zone is a member of the plan that starts exactly when it was one of the next plan (R112). -/
theorem begun_member {g : Nat} (hg : g < 4) (z : Nat) :
    (s.begun.currentMembers g).getLsbD z = true ↔ ∃ p : Plan, (s.group g).next = some p ∧ p.members.getLsbD z = true := by
  rw [currentMembers, s.begun_group hg]
  cases (s.group g).next <;> simp

/-- A group is launched when it has an image for the frame and a member in service (R113, R133). -/
theorem kept_iff {g : Nat} (hg : g < 4) :
    s.keptGroups.getLsbD g = true ↔ (s.images g).next ≠ none ∧
      ∃ z < 8, (s.zone z).inService = true ∧ ∃ p : Plan, (s.group g).next = some p ∧ p.members.getLsbD z = true := by
  rw [keptGroups, boundaryWork, getLsbD_groupsWhere _ hg, launches, Bool.and_eq_true, begun_images, List.any_eq_true]
  simp only [Bool.and_eq_true, begun_zone, s.begun_member hg, mem_zoneNumbers, Option.isSome_iff_ne_none]
  exact and_congr_right fun _ => exists_congr fun z => and_congr_right fun _ => and_comm

/-- A group with an image for the frame that starts lists the zone (R113). -/
def imageFor (s : State) (z : Nat) : Bool :=
  groupNumbers.any (fun g => (s.images g).next.isSome && (s.currentMembers g).getLsbD z)

theorem begun_imageFor (z : Nat) :
    s.begun.imageFor z = true ↔
      ∃ g < 4, (s.images g).next ≠ none ∧ ∃ p : Plan, (s.group g).next = some p ∧ p.members.getLsbD z = true := by
  simp only [imageFor, List.any_eq_true, Bool.and_eq_true, begun_images, Option.isSome_iff_ne_none, mem_groupNumbers]
  exact exists_congr fun g => and_congr_right fun hg => and_congr_right fun _ => s.begun_member hg z

theorem keyedUp_zone {z : Nat} (hz : z < 8) :
    s.keyedUp.zone z = (s.zone z).atStart (s.begun.imageFor z) s.clk.serial := by
  have step := read_foldl_rewrite (read := State.zone) (f := keyZone)
    (F := fun z r => r.atStart (s.begun.imageFor z) s.clk.serial)
    (P := fun t => t.bld = s.begun.bld ∧ t.clk = s.begun.clk ∧ t.zon.groups = s.begun.zon.groups)
    (fun t n ⟨bld, clk, groups⟩ => by unfold keyZone; dsimp only; split <;> exact ⟨bld, clk, groups⟩)
    (fun t n k ⟨bld, clk, groups⟩ => by
      have image : t.imageFor n = s.begun.imageFor n := by simp [imageFor, images, currentMembers, group, bld, groups]
      have serial : t.clk.serial = s.clk.serial := by rw [clk, begun_clk]
      have key : t.toKey n = ((t.zone n).inService && s.begun.imageFor n) := by rw [← image]; rfl
      by_cases hk : k = n
      · subst k
        rw [if_pos rfl, Zone.atStart, ← key, keyZone, serial]
        split <;> simp
      · rw [if_neg hk, keyZone]
        split <;> simp [hk])
    nodup_zoneNumbers (s := s.begun) ⟨rfl, rfl, rfl⟩ z
  rw [if_pos ((mem_zoneNumbers z).2 hz), begun_zone] at step
  exact step

/-- Which zones are keyed for the frame that starts, and their counts of words taken (R113; log 9). -/
theorem keyedUp_keyed {z : Nat} (hz : z < 8) :
    ((s.keyedUp.zone z).keyed = true ↔ (s.zone z).inService = true ∧
      ∃ g < 4, (s.images g).next ≠ none ∧ ∃ p : Plan, (s.group g).next = some p ∧ p.members.getLsbD z = true) ∧
    ((s.keyedUp.zone z).keyed = true → (s.keyedUp.zone z).wordsTaken = 0 ∧ (s.keyedUp.zone z).wordsSerial = s.clk.serial) ∧
    ((s.keyedUp.zone z).keyed = false → (s.keyedUp.zone z).wordsTaken = (s.zone z).wordsTaken) := by
  rw [s.keyedUp_zone hz, ← begun_imageFor, Zone.atStart]
  cases (s.zone z).inService <;> cases s.begun.imageFor z <;> simp [Zone.unkey]

/-! ### What is turned -/

theorem keyedUp_images (g : Nat) : s.keyedUp.images g = s.images g := by
  obtain ⟨_, _, h⟩ := s.keyedUp_zonesOnly
  rw [h, images_withLnk, images_withZon]

theorem keyedUp_bld : s.keyedUp.bld = s.bld := by
  obtain ⟨_, _, h⟩ := s.keyedUp_zonesOnly
  rw [h, withLnk_bld, withZon_bld]

theorem handedOver_only : ∃ bld, s.handedOver = s.keyedUp.withBld bld := by
  have handed (l : List Nat) (t : State) : ∃ bld, l.foldl (handOverGroup s.keptGroups) t = t.withBld bld := by
    induction l generalizing t with
    | nil => exact ⟨t.bld, rfl⟩
    | cons g l ih =>
      obtain ⟨bld, rest⟩ := ih (handOverGroup s.keptGroups t g)
      exact ⟨bld, rest⟩
  exact handed groupNumbers s.keyedUp

/-- Before any delivery is touched a boundary has changed the zones and the images alone. -/
theorem turned_only : ∃ zon lnk bld, s.turned = ((s.withZon zon).withLnk lnk).withBld bld := by
  obtain ⟨zon, lnk, keyed⟩ := s.keyedUp_zonesOnly
  obtain ⟨bld, handed⟩ := s.handedOver_only
  exact ⟨zon, lnk, _, by rw [turned, handed, keyed, withBld_withBld]⟩

theorem turned_zon : s.turned.zon = s.keyedUp.zon := by
  obtain ⟨bld, handed⟩ := s.handedOver_only
  rw [turned, handed, withBld_zon, withBld_zon]

theorem turned_zone (z : Nat) : s.turned.zone z = s.keyedUp.zone z := by rw [zone, turned_zon, zone]

theorem turned_group {g : Nat} (hg : g < 4) :
    s.turned.group g = { s.group g with current := (s.group g).next, next := none } := by
  have keyed : s.keyedUp.group g = s.begun.group g :=
    foldl_fixed (f := keyZone) (read := fun s => s.group g)
      (fun s n => by unfold keyZone; dsimp only; split <;> rfl) zoneNumbers s.begun
  rw [group, turned_zon]
  exact keyed.trans (s.begun_group hg)

theorem images_withAir (a : AirState) (g : Nat) : (s.withBld { s.bld with air := a }).images g = s.images g := rfl

theorem turned_images {g : Nat} (hg : g < 4) : s.turned.images g = (s.images g).handOver (s.keptGroups.getLsbD g) := by
  have step : s.handedOver.images g = _ := read_foldl_rewrite (read := State.images) (f := handOverGroup s.keptGroups)
    (F := fun g r => r.handOver (s.keptGroups.getLsbD g)) (P := fun _ => True) (fun _ _ _ => trivial)
    (fun t n k _ => by rw [handOverGroup, images_setImages]; split <;> simp [*]) nodup_groupNumbers (s := s.keyedUp) trivial g
  rw [turned, images_withAir, step, if_pos ((mem_groupNumbers g).2 hg), keyedUp_images]

theorem turned_air : s.turned.bld.air = if s.bld.air = .stopping then .halted else s.bld.air := by
  have handed : s.handedOver.bld.air = s.keyedUp.bld.air :=
    foldl_fixed (f := handOverGroup s.keptGroups) (read := fun s => s.bld.air) (fun _ _ => rfl) groupNumbers s.keyedUp
  rw [turned, withBld_bld, handed, keyedUp_bld]
  cases s.bld.air <;> simp [AirState.atBoundary]

/-! ### The endings of a boundary -/

end State

/-- The deliveries of a group of endings, ascending (R170). -/
def BoundaryWork.list (w : BoundaryWork) : EndingGroup → List Nat
  | .ended => w.onAir
  | .missed => w.missed
  | .dropped => w.placed

namespace State

/-- What a group of endings does to one of its deliveries. -/
def endingOne (w : BoundaryWork) : EndingGroup → State → Nat → State
  | .ended => endFrameOne
  | .missed => resolveOne
  | .dropped => launchOne w.kept

theorem endingStep_eq (w : BoundaryWork) (s : State) (g : EndingGroup) :
    endingStep w s g = (w.list g).foldl (endingOne w g) s := by cases g <;> rfl

theorem endingOne_touched (w : BoundaryWork) (g : EndingGroup) (s : State) (n : Nat) : Touched [n] s (endingOne w g s n) := by
  cases g with
  | ended => exact .endFrameOne s n
  | missed => exact .resolveOne s n
  | dropped => exact .launchOne w.kept s n

theorem endingStep_touched (w : BoundaryWork) (s : State) (g : EndingGroup) : Touched (w.list g) s (endingStep w s g) := by
  rw [endingStep_eq]
  exact .foldl (endingOne_touched w g) _ _

theorem endings_touched (w : BoundaryWork) (l : List EndingGroup) (s : State) :
    Touched (l.flatMap w.list) s (l.foldl (endingStep w) s) := by
  induction l generalizing s with
  | nil => exact .refl s
  | cons g l ih => exact (endingStep_touched w s g).trans (ih _)

/-- The ending of one delivery comes between endings of others. -/
theorem endings_split {w : BoundaryWork} {l : List EndingGroup} {g : EndingGroup} {n : Nat} (nodup : l.Nodup) (mem : g ∈ l)
    (once : (w.list g).Nodup) (listed : n ∈ w.list g) (apart : ∀ h, h ≠ g → n ∉ w.list h) (s : State) :
    ∃ a b u, n ∉ a ∧ n ∉ b ∧ Touched a s u ∧ Touched b (endingOne w g u n) (l.foldl (endingStep w) s) := by
  obtain ⟨a, b, rfl⟩ := List.append_of_mem mem
  rw [List.nodup_middle, List.nodup_cons, List.mem_append, not_or] at nodup
  have others {k : List EndingGroup} (hk : g ∉ k) : n ∉ k.flatMap w.list := by
    rw [List.mem_flatMap]
    rintro ⟨h, hh, hn⟩
    exact apart h (fun e => hk (e ▸ hh)) hn
  obtain ⟨c, d, u, hc, hd, before, after⟩ :=
    Touched.foldl_split (endingOne_touched w g) once listed (a.foldl (endingStep w) s)
  refine ⟨a.flatMap w.list ++ c, d ++ b.flatMap w.list, u, ?_, ?_, (endings_touched w a s).trans before, ?_⟩
  · simp [others nodup.1.1, hc]
  · simp [others nodup.1.2, hd]
  · rw [List.foldl_append, List.foldl_cons, endingStep_eq]
    exact after.trans (endings_touched w b _)

theorem endFrameOne_bld (s : State) (n : Nat) : (endFrameOne s n).bld = s.bld := by
  unfold endFrameOne
  split
  · rfl
  · split
    · split
      · rfl
      · dsimp only
        split <;> simp
    · rfl

theorem endFrameOne_rcp (s : State) (n : Nat) : (endFrameOne s n).rcp = s.rcp := by
  unfold endFrameOne
  split
  · rfl
  · split
    · split
      · rfl
      · dsimp only
        split <;> simp
    · rfl

/-- The resolution of a miss writes no image and no map. -/
theorem resolveOne_bld_maps (s : State) (n : Nat) :
    (resolveOne s n).bld = s.bld ∧ ∀ g, (resolveOne s n).maps g = s.maps g := by
  unfold resolveOne
  split
  · exact ⟨rfl, fun _ => rfl⟩
  · split
    · dsimp only
      have maps (t : State) (h : t.rcp = s.countMiss.rcp) (g : Nat) : t.maps g = s.maps g := by rw [State.maps, h]; rfl
      split
      · exact ⟨by simp [countExpired, countMiss], fun g => maps (s.countMiss.endDelivery n _ _ _) (by simp) g⟩
      · split
        · exact ⟨by simp [countExpired, countMiss], fun g => maps (s.countMiss.refile n _ _) (by simp) g⟩
        · split
          · exact ⟨by simp [countMiss], fun g => maps (s.countMiss.refile n _ _) (by simp) g⟩
          · exact ⟨by simp [countMiss], fun g => maps (s.countMiss.refile n _ _) (by simp) g⟩
    · exact ⟨rfl, fun _ => rfl⟩

theorem endings_bld (w : BoundaryWork) (l : List EndingGroup) (s : State) : (l.foldl (endingStep w) s).bld = s.bld :=
  foldl_fixed (read := State.bld) (fun s g => by
    cases g with
    | ended => exact foldl_fixed (read := State.bld) endFrameOne_bld _ _
    | missed => exact foldl_fixed (read := State.bld) (fun s n => (resolveOne_bld_maps s n).1) _ _
    | dropped => exact foldl_fixed (read := State.bld) (launchOne_bld w.kept) _ _) l s

/-- Only the reverts of a boundary write slots. -/
theorem endings_maps {w : BoundaryWork} {l : List EndingGroup} (h : .dropped ∉ l) (s : State) (k : Nat) :
    (l.foldl (endingStep w) s).maps k = s.maps k := by
  induction l generalizing s with
  | nil => rfl
  | cons g l ih =>
    rw [List.mem_cons, not_or] at h
    refine (ih h.2 _).trans ?_
    cases g with
    | ended => exact foldl_fixed (read := fun s => s.maps k) (fun s n => by rw [State.maps, endFrameOne_rcp]; rfl) _ _
    | missed => exact foldl_fixed (read := fun s => s.maps k) (fun s n => (resolveOne_bld_maps s n).2 k) _ _
    | dropped => exact absurd rfl h.1

/-- The slots freed by the reverts of a boundary (R134, R145). -/
theorem endings_rewritten {w : BoundaryWork} {l : List EndingGroup} (nodup : l.Nodup) (mem : .dropped ∈ l)
    (once : w.placed.Nodup) (apart : ∀ n ∈ w.placed, n ∉ w.onAir ∧ n ∉ w.missed) (s : State) (g : Nat) :
    (s.maps g).rewritten ((l.foldl (endingStep w) s).maps g)
      (fun frame j => ∃ n ∈ w.placed, ∃ d, s.live n = some d ∧ d.LosesSlot w.kept g frame j) .empty := by
  obtain ⟨a, b, rfl⟩ := List.append_of_mem mem
  rw [List.nodup_middle, List.nodup_cons, List.mem_append, not_or] at nodup
  rw [List.foldl_append, List.foldl_cons, endings_maps nodup.1.2]
  have before := foldl_launchOne_rewritten w.kept once (a.foldl (endingStep w) s) g
  rw [endings_maps nodup.1.1] at before
  refine GroupMaps.rewritten_congr (fun frame j => exists_congr fun n => and_congr_right fun hn => ?_) before
  rw [(endings_touched w a s).live]
  rw [List.mem_flatMap]
  rintro ⟨h, hh, listed⟩
  cases h with
  | ended => exact (apart n hn).1 listed
  | missed => exact (apart n hn).2 listed
  | dropped => exact nodup.1.1 hh

/-- The endings reach the journal group by group, each group in the order of its list (R170). -/
theorem endings_journal (w : BoundaryWork) {l : List EndingGroup} (nodup : l.Nodup) (s : State) :
    ∃ v : EndingGroup → List UsageRecord,
      (l.foldl (endingStep w) s).jnl.records = s.jnl.records ++ (l.map v).flatten ∧
      ∀ g, ((v g).map (fun u => u.ticket.number)).Sublist (w.list g) ∧
        ∀ u ∈ v g, (l.foldl (endingStep w) s).live u.ticket.number = none := by
  induction l generalizing s with
  | nil => exact ⟨fun _ => [], by simp, fun g => ⟨List.nil_sublist _, by simp⟩⟩
  | cons g l ih =>
    obtain ⟨new, rest⟩ := List.nodup_cons.1 nodup
    obtain ⟨v, jnl, each⟩ := ih rest (endingStep w s g)
    obtain ⟨first, jnl', order, freed, -⟩ := (endingStep_touched w s g).wrote
    have later : l.map (fun h => if h = g then first else v h) = l.map v :=
      List.map_congr_left fun h hh => if_neg fun e : h = g => new (e ▸ hh)
    refine ⟨fun h => if h = g then first else v h, ?_, fun h => ?_⟩
    · rw [List.foldl_cons, jnl, jnl', List.map_cons, later, if_pos rfl, List.flatten_cons, List.append_assoc]
    · by_cases hg : h = g
      · subst h
        simp only [if_pos]
        exact ⟨order, fun u hu => (endings_touched w l _).gone _ (freed u hu).2.2⟩
      · simp only [if_neg hg]
        exact each h

end State

end Sys2Proof.Machine
end

section
/-! PROOFS. The boundary as one event: what it leaves of every delivery, of the maps and of the journal (R79 to R82, R93, R134,
R145, R151, R154, R170). -/

namespace Sys2Proof.Machine

/-- The state in which a group of endings finds its deliveries (R71, R170). -/
def EndingGroup.state : EndingGroup → DeliveryState
  | .ended => .onAir
  | .missed => .awaitReceipt
  | .dropped => .placed

theorem EndingGroup.state_injective {g h : EndingGroup} (same : g.state = h.state) : g = h := by
  cases g <;> cases h <;> simp_all [EndingGroup.state]

theorem endingGroups_nodup (o : EndingOrder) : (endingGroups o).Nodup := by cases o <;> decide

theorem mem_endingGroups (g : EndingGroup) (o : EndingOrder) : g ∈ endingGroups o := by
  cases o <;> cases g <;> decide

namespace State

/-- An ending is read off the delivery table, the journal and the clock alone. -/
theorem ended_congr {s s' t t' : State} {n : Nat} {e : Ending} {r : Reason} (dlv : s'.dlv = s.dlv) (jnl : s'.jnl = s.jnl)
    (dlv' : t'.dlv = t.dlv) (jnl' : t'.jnl = t.jnl) (clk' : t'.clk = t.clk) (h : s.ended t n e r) : s'.ended t' n e r := by
  unfold ended live ticket record at *
  rw [dlv, jnl, dlv', jnl', clk']
  exact h

theorem refiled_congr {s s' t t' : State} {n : Nat} {d : Delivery} (dlv : s'.dlv = s.dlv) (jnl : s'.jnl = s.jnl)
    (dlv' : t'.dlv = t.dlv) (jnl' : t'.jnl = t.jnl) (clk' : t'.clk = t.clk) (h : s.refiled t n d) : s'.refiled t' n d := by
  refine ⟨fun inTime => ?_, fun late => ended_congr dlv jnl dlv' jnl' clk' (h.2 late)⟩
  have filed := h.1 inTime
  unfold live record calList at *
  rw [dlv']
  exact filed

/-- The slots of a map that names a delivery missed (R151). -/
theorem missed_iff (s : State) (n : Nat) :
    s.missed n = true ↔ ∃ g < 4, ∃ m : ReceiptMap, (s.maps g).previous = some m ∧ ∃ j < 16, m.slot j = .claimed (s.ticket n) := by
  simp only [missed, List.any_eq_true, mem_groupNumbers]
  refine exists_congr fun g => and_congr_right fun _ => ?_
  cases (s.maps g).previous <;> simp

/-- The work of a boundary, read from the state as it finds it. -/
def work (s : State) : BoundaryWork := s.begun.boundaryWork

/-- The deliveries of a boundary have been ended, resolved, launched or reverted, and the maps have not moved yet. -/
def settled (s : State) (o : EndingOrder) : State := (endingGroups o).foldl (endingStep s.work) s.turned

theorem boundaryEvent_eq_settled (s : State) (o : EndingOrder) :
    s.boundaryEvent o = groupNumbers.foldl (moveMaps s.keptGroups) (s.settled o) := s.boundaryEvent_eq o

theorem moved_only (kept : GroupSet) (s : State) :
    ∃ maps, groupNumbers.foldl (moveMaps kept) s = s.withRcp { s.rcp with maps := maps } := by
  have moved (l : List Nat) (t : State) : ∃ maps, l.foldl (moveMaps kept) t = t.withRcp { t.rcp with maps := maps } := by
    induction l generalizing t with
    | nil => exact ⟨t.rcp.maps, rfl⟩
    | cons g l ih =>
      obtain ⟨maps, rest⟩ := ih (moveMaps kept t g)
      exact ⟨maps, rest⟩
  exact moved groupNumbers s

theorem moved_maps (kept : GroupSet) (s : State) {g : Nat} (hg : g < 4) :
    (groupNumbers.foldl (moveMaps kept) s).maps g = (s.maps g).moveOn (kept.getLsbD g) := by
  have step := read_foldl_rewrite (read := State.maps) (f := moveMaps kept)
    (F := fun g r => r.moveOn (kept.getLsbD g)) (P := fun _ => True) (fun _ _ _ => trivial)
    (fun t n k _ => by rw [moveMaps, maps_setMaps]; split <;> simp [*]) nodup_groupNumbers (s := s) trivial g
  rw [step, if_pos ((mem_groupNumbers g).2 hg)]

variable (s : State)

theorem begun_dlv : s.begun.dlv = s.dlv := s.begun_zonesOnly.dlv

theorem begun_live (n : Nat) : s.begun.live n = s.live n := by rw [live, record, begun_dlv]; rfl

theorem begun_missed (n : Nat) : s.begun.missed n = s.missed n := by
  obtain ⟨_, _, h⟩ := s.begun_zonesOnly
  rw [h]; rfl

theorem begun_inNextImage (n : Nat) : s.begun.inNextImage n = s.inNextImage n := by
  simp only [inNextImage, begun_images]

section Work

variable {s : State} (wf : Table.wf .fresh s.dlv.records = true)
include wf

theorem begun_wf : Table.wf .fresh s.begun.dlv.records = true := by rw [begun_dlv]; exact wf

theorem mem_work_onAir (n : Nat) : n ∈ s.work.onAir ↔ ∃ d, s.live n = some d ∧ d.state = .onAir := by
  rw [work, boundaryWork, mem_liveWhere (begun_wf wf)]
  simp [begun_live]

theorem mem_work_missed (n : Nat) :
    n ∈ s.work.missed ↔ s.missed n = true ∧ ∃ d, s.live n = some d ∧ d.state = .awaitReceipt := by
  rw [work, boundaryWork, mem_missedNumbers (begun_wf wf), begun_missed, begun_live]

theorem mem_work_placed (n : Nat) :
    n ∈ s.work.placed ↔ s.inNextImage n = true ∧ ∃ d, s.live n = some d ∧ d.state = .placed := by
  rw [work, boundaryWork, mem_placedNumbers (begun_wf wf), begun_inNextImage, begun_live]

theorem work_ascend (g : EndingGroup) : (s.work.list g).Pairwise (· < ·) := by
  cases g with
  | ended => exact liveWhere_ascend (begun_wf wf) _
  | missed => exact missedNumbers_ascend (begun_wf wf)
  | dropped => exact placedNumbers_ascend (begun_wf wf)

/-- A group of endings finds its deliveries in one state. -/
theorem state_of_work {g : EndingGroup} {n : Nat} (h : n ∈ s.work.list g) : ∃ d, s.live n = some d ∧ d.state = g.state := by
  cases g with
  | ended => exact (mem_work_onAir wf n).1 h
  | missed => exact ((mem_work_missed wf n).1 h).2
  | dropped => exact ((mem_work_placed wf n).1 h).2

/-- No delivery stands in two groups of endings. -/
theorem work_apart {g h : EndingGroup} {n : Nat} (hn : n ∈ s.work.list g) (other : h ≠ g) : n ∉ s.work.list h := by
  intro hn'
  obtain ⟨d, live, state⟩ := state_of_work wf hn
  obtain ⟨e, live', state'⟩ := state_of_work wf hn'
  cases live.symm.trans live'
  exact other (EndingGroup.state_injective (state'.symm.trans state))

end Work

theorem settled_touched (o : EndingOrder) : Touched ((endingGroups o).flatMap s.work.list) s.turned (s.settled o) :=
  endings_touched ..

theorem turned_dlv : s.turned.dlv = s.dlv := by
  obtain ⟨_, _, _, h⟩ := s.turned_only
  rw [h, withBld_dlv, withLnk_dlv, withZon_dlv]

theorem turned_jnl : s.turned.jnl = s.jnl := by
  obtain ⟨_, _, _, h⟩ := s.turned_only
  rw [h, withBld_jnl, withLnk_jnl, withZon_jnl]

theorem turned_clk : s.turned.clk = s.clk := by
  obtain ⟨_, _, _, h⟩ := s.turned_only
  rw [h, withBld_clk, withLnk_clk, withZon_clk]

theorem turned_rcp : s.turned.rcp = s.rcp := by
  obtain ⟨_, _, _, h⟩ := s.turned_only
  rw [h, withBld_rcp, withLnk_rcp, withZon_rcp]

theorem turned_act : s.turned.act = s.act := by
  obtain ⟨_, _, _, h⟩ := s.turned_only
  rw [h, withBld_act, withLnk_act, withZon_act]

theorem turned_dir : s.turned.dir = s.dir := by
  obtain ⟨_, _, _, h⟩ := s.turned_only
  rw [h, withBld_dir, withLnk_dir, withZon_dir]

theorem turned_pending : s.turned.pending = s.pending := by
  obtain ⟨_, _, _, h⟩ := s.turned_only
  rw [h, withBld_pending, withLnk_pending, withZon_pending]

theorem turned_live (n : Nat) : s.turned.live n = s.live n := by rw [live, record, turned_dlv]; rfl

/-- A delivery that no group of endings names is left as it is. -/
theorem settled_idle (o : EndingOrder) {n : Nat} (idle : ∀ g, n ∉ s.work.list g) : (s.settled o).live n = s.live n := by
  rw [(s.settled_touched o).live, turned_live]
  rw [List.mem_flatMap]
  rintro ⟨g, -, hn⟩
  exact idle g hn

/-- What the events of a boundary on other deliveries leave for the event on delivery `n` to find. -/
structure FoundBy (s u : State) (n : Nat) : Prop where
  live : u.live n = s.live n
  clk : u.clk = s.clk
  due : ∀ m x, (u.sub m).nextEligible x = (s.sub m).nextEligible x
  profile : ∀ p, u.profile p = s.profile p

/-- The event on a delivery that a group of endings names: what it finds, and what becomes of its outcome. -/
theorem settled_at {s : State} (wf : Table.wf .fresh s.dlv.records = true) (o : EndingOrder) {g : EndingGroup} {n : Nat}
    (hn : n ∈ s.work.list g) : ∃ u, FoundBy s u n ∧
      (s.settled o).live n = (endingOne s.work g u n).live n ∧
      (∀ e r, u.ended (endingOne s.work g u n) n e r → s.ended (s.settled o) n e r) ∧
      (∀ d, u.refiled (endingOne s.work g u n) n d → s.refiled (s.settled o) n d) := by
  obtain ⟨a, b, u, ha, hb, before, after⟩ := endings_split (endingGroups_nodup o) (mem_endingGroups g o)
    (nodup_of_ascend (work_ascend wf g)) hn (fun h other => work_apart wf hn other) s.turned
  refine ⟨u, ⟨(before.live ha).trans (s.turned_live n), before.clk.trans s.turned_clk, fun m x => ?_, fun p => ?_⟩,
    after.live hb, fun e r h => ?_, fun d h => ?_⟩
  · rw [before.nextEligible, sub, turned_dir]; rfl
  · rw [before.profile]
    cases p <;> simp only [profile, turned_act]
  · exact ended_congr s.turned_dlv.symm s.turned_jnl.symm rfl rfl rfl (after.ended_after (before.ended_before h))
  · exact refiled_congr s.turned_dlv.symm s.turned_jnl.symm rfl rfl rfl
      (after.refiled_after hb (before.refiled_before h))

end State

end Sys2Proof.Machine
end

section
/-! PROOFS. What a boundary of a RUNNING clock leaves: each delivery by its state, and the frame as the next one finds it (R79 to
R82, R93, R112, R113, R122, R133, R134, R145, R151, R154, R170). -/

namespace Sys2Proof.Machine

namespace State

/-! ### Each delivery by its state -/

theorem endDelivery_ended (s : State) (n : Nat) (d : Delivery) (e : Ending) (r : Reason) :
    s.ended (s.endDelivery n d e r) n e r := by
  refine ⟨by rw [endDelivery_live, if_pos rfl], by rw [endDelivery_record, if_pos rfl], s.usageOf n d e r, ?_,
    rfl, rfl, rfl, by rw [endDelivery_clk]; rfl⟩
  simp [Journal.append]

section Deliveries

variable {s : State} {n : Nat} {d : Delivery} (wf : Table.wf .fresh s.dlv.records = true) (o : EndingOrder)
  (live : s.live n = some d)
include wf live

/-- A delivery in a state of no group of endings is left as it is. -/
theorem settled_of_waiting (waiting : d.state.waiting = true) : (s.settled o).live n = some d := by
  rw [s.settled_idle o, live]
  intro g listed
  obtain ⟨e, live', state⟩ := state_of_work wf listed
  cases live.symm.trans live'
  rw [state] at waiting
  cases g <;> simp [EndingGroup.state, DeliveryState.waiting] at waiting

theorem settled_onAir (state : d.state = .onAir) : ∃ u, FoundBy s u n ∧
    (s.settled o).live n = (endFrameOne u n).live n ∧
    (∀ e r, u.ended (endFrameOne u n) n e r → s.ended (s.settled o) n e r) ∧
    (∀ d, u.refiled (endFrameOne u n) n d → s.refiled (s.settled o) n d) :=
  settled_at wf o (g := .ended) ((mem_work_onAir wf n).2 ⟨d, live, state⟩)

theorem settled_of_twoWay (state : d.state = .onAir) (kind : d.kind = .twoWay) :
    (s.settled o).live n = some { d with state := .awaitReceipt } := by
  obtain ⟨u, found, after, -, -⟩ := settled_onAir wf o live state
  rw [after, endFrameOne_twoWay (found.live.trans live) state kind, live_setLive, if_pos rfl]

theorem settled_of_lastRepeat (state : d.state = .onAir) (kind : d.kind = .oneWay) (last : d.repeatsLeft ≤ 1) :
    s.ended (s.settled o) n .sent .none := by
  obtain ⟨u, found, -, ended, -⟩ := settled_onAir wf o live state
  refine ended _ _ ?_
  rw [endFrameOne_last (found.live.trans live) state kind last]
  exact endDelivery_ended ..

theorem settled_of_repeat (state : d.state = .onAir) (kind : d.kind = .oneWay) (more : 2 ≤ d.repeatsLeft) :
    s.refiled (s.settled o) n
      { d.afterFrame with due := (s.sub d.subscriber).nextEligible (s.clk.serial + 1) } := by
  obtain ⟨u, found, -, -, refiled⟩ := settled_onAir wf o live state
  refine refiled _ ?_
  rw [endFrameOne_again (found.live.trans live) state kind more, found.due, found.clk]
  exact refile_refiled ..

theorem settled_placed (state : d.state = .placed) (image : s.inNextImage n = true) : ∃ u, FoundBy s u n ∧
    (s.settled o).live n = (launchOne s.keptGroups u n).live n ∧
    (∀ e r, u.ended (launchOne s.keptGroups u n) n e r → s.ended (s.settled o) n e r) ∧
    (∀ d, u.refiled (launchOne s.keptGroups u n) n d → s.refiled (s.settled o) n d) :=
  settled_at wf o (g := .dropped) ((mem_work_placed wf n).2 ⟨image, d, live, state⟩)

theorem settled_of_elsewhere (state : d.state = .placed) (image : s.inNextImage n = false) :
    (s.settled o).live n = some d := by
  rw [s.settled_idle o, live]
  intro g listed
  obtain ⟨e, live', found⟩ := state_of_work wf listed
  cases live.symm.trans live'
  cases g with
  | ended => simp [EndingGroup.state, state] at found
  | missed => simp [EndingGroup.state, state] at found
  | dropped => simpa [image] using ((mem_work_placed wf n).1 listed).1

theorem settled_of_launched (state : d.state = .placed) (image : s.inNextImage n = true) {a : Attempt}
    (last : d.last = some a) (stays : a.carried &&& s.keptGroups ≠ 0) :
    (s.settled o).live n = some (d.launched s.keptGroups) := by
  obtain ⟨u, found, after, -, -⟩ := settled_placed wf o live state image
  rw [after, launchOne_kept (found.live.trans live) state last stays, live_setLive, if_pos rfl]

theorem settled_of_dropped (state : d.state = .placed) (image : s.inNextImage n = true) {a : Attempt}
    (last : d.last = some a) (drops : a.carried &&& s.keptGroups = 0) :
    s.refiled (s.settled o) n (d.undone ((s.sub d.subscriber).nextEligible s.clk.earliestUnbuilt)) := by
  obtain ⟨u, found, -, -, refiled⟩ := settled_placed wf o live state image
  have reverted := launchOne_refiled (found.live.trans live) state (kept := s.keptGroups)
    (fun b hb => by cases last.symm.trans hb; exact drops)
  rw [found.due, found.clk] at reverted
  exact refiled _ reverted

theorem settled_missed (state : d.state = .awaitReceipt) (missed : s.missed n = true) : ∃ u, FoundBy s u n ∧
    (s.settled o).live n = (resolveOne u n).live n ∧
    (∀ e r, u.ended (resolveOne u n) n e r → s.ended (s.settled o) n e r) ∧
    (∀ d, u.refiled (resolveOne u n) n d → s.refiled (s.settled o) n d) :=
  settled_at wf o (g := .missed) ((mem_work_missed wf n).2 ⟨missed, d, live, state⟩)

theorem settled_of_unmissed (state : d.state = .awaitReceipt) (unmissed : s.missed n = false) :
    (s.settled o).live n = some d := by
  rw [s.settled_idle o, live]
  intro g listed
  obtain ⟨e, live', found⟩ := state_of_work wf listed
  cases live.symm.trans live'
  cases g with
  | ended => simp [EndingGroup.state, state] at found
  | missed => simpa [unmissed] using ((mem_work_missed wf n).1 listed).1
  | dropped => simp [EndingGroup.state, state] at found

theorem settled_of_lastAttempt (state : d.state = .awaitReceipt) (missed : s.missed n = true) {a : Attempt}
    (last : d.last = some a) (none : d.attemptsLeft ≤ 1) : s.ended (s.settled o) n .expired .attempts := by
  obtain ⟨u, found, -, ended, -⟩ := settled_missed wf o live state missed
  refine ended _ _ ?_
  rw [resolveOne_last (found.live.trans live) state last none]
  exact (Touched.setCounters ..).ended_before ((Touched.setCounters ..).ended_after (endDelivery_ended ..))

theorem settled_of_retry (state : d.state = .awaitReceipt) (missed : s.missed n = true) {a : Attempt}
    (last : d.last = some a) (more : 2 ≤ d.attemptsLeft) :
    s.refiled (s.settled o) n
      { d.afterMiss a with due := (s.sub d.subscriber).nextEligible (s.retryFrom d a) } := by
  obtain ⟨u, found, -, -, refiled⟩ := settled_missed wf o live state missed
  have start : u.retryFrom d a = s.retryFrom d a := by rw [retryFrom_eq, retryFrom_eq, found.profile]
  refine refiled _ ?_
  rw [resolveOne_more (found.live.trans live) state last more rfl, found.due, start]
  have again (m : Nat) (e : Delivery) (x : Serial) : u.refiled (u.countMiss.refile m e x) m { e with due := x } :=
    (Touched.setCounters ..).refiled_before (refile_refiled ..)
  split
  · exact (Touched.setCounters ..).refiled_after (by simp) (again ..)
  · split
    · exact (Touched.notice ..).refiled_after (by simp) (again ..)
    · exact again ..

end Deliveries

/-! ### The boundary of a RUNNING clock -/

/-- The state as the next frame finds it: the clock has turned, and nothing else (R93). -/
def nextFrame (s : State) : State := s.withClk s.clk.nextFrame

theorem exec_boundary {s : State} (o : EndingOrder) (due : s.reaches (49935 + s.clk.trim)) :
    exec (.boundary o) s = .next (s.nextFrame.boundaryEvent o).lineChoice := by
  have last : s.clk.lastPosition = 49935 + s.clk.trim := by
    show 49936 + s.clk.trim - 1 = _
    omega
  show execBoundary o s = _
  rw [execBoundary, last, atMoment_of_reaches due]
  rfl

theorem exec_boundary_early {s : State} (o : EndingOrder) (early : ¬s.reaches (49935 + s.clk.trim)) :
    exec (.boundary o) s = .next s.lineChoice := by
  have last : s.clk.lastPosition = 49935 + s.clk.trim := by
    show 49936 + s.clk.trim - 1 = _
    omega
  show execBoundary o s = _
  rw [execBoundary, last, atMoment_of_not_reaches (by omega) early]
  rfl

theorem earliestUnbuilt_nextFrame {s : State} (running : s.clk.state = .running) :
    s.nextFrame.clk.earliestUnbuilt = s.clk.serial + 2 := by
  have turned : s.nextFrame.clk.earliestUnbuilt = s.clk.serial + 1 + 1 := by
    simp [nextFrame, Clock.earliestUnbuilt, Clock.nextFrame, running]
  rw [turned, BitVec.add_assoc]
  rfl

/-- The images of a group over a boundary, by whether it is launched (R133, R134). -/
theorem handOver_of_launch {r : GroupImages} {i : Image} (image : r.next = some i) :
    (r.handOver true).current = some i ∧ (r.handOver true).launched = r.launched + 1 ∧
    (r.handOver true).dropped = r.dropped ∧ (r.handOver true).pagesLaunched = r.pagesLaunched + BitVec.ofNat 32 i.p := by
  simp [GroupImages.handOver, image]

theorem handOver_of_drop {r : GroupImages} {i : Image} (image : r.next = some i) :
    (r.handOver false).current = none ∧ (r.handOver false).dropped = r.dropped + 1 ∧
    (r.handOver false).launched = r.launched := by
  simp [GroupImages.handOver, image]

theorem handOver_next (r : GroupImages) (launch : Bool) : (r.handOver launch).next = none := by
  unfold GroupImages.handOver
  cases r.next <;> cases launch <;> simp

theorem handOver_of_none {r : GroupImages} (image : r.next = none) (launch : Bool) : (r.handOver launch).current = none := by
  simp [GroupImages.handOver, image]

theorem group_of_zon {s t : State} (h : t.zon = s.zon) (g : Nat) : t.group g = s.group g := by rw [group, h]; rfl

theorem zone_of_zon {s t : State} (h : t.zon = s.zon) (z : Nat) : t.zone z = s.zone z := by rw [zone, h]; rfl

theorem images_of_bld {s t : State} (h : t.bld = s.bld) (g : Nat) : t.images g = s.images g := by rw [images, h]; rfl

theorem live_of_dlv {s t : State} (h : t.dlv = s.dlv) (n : Nat) : t.live n = s.live n := by rw [live, record, h]; rfl

section Event

variable (s : State) (o : EndingOrder)

theorem boundaryEvent_only : ∃ maps, s.boundaryEvent o = (s.settled o).withRcp { (s.settled o).rcp with maps := maps } := by
  rw [boundaryEvent_eq_settled]
  exact moved_only ..

theorem boundaryEvent_dlv : (s.boundaryEvent o).dlv = (s.settled o).dlv := by
  obtain ⟨_, h⟩ := s.boundaryEvent_only o
  rw [h, withRcp_dlv]

theorem boundaryEvent_jnl : (s.boundaryEvent o).jnl = (s.settled o).jnl := by
  obtain ⟨_, h⟩ := s.boundaryEvent_only o
  rw [h, withRcp_jnl]

theorem boundaryEvent_clk : (s.boundaryEvent o).clk = s.clk := by
  obtain ⟨_, h⟩ := s.boundaryEvent_only o
  rw [h, withRcp_clk, (s.settled_touched o).clk, turned_clk]

theorem boundaryEvent_zon : (s.boundaryEvent o).zon = s.turned.zon := by
  obtain ⟨_, h⟩ := s.boundaryEvent_only o
  rw [h, withRcp_zon, (s.settled_touched o).zon]

theorem boundaryEvent_bld : (s.boundaryEvent o).bld = s.turned.bld := by
  obtain ⟨_, h⟩ := s.boundaryEvent_only o
  rw [h, withRcp_bld, settled, endings_bld]

theorem boundaryEvent_group {g : Nat} (hg : g < 4) :
    (s.boundaryEvent o).group g = { s.group g with current := (s.group g).next, next := none } := by
  rw [group_of_zon (s.boundaryEvent_zon o), s.turned_group hg]

theorem boundaryEvent_zone (z : Nat) : (s.boundaryEvent o).zone z = s.keyedUp.zone z := by
  rw [zone_of_zon (s.boundaryEvent_zon o), s.turned_zone]

theorem boundaryEvent_images {g : Nat} (hg : g < 4) :
    (s.boundaryEvent o).images g = (s.images g).handOver (s.keptGroups.getLsbD g) := by
  rw [images_of_bld (s.boundaryEvent_bld o), s.turned_images hg]

theorem boundaryEvent_pending : (s.boundaryEvent o).pending = s.pending := by
  obtain ⟨_, h⟩ := s.boundaryEvent_only o
  rw [h, withRcp_pending, (s.settled_touched o).pending, turned_pending]

theorem boundaryEvent_map : (s.boundaryEvent o).dir.map = s.dir.map := by
  obtain ⟨_, h⟩ := s.boundaryEvent_only o
  rw [h, withRcp_dir, (s.settled_touched o).map, turned_dir]

theorem boundaryEvent_tariffs : (s.boundaryEvent o).act.tariffs = s.act.tariffs := by
  obtain ⟨_, h⟩ := s.boundaryEvent_only o
  rw [h, withRcp_act, (s.settled_touched o).tariffs, turned_act]

theorem boundaryEvent_queue (z : Nat) : (s.boundaryEvent o).queue z = s.queue z := by
  obtain ⟨_, h⟩ := s.boundaryEvent_only o
  rw [h]
  refine ((s.settled_touched o).queue z).trans ?_
  rw [queue, turned_rcp]
  rfl

/-- The maps over a boundary: the slots of the deliveries dropped are freed, and the roles move on one (R134, R145). -/
theorem boundaryEvent_maps {s : State} (wf : Table.wf .fresh s.dlv.records = true) (o : EndingOrder) {g : Nat} (hg : g < 4) :
    ∃ r : GroupMaps, (s.boundaryEvent o).maps g = r.moveOn (s.keptGroups.getLsbD g) ∧
      (s.maps g).rewritten r (s.losesSlot s.keptGroups g) .empty := by
  refine ⟨(s.settled o).maps g, by rw [boundaryEvent_eq_settled, moved_maps _ _ hg], ?_⟩
  have freed := endings_rewritten (w := s.work) (endingGroups_nodup o) (mem_endingGroups .dropped o)
    (nodup_of_ascend (work_ascend wf .dropped))
    (fun n hn => ⟨work_apart wf (g := .dropped) (h := .ended) hn (by simp),
      work_apart wf (g := .dropped) (h := .missed) hn (by simp)⟩) s.turned g
  rw [State.maps, turned_rcp] at freed
  refine GroupMaps.rewritten_congr (fun frame j => ?_) freed
  rw [← losesSlot_iff wf]
  refine exists_congr fun n => and_congr ?_ ?_
  · rw [show n ∈ s.work.placed ↔ _ from mem_work_placed wf n, mem_placedNumbers wf]
  · simp only [turned_live]
    rfl

/-- The endings of a boundary reach the journal by groups, each in ascending number and each of deliveries found in one state
(R170). -/
theorem boundaryEvent_journal {s : State} (wf : Table.wf .fresh s.dlv.records = true) (o : EndingOrder) :
    ∃ w : EndingGroup → List UsageRecord,
      (s.boundaryEvent o).jnl.records = s.jnl.records ++ ((endingGroups o).map w).flatten ∧
      ∀ e, ((w e).map (fun u => u.ticket.number)).Pairwise (· < ·) ∧
        ∀ u ∈ w e, (s.boundaryEvent o).live u.ticket.number = none ∧
          ∃ d, s.live u.ticket.number = some d ∧ d.state = e.state := by
  obtain ⟨w, written, each⟩ := endings_journal s.work (endingGroups_nodup o) s.turned
  refine ⟨w, by rw [boundaryEvent_jnl, settled, written, turned_jnl], fun e => ⟨(work_ascend wf e).sublist (each e).1,
    fun u hu => ⟨?_, state_of_work wf ((each e).1.subset (List.mem_map_of_mem hu))⟩⟩⟩
  rw [live, record, boundaryEvent_dlv]
  exact (each e).2 u hu

end Event

end State

/-- What the statement of O36 calls the groups kept is `State.keptGroups`. -/
theorem kept_eq_keptGroups {s : State} {kept : GroupSet}
    (h : ∀ g < 4, kept.getLsbD g = true ↔ (s.images g).next ≠ none ∧
      ∃ z < 8, (s.zone z).inService = true ∧ ∃ p : Plan, (s.group g).next = some p ∧ p.members.getLsbD z = true) :
    kept = s.nextFrame.keptGroups :=
  BitVec.eq_of_getLsbD_eq fun g hg => Bool.eq_iff_iff.2 ((h g hg).trans (s.nextFrame.kept_iff hg).symm)

open State in
/-- Settles O36: what the boundary turns first is read field by field, and each delivery by its state; the maps move on last. -/
theorem boundaryTurnsFrame : Obligations.BoundaryTurnsFrame := by
  unfold Obligations.BoundaryTurnsFrame
  refine ⟨fun s o due => ⟨_, exec_boundary o due, ?clk, ?groups, ?zones, ?images, ?air, ?map, ?tariffs, ?queues, ?pending⟩,
    fun s o early => exec_boundary_early o early, fun s t o kept wf due ran hkept => ?_⟩
  case clk => exact s.nextFrame.boundaryEvent_clk o
  case groups =>
    intro g hg
    have group : ((s.nextFrame.boundaryEvent o).lineChoice.group g) = _ := s.nextFrame.boundaryEvent_group o hg
    rw [group]
    exact ⟨rfl, rfl, rfl⟩
  case zones =>
    intro z hz
    have zone : ((s.nextFrame.boundaryEvent o).lineChoice.zone z) = _ := s.nextFrame.boundaryEvent_zone o z
    rw [zone]
    exact s.nextFrame.keyedUp_keyed hz
  case images =>
    intro g hg
    have images : ((s.nextFrame.boundaryEvent o).lineChoice.images g) = _ := s.nextFrame.boundaryEvent_images o hg
    have zone (z : Nat) : ((s.nextFrame.boundaryEvent o).lineChoice.zone z) = _ := s.nextFrame.boundaryEvent_zone o z
    rw [images]
    refine ⟨handOver_next .., fun i image => ⟨?launched, ?dropped⟩, fun image => handOver_of_none image _⟩
    case launched =>
      rintro ⟨z, hz, keyed, p, next, member⟩
      rw [zone] at keyed
      have serves := ((s.nextFrame.keyedUp_keyed hz).1.1 keyed).1
      rw [(s.nextFrame.kept_iff hg).2 ⟨by rw [show (s.nextFrame.images g).next = _ from image]; simp,
        z, hz, serves, p, next, member⟩]
      exact handOver_of_launch image
    case dropped =>
      intro unkeyed
      have drops : s.nextFrame.keptGroups.getLsbD g = false := by
        refine Bool.eq_false_iff.2 fun kept => ?_
        obtain ⟨some, z, hz, serves, p, next, member⟩ := (s.nextFrame.kept_iff hg).1 kept
        have keyed := (s.nextFrame.keyedUp_keyed hz).1.2 ⟨serves, g, hg, some, p, next, member⟩
        rw [← zone, unkeyed z hz p next member] at keyed
        cases keyed
      rw [drops]
      exact handOver_of_drop image
  case air =>
    have bld : (s.nextFrame.boundaryEvent o).lineChoice.bld = _ := s.nextFrame.boundaryEvent_bld o
    rw [bld]
    exact s.nextFrame.turned_air
  case map => exact s.nextFrame.boundaryEvent_map o
  case tariffs => exact s.nextFrame.boundaryEvent_tariffs o
  case queues => exact s.nextFrame.boundaryEvent_queue o
  case pending => exact s.nextFrame.boundaryEvent_pending o
  cases (exec_boundary o due).symm.trans ran
  cases kept_eq_keptGroups hkept
  have wf' : Table.wf .fresh s.nextFrame.dlv.records = true := wf
  have dlv : (s.nextFrame.boundaryEvent o).lineChoice.dlv = (s.nextFrame.settled o).dlv := s.nextFrame.boundaryEvent_dlv o
  have jnl : (s.nextFrame.boundaryEvent o).lineChoice.jnl = (s.nextFrame.settled o).jnl := s.nextFrame.boundaryEvent_jnl o
  have clk : (s.nextFrame.boundaryEvent o).lineChoice.clk = (s.nextFrame.settled o).clk :=
    (s.nextFrame.boundaryEvent_clk o).trans ((s.nextFrame.settled_touched o).clk.trans s.nextFrame.turned_clk).symm
  have same := live_of_dlv dlv
  have serial : s.nextFrame.clk.earliestUnbuilt = s.clk.serial + 2 := earliestUnbuilt_nextFrame due.1
  refine ⟨fun g hg => ?maps, fun n d live => ⟨fun waiting => ?waiting, fun state kind => ?twoWay,
    fun state kind => ⟨fun last => ?lastRepeat, fun more => ?again⟩, fun state image => ?elsewhere,
    fun state image a last => ⟨fun stays => ?launched, fun drops => ?dropped⟩,
    fun state a start last hstart => ⟨fun clear => ?unmissed, fun named => ⟨fun none => ?lastAttempt, fun more => ?retry⟩⟩⟩,
    ?journal⟩
  case maps =>
    obtain ⟨r, moved, building, current, -⟩ := boundaryEvent_maps wf' o hg
    rw [show (s.nextFrame.boundaryEvent o).lineChoice.maps g = _ from moved]
    refine ⟨rfl, current, ?_⟩
    unfold GroupMaps.moveOn
    cases s.nextFrame.keptGroups.getLsbD g with
    | true => exact building
    | false => exact rfl
  case waiting => exact (same n).trans (settled_of_waiting wf' o live waiting)
  case twoWay => exact (same n).trans (settled_of_twoWay wf' o live state kind)
  case lastRepeat => exact ended_congr rfl rfl dlv jnl clk (settled_of_lastRepeat wf' o live state kind last)
  case again =>
    have after := settled_of_repeat wf' o live state kind more
    rw [show s.nextFrame.clk.serial + 1 = s.clk.serial + 2 from BitVec.add_assoc ..] at after
    exact refiled_congr rfl rfl dlv jnl clk after
  case elsewhere => exact (same n).trans (settled_of_elsewhere wf' o live state image)
  case launched => exact (same n).trans ((settled_of_launched wf' o live state image last stays).trans
      (congrArg some (launched_eq last)))
  case dropped =>
    rw [← serial]
    exact refiled_congr rfl rfl dlv jnl clk (settled_of_dropped wf' o live state image last drops)
  case unmissed =>
    refine (same n).trans (settled_of_unmissed wf' o live state (Bool.eq_false_iff.2 fun missed => ?_))
    obtain ⟨g, hg, m, previous, j, hj, claimed⟩ := (s.nextFrame.missed_iff n).1 missed
    exact clear g hg m previous j hj claimed
  case lastAttempt =>
    exact ended_congr rfl rfl dlv jnl clk
      (settled_of_lastAttempt wf' o live state ((s.nextFrame.missed_iff n).2 named) last none)
  case retry =>
    rw [show start = s.nextFrame.retryFrom d a from hstart]
    exact refiled_congr rfl rfl dlv jnl clk (settled_of_retry wf' o live state ((s.nextFrame.missed_iff n).2 named) last more)
  case journal =>
    obtain ⟨w, written, each⟩ := boundaryEvent_journal wf' o
    refine ⟨w, written, fun e => ⟨(each e).1, fun u hu => ?_⟩⟩
    obtain ⟨free, d, live, state⟩ := (each e).2 u hu
    exact ⟨free, d, live, by rw [state]; cases e <;> rfl⟩

end Sys2Proof.Machine
end

section
/-! PROOFS. AIR ON and AIR OFF (R79, R122 to R124, R144). -/

namespace Sys2Proof.Machine

namespace State

/-! ### The deliveries that AIR OFF reverts -/

/-- The air is STOPPING and the deliveries placed in the next images are reverted; the images are still held (R124). -/
def offAir (s : State) : State := s.placedNumbers.foldl (launchOne 0) (s.withBld { s.bld with air := .stopping })

/-- The state that AIR OFF leaves (R124, R144). -/
def airOff (s : State) : State := groupNumbers.foldl discardNext s.offAir

/-- The delivery does not stand placed. -/
def Unplaced (s : State) (n : Nat) : Prop := ∀ d, s.live n = some d → d.state ≠ .placed

theorem reverted_state (d : Delivery) : d.reverted.state ≠ .placed := by
  unfold Delivery.reverted
  cases d.kind with
  | oneWay => simp
  | twoWay =>
    dsimp only
    split <;> simp

theorem launchOne_unplaced (s : State) (n : Nat) : (launchOne 0 s n).Unplaced n := by
  intro e after
  by_cases placed : ∃ d, s.live n = some d ∧ d.state = .placed
  · obtain ⟨d, live, state⟩ := placed
    rw [launchOne_dropped live state (fun a _ => by simp), revert_eq_refile] at after
    cases inTime : atOrBefore ((s.sub d.subscriber).nextEligible s.clk.earliestUnbuilt) d.reverted.deadline with
    | true =>
      rw [(refile_inTime inTime).1] at after
      cases after
      exact reverted_state d
    | false =>
      rw [refile_of_late inTime, (endDelivery_writes ..).1] at after
      cases after
  · push Not at placed
    rw [launchOne_idle placed] at after
    exact placed e after

/-- After a run of reverts no delivery of its list stands placed. -/
theorem foldl_unplaced {n : Nat} (l : List Nat) (s : State) (h : n ∈ l ∨ s.Unplaced n) :
    (l.foldl (launchOne 0) s).Unplaced n := by
  induction l generalizing s with
  | nil => exact h.resolve_left List.not_mem_nil
  | cons m l ih =>
    refine ih _ ?_
    by_cases same : n = m
    · exact .inr (same ▸ launchOne_unplaced s m)
    · refine h.imp (fun listed => (List.mem_cons.1 listed).resolve_left same) fun unplaced => ?_
      rw [Unplaced, (Touched.launchOne 0 s m).live (by simpa using same)]
      exact unplaced

theorem mem_placedNumbers_of_live {s : State} {n : Nat} {d : Delivery} (image : s.inNextImage n = true)
    (live : s.live n = some d) (state : d.state = .placed) : n ∈ s.placedNumbers := by
  have listed := Table.mem_of_read (dflt := DeliveryRecord.fresh) (t := s.dlv.records) (n := n)
    (fun e => by rw [State.live, record, e] at live; cases live)
  have found : (Table.read .fresh s.dlv.records n).live = some d := live
  exact List.mem_filter.2 ⟨List.mem_map.2 ⟨_, List.mem_filter.2 ⟨listed, by simp [found, state]⟩, rfl⟩, image⟩

variable (s : State)

theorem offAir_touched : Touched s.placedNumbers (s.withBld { s.bld with air := .stopping }) s.offAir :=
  .foldl (Touched.launchOne 0) _ _

theorem offAir_bld : s.offAir.bld = { s.bld with air := .stopping } :=
  foldl_fixed (f := launchOne 0) (read := State.bld) (launchOne_bld 0) _ _

theorem offAir_unplaced {n : Nat} (image : s.inNextImage n = true) : s.offAir.Unplaced n := by
  refine foldl_unplaced _ _ ?_
  by_cases placed : ∃ d, s.live n = some d ∧ d.state = .placed
  · obtain ⟨d, live, state⟩ := placed
    exact .inl (mem_placedNumbers_of_live image live state)
  · push Not at placed
    exact .inr placed

theorem offAir_live_of_elsewhere {n : Nat} (image : s.inNextImage n = false) : s.offAir.live n = s.live n :=
  s.offAir_touched.live fun listed => by simpa [image] using (List.mem_filter.1 listed).2

/-- The slots of the deliveries reverted are freed (R79). -/
theorem offAir_maps {s : State} (wf : Table.wf .fresh s.dlv.records = true) (g : Nat) :
    (s.maps g).rewritten (s.offAir.maps g) (s.losesSlot 0 g) .empty :=
  GroupMaps.rewritten_congr (s.losesSlot_iff wf 0 g)
    (foldl_launchOne_rewritten 0 (nodup_of_ascend (placedNumbers_ascend wf)) (s.withBld { s.bld with air := .stopping }) g)

theorem offAir_refiled {s : State} (wf : Table.wf .fresh s.dlv.records = true) {n : Nat} {d : Delivery}
    (listed : n ∈ s.placedNumbers) (live : s.live n = some d) :
    s.refiled s.offAir n (d.undone ((s.sub d.subscriber).nextEligible s.clk.earliestUnbuilt)) := by
  obtain ⟨-, e, live', state⟩ := (mem_placedNumbers wf n).1 listed
  cases live.symm.trans live'
  obtain ⟨a, b, u, ha, hb, before, after⟩ := Touched.foldl_split (Touched.launchOne 0)
    (nodup_of_ascend (placedNumbers_ascend wf)) listed (s.withBld { s.bld with air := .stopping })
  have reverted := launchOne_refiled ((before.live ha).trans live) state (kept := 0) (fun a _ => by simp)
  rw [before.nextEligible, before.clk] at reverted
  exact refiled_congr rfl rfl rfl rfl rfl (after.refiled_after hb (before.refiled_before reverted))

/-- The journal holds one record more for each delivery reverted that ended. -/
theorem offAir_journal {s : State} (wf : Table.wf .fresh s.dlv.records = true) :
    s.offAir.jnl.records.length =
      s.jnl.records.length + (s.placedNumbers.filter (fun n => (s.offAir.live n).isNone)).length := by
  obtain ⟨w, written, order, -, freed⟩ := s.offAir_touched.wrote
  have ascend := placedNumbers_ascend wf
  have numbers : w.map (fun u => u.ticket.number) = s.placedNumbers.filter (fun n => (s.offAir.live n).isNone) := by
    refine eq_of_ascend (ascend.sublist order) (ascend.filter _) fun n => ?_
    rw [List.mem_filter, Option.isNone_iff_eq_none]
    have live (listed : n ∈ s.placedNumbers) : s.live n ≠ none := by
      obtain ⟨-, d, live, -⟩ := (mem_placedNumbers wf n).1 listed
      simp [live]
    exact ⟨fun h => ⟨order.subset h, (freed n (live (order.subset h))).2 h⟩, fun ⟨listed, free⟩ => (freed n (live listed)).1 free⟩
  rw [written, List.length_append, ← numbers, List.length_map]
  rfl

/-! ### The images and maps discarded -/

theorem airOff_only : ∃ images maps, s.airOff =
    (s.offAir.withBld { s.offAir.bld with images := images }).withRcp { s.offAir.rcp with maps := maps } := by
  have discarded (l : List Nat) (t : State) : ∃ images maps, l.foldl discardNext t =
      (t.withBld { t.bld with images := images }).withRcp { t.rcp with maps := maps } := by
    induction l generalizing t with
    | nil => exact ⟨t.bld.images, t.rcp.maps, rfl⟩
    | cons g l ih =>
      obtain ⟨images, maps, rest⟩ := ih (discardNext t g)
      exact ⟨images, maps, rest⟩
  exact discarded groupNumbers s.offAir

theorem airOff_images {g : Nat} (hg : g < 4) : s.airOff.images g = { s.images g with next := none } := by
  have step : s.airOff.images g = _ := read_foldl_rewrite (read := State.images) (f := discardNext)
    (F := fun _ r => { r with next := none }) (P := fun _ => True) (fun _ _ _ => trivial)
    (fun t n k _ => by rw [discardNext, images_setMaps, images_setImages]; split <;> simp [*])
    nodup_groupNumbers (s := s.offAir) trivial g
  have images : s.offAir.images g = s.images g := by rw [State.images, offAir_bld]; rfl
  rw [step, if_pos ((mem_groupNumbers g).2 hg), images]

theorem airOff_maps {g : Nat} (hg : g < 4) : s.airOff.maps g = { s.offAir.maps g with building := none } := by
  have step : s.airOff.maps g = _ := read_foldl_rewrite (read := State.maps) (f := discardNext)
    (F := fun _ r => { r with building := none }) (P := fun _ => True) (fun _ _ _ => trivial)
    (fun t n k _ => by rw [discardNext, maps_setMaps, maps_setImages]; split <;> simp [*])
    nodup_groupNumbers (s := s.offAir) trivial g
  rw [step, if_pos ((mem_groupNumbers g).2 hg)]

theorem airOff_live (n : Nat) : s.airOff.live n = s.offAir.live n := by
  obtain ⟨_, _, h⟩ := s.airOff_only
  rw [h]
  rfl

theorem airOff_unplaced {n : Nat} (image : s.inNextImage n = true) : s.airOff.Unplaced n := by
  rw [Unplaced, airOff_live]
  exact s.offAir_unplaced image

theorem airOff_live_of_elsewhere {n : Nat} (image : s.inNextImage n = false) : s.airOff.live n = s.live n :=
  (s.airOff_live n).trans (s.offAir_live_of_elsewhere image)

theorem airOff_live_of_unlisted {n : Nat} (unlisted : n ∉ s.placedNumbers) : s.airOff.live n = s.live n :=
  (s.airOff_live n).trans (s.offAir_touched.live unlisted)

theorem airOff_refiled {s : State} (wf : Table.wf .fresh s.dlv.records = true) {n : Nat} {d : Delivery}
    (listed : n ∈ s.placedNumbers) (live : s.live n = some d) :
    s.refiled s.airOff n (d.undone ((s.sub d.subscriber).nextEligible s.clk.earliestUnbuilt)) := by
  obtain ⟨_, _, h⟩ := s.airOff_only
  rw [h]
  exact refiled_congr rfl rfl rfl rfl rfl (offAir_refiled wf listed live)

theorem airOff_journal {s : State} (wf : Table.wf .fresh s.dlv.records = true) :
    s.airOff.jnl.records.length =
      s.jnl.records.length + (s.placedNumbers.filter (fun n => (s.airOff.live n).isNone)).length := by
  have jnl : s.airOff.jnl = s.offAir.jnl := by
    obtain ⟨_, _, h⟩ := s.airOff_only
    rw [h]
    rfl
  simp only [jnl, airOff_live]
  exact offAir_journal wf

theorem airOff_bld_air : s.airOff.bld.air = .stopping := by
  obtain ⟨_, _, h⟩ := s.airOff_only
  rw [h, withRcp_bld, withBld_bld, offAir_bld]

/-- AIR OFF leaves the clock, the zones and the standing tables, and takes no part in the link. -/
theorem airOff_standing : s.airOff.clk = s.clk ∧ s.airOff.zon = s.zon ∧ s.airOff.dir.map = s.dir.map ∧
    s.airOff.act.tariffs = s.act.tariffs ∧ s.airOff.pending = s.pending ∧
    s.airOff.lnk.requests = s.lnk.requests ∧ s.airOff.lnk.replies = s.lnk.replies := by
  obtain ⟨_, _, h⟩ := s.airOff_only
  rw [h]
  have reverts := s.offAir_touched
  exact ⟨reverts.clk, reverts.zon, reverts.map, reverts.tariffs, reverts.pending, reverts.requests, reverts.replies⟩

end State

/-! ### The two requests -/

theorem images_answered (u : State) (r : LinkRecord) (a : Answer) (g : Nat) : (u.answered r a).images g = u.images g := rfl

theorem maps_answered (u : State) (r : LinkRecord) (a : Answer) (g : Nat) : (u.answered r a).maps g = u.maps g := rfl

theorem serveAirOn_of_halted {s : State} (air : s.bld.air = .halted) (running : s.clk.state = .running) :
    serveAirOn [] s = (s.withBld { s.bld with air := .on },
      .accept (ser4 (if s.clk.buildPassed then s.clk.serial + 2 else s.clk.serial + 1))) := by
  simp [serveAirOn, air, running, Clock.earliestUnbuilt]

theorem serveAirOff_of_on {s : State} (air : s.bld.air = .on) :
    serveAirOff [] s = (s.airOff, .accept (num1 s.nextImages ++
      num2 (s.placedNumbers.filter (fun n => (s.airOff.live n).isSome)).length ++
      num2 (s.placedNumbers.filter (fun n => (s.airOff.live n).isNone)).length)) := by
  have ended : (s.placedNumbers.filter (fun n => (s.offAir.live n).isNone)).length =
      s.placedNumbers.length - (s.placedNumbers.filter (fun n => (s.offAir.live n).isSome)).length := by
    have parts := List.length_eq_length_filter_add (l := s.placedNumbers) (fun n => (s.offAir.live n).isSome)
    simp only [Option.not_isSome] at parts
    omega
  have reverts : revertOne = launchOne 0 := funext₂ revertOne_eq
  simp only [State.airOff_live, ended]
  simp only [serveAirOff, air, reverts]
  rfl

/-- Settles O44: AIR OFF reverts the deliveries of the next images, then discards the images; the slots freed and the fates of
the deliveries are those of a boundary that keeps no group. -/
theorem airTurnsOnAndOff : Obligations.AirTurnsOnAndOff := by
  unfold Obligations.AirTurnsOnAndOff
  refine ⟨fun s tag ready => ⟨fun wrong => ?onRefused, fun stopping => ?onBusy, fun halted running => ?on⟩,
    fun s tag ready => ⟨fun halted => ?offRefused, fun stopping => ?offBusy, fun air => ?off⟩,
    fun s t tag placed ready air wf ran ascend members => ?counts, fun s tag p ready length => ?onMalformed,
    fun s tag p ready length => ?offMalformed⟩
  case onRefused =>
    refine refuses_of_served (serve := serveAirOn) rfl ready ?_
    obtain air | ⟨air, stopped⟩ := wrong
    · simp [serveAirOn, State.taken, air]
    · simp [serveAirOn, State.taken, air, stopped]
  case onBusy => exact refuses_of_served (serve := serveAirOn) rfl ready (by simp [serveAirOn, State.taken, stopping])
  case on => exact exec_of_served (serve := serveAirOn) rfl ready (serveAirOn_of_halted (s := s.taken) halted running)
  case offRefused => exact refuses_of_served (serve := serveAirOff) rfl ready (by simp [serveAirOff, State.taken, halted])
  case offBusy => exact refuses_of_served (serve := serveAirOff) rfl ready (by simp [serveAirOff, State.taken, stopping])
  case off =>
    have off := exec_of_served (c := .airOff tag []) (serve := serveAirOff) rfl ready (serveAirOff_of_on (s := s.taken) air)
    obtain ⟨clk, zon, map, tariffs, pending, -⟩ := s.taken.airOff_standing
    have stopping := s.taken.airOff_bld_air
    have images {g : Nat} (hg : g < 4) := s.taken.airOff_images hg
    have maps {g : Nat} (hg : g < 4) := s.taken.airOff_maps hg
    have unplaced {n : Nat} (image : s.inNextImage n = true) := s.taken.airOff_unplaced image
    have elsewhere {n : Nat} (image : s.inNextImage n = false) := s.taken.airOff_live_of_elsewhere image
    generalize s.taken.airOff = u at *
    refine ⟨_, off, stopping, fun g hg => ?_, fun n image => unplaced image, fun n image => elsewhere image, clk, zon, map, tariffs,
      pending⟩
    rw [images_answered, maps_answered, images hg, maps hg]
    exact ⟨rfl, rfl, rfl, rfl, rfl, rfl, rfl⟩
  case counts =>
    have off := exec_of_served (c := .airOff tag []) (serve := serveAirOff) rfl ready (serveAirOff_of_on (s := s.taken) air)
    cases off.symm.trans ran
    have wf' : Table.wf .fresh s.taken.dlv.records = true := wf
    have all : placed = s.taken.placedNumbers :=
      eq_of_ascend ascend (State.placedNumbers_ascend wf') fun n => (members n).trans (State.mem_placedNumbers wf' n).symm
    obtain ⟨-, -, -, -, -, requests, replies⟩ := s.taken.airOff_standing
    have elsewhere {n : Nat} (unlisted : n ∉ s.taken.placedNumbers) := s.taken.airOff_live_of_unlisted unlisted
    have refiled {n : Nat} {d : Delivery} (listed : n ∈ s.taken.placedNumbers) := State.airOff_refiled wf' (d := d) listed
    have maps {g : Nat} (hg : g < 4) := s.taken.airOff_maps hg
    have freed (g : Nat) := State.offAir_maps wf' g
    have jnl := State.airOff_journal wf'
    subst all
    generalize s.taken.airOff = u at *
    refine ⟨fun n d live => ⟨fun unlisted => (elsewhere unlisted).trans live, fun listed => refiled listed live⟩, fun g hg => ?_,
      jnl, u, requests, replies, rfl⟩
    obtain ⟨-, current, previous⟩ := freed g
    rw [maps_answered, maps hg]
    exact ⟨current, previous⟩
  case onMalformed => exact refuses_of_served (serve := serveAirOn) rfl ready (if_pos length)
  case offMalformed => exact refuses_of_served (serve := serveAirOff) rfl ready (if_pos length)

end Sys2Proof.Machine
end

section
/-! PROOFS. TRAFFIC RESET (R88, R89, R132, R162, R175): the deliveries are ended one after another, each settled without charge. -/

namespace Sys2Proof.Machine

/-! ### One settlement without charge -/

/-- A cancelled delivery is settled for nothing (R40, R41, R85). -/
theorem State.usageOf_cancelled (s : State) (n : Nat) (d : Delivery) (r : Reason) :
    (s.usageOf n d .cancelled r).charge = 0 ∧ (s.usageOf n d .cancelled r).flags = .clear ∧
    (s.usageOf n d .cancelled r).chargeSpan = 0 := ⟨rfl, rfl, rfl⟩

theorem noticeDue_cancelled (m : NoticeMode) : noticeDue m .cancelled = true ↔ m ≠ .none := by
  cases m <;> simp [noticeDue]

namespace State

/-- The notices of the settlement that writes the `i`-th usage record of a reset (R167, R171). -/
def resetNotice (s : State) (i : Nat) (w : UsageRecord) : List (Byte × List Byte) :=
  (if s.jnl.records.length + i + 1 = s.jnl.watermark then
    [(0x84, num2 (s.jnl.records.length + i + 1) ++ num2 (s.jnl.reservation - (i + 1)) ++ num2 s.jnl.watermark ++
      ser4 w.sequence)] else []) ++
  (if (s.fields w.ticket.number).noticeMode = .none then [] else [(0x81, deliveryNoticeFields w)])

/-- The notices of all settlements of a reset, in their turn. -/
def resetNotices (s : State) (written : List UsageRecord) : List (Byte × List Byte) :=
  ((List.range written.length).map (fun i => match written[i]? with
    | some w => s.resetNotice i w
    | none => [])).flatten

theorem resetNotices_append (s : State) (written : List UsageRecord) (w : UsageRecord) :
    s.resetNotices (written ++ [w]) = s.resetNotices written ++ s.resetNotice written.length w := by
  have before (i : Nat) (hi : i ∈ List.range written.length) : (written ++ [w])[i]? = written[i]? :=
    List.getElem?_append_left (List.mem_range.1 hi)
  simp only [resetNotices, List.length_append, List.length_singleton, List.range_succ, List.map_append, List.map_singleton,
    List.flatten_append, List.getElem?_concat_length, List.flatten_singleton]
  congr 2
  exact List.map_congr_left fun i hi => by rw [before i hi]

/-- The deliveries of a list, with what their records held. -/
def held (s : State) (l : List Nat) : List Delivery := l.filterMap s.live

theorem held_append {s : State} {l : List Nat} {n : Nat} {d : Delivery} (live : s.live n = some d) :
    s.held (l ++ [n]) = s.held l ++ [d] := by simp [held, live]

/-- The deliveries of a list have been ended CANCELLED RESET, and `w` are their usage records (R175). -/
structure Reset (l : List Nat) (w : List UsageRecord) (s t : State) : Prop where
  touched : Touched l s t
  jnl : t.jnl = { s.jnl with
    records := s.jnl.records ++ w, reservation := s.jnl.reservation - w.length,
    sequence := s.jnl.sequence + BitVec.ofNat 32 w.length }
  numbers : w.map (fun u => u.ticket.number) = l
  sequence : ∀ i u, w[i]? = some u → u.sequence = s.jnl.sequence + BitVec.ofNat 32 i
  each : ∀ u ∈ w, u.ending = .cancelled ∧ u.reason = .reset ∧ u.charge = 0 ∧ u.chargeSpan = 0 ∧ u.flags = .clear ∧
    u.endSerial = s.clk.serial
  lnk : t.lnk = s.lnk.raise (s.resetNotices w)
  live : ∀ m, t.live m = if m ∈ l then none else s.live m
  acct : ∀ k, t.acct k = ((s.held l).filter (fun d => d.account = k)).foldl (fun a d => a.settle 0 d.hold) (s.acct k)
  sub : ∀ m, t.sub m = { s.sub m with
    live := (s.sub m).live - ((s.held l).filter (fun d => d.subscriber = m)).length }
  bld : t.bld = s.bld
  rcp : t.rcp = s.rcp

theorem Reset.nil (s : State) : Reset [] [] s s where
  touched := .refl s
  jnl := by simp
  numbers := rfl
  sequence := by simp
  each := by simp
  lnk := rfl
  live := by simp
  acct _ := rfl
  sub _ := rfl
  bld := rfl
  rcp := rfl

/-- One delivery more is ended. -/
theorem Reset.snoc {l : List Nat} {w : List UsageRecord} {s t : State} {n : Nat} {d : Delivery} (h : Reset l w s t)
    (new : n ∉ l) (found : s.live n = some d) :
    Reset (l ++ [n]) (w ++ [t.usageOf n d .cancelled .reset]) s (cancelOne t n) := by
  have live : t.live n = some d := by rw [h.live, if_neg new, found]
  have ends : cancelOne t n = t.endDelivery n d .cancelled .reset := by simp [cancelOne, live]
  have length : w.length = l.length := by rw [← h.numbers, List.length_map]
  exact {
    touched := h.touched.trans (.cancelOne t n)
    jnl := by
      rw [ends, endDelivery_jnl, h.jnl, Journal.append]
      simp [Nat.sub_sub, BitVec.ofNat_add, BitVec.add_assoc]
    numbers := by rw [List.map_append, h.numbers]; rfl
    sequence := fun i u hu => by
      by_cases before : i < w.length
      · exact h.sequence i u (by rwa [List.getElem?_append_left before] at hu)
      · rw [List.getElem?_append_right (by omega), List.getElem?_singleton] at hu
        split at hu
        · cases hu
          rw [show i = w.length by omega]
          exact congrArg Journal.sequence h.jnl
        · cases hu
    each := fun u hu => by
      rcases List.mem_append.1 hu with hu | hu
      · exact h.each u hu
      · rw [List.mem_singleton.1 hu]
        exact ⟨rfl, rfl, rfl, rfl, rfl, congrArg Clock.serial h.touched.clk⟩
    lnk := by
      have mode : (s.fields (t.usageOf n d .cancelled .reset).ticket.number).noticeMode = d.noticeMode := by
        rw [show (t.usageOf n d .cancelled .reset).ticket.number = n from rfl, fields_of_live s found]
      have occupancy : t.jnl.records.length = s.jnl.records.length + w.length := by rw [h.jnl, List.length_append]
      have reservation : t.jnl.reservation - 1 = s.jnl.reservation - (w.length + 1) := by rw [h.jnl, Nat.sub_sub]
      have watermark : t.jnl.watermark = s.jnl.watermark := by rw [h.jnl]
      rw [ends, endDelivery_lnk, resetNotices_append, Link.raise_append, ← h.lnk, resetNotice, mode]
      simp only [Journal.noticeFields_append, noticeDue_cancelled, occupancy, reservation, watermark]
      by_cases marked : s.jnl.records.length + w.length + 1 = s.jnl.watermark <;>
        by_cases silent : d.noticeMode = .none <;> simp [marked, silent]
    live := fun m => by
      rw [ends, endDelivery_live, h.live]
      by_cases same : m = n <;> simp [same]
    acct := fun k => by
      rw [ends, endDelivery_acct, held_append found, List.filter_append, List.foldl_append, h.acct]
      by_cases own : k = d.account
      · simp [own, usageOf_cancelled]
      · simp [own, Ne.symm own]
    sub := fun m => by
      rw [ends, endDelivery_sub, held_append found, List.filter_append, List.length_append, h.sub]
      by_cases own : m = d.subscriber
      · simp [own, Nat.sub_sub]
      · simp [own, Ne.symm own]
    bld := by rw [ends, endDelivery_bld, h.bld]
    rcp := by rw [ends, endDelivery_rcp, h.rcp] }

theorem foldl_cancelOne_reset {s : State} {l : List Nat} (nodup : l.Nodup) (found : ∀ n ∈ l, ∃ d, s.live n = some d) :
    ∃ w, Reset l w s (l.foldl cancelOne s) := by
  induction l using List.reverseRecOn with
  | nil => exact ⟨[], .nil s⟩
  | append_singleton l n ih =>
    obtain ⟨rest, -, apart⟩ := List.nodup_append.1 nodup
    obtain ⟨w, ended⟩ := ih rest fun m hm => found m (List.mem_append_left _ hm)
    obtain ⟨d, live⟩ := found n (by simp)
    rw [List.foldl_append]
    exact ⟨_, ended.snoc (fun hn => apart n hn n (by simp) rfl) live⟩

end State

/-! ### What the settlements leave in an account (R20, R41) -/

/-- Two counts up to one bound add up to one count up to it. -/
theorem min_min_add (x k top : Nat) : min (min (x + 1) top + k) top = min (x + (k + 1)) top := by omega

theorem Account.settle_without_charge (a : Account) (hold : Nat) (low : -8388608 ≤ a.balance)
    (charged : a.charged ≤ 4294967295) :
    a.settle 0 hold = { a with reserved := a.reserved - hold, settled := min (a.settled + 1) 4294967295 } := by
  have kept : max a.balance Config.balanceMin = a.balance := max_eq_left low
  have same : min a.charged Config.count32Max = a.charged := Nat.min_eq_left charged
  simp [settle, satAdd, kept, same, Config.count32Max]

/-- The account after a run of settlements without charge. -/
theorem Account.settled_without_charge (l : List Delivery) (a : Account) :
    let b := l.foldl (fun a d => a.settle 0 d.hold) a
    (b.credit = a.credit ∧ b.state = a.state ∧ b.tariff = a.tariff ∧ b.links = a.links) ∧
    (-8388608 ≤ a.balance → b.balance = a.balance) ∧
    (-8388608 ≤ a.balance → a.settled ≤ 4294967295 → a.charged ≤ 4294967295 →
      b = { a with reserved := a.reserved - (l.map (fun d => d.hold)).sum, settled := min (a.settled + l.length) 4294967295 }) := by
  induction l generalizing a with
  | nil =>
    refine ⟨⟨rfl, rfl, rfl, rfl⟩, fun _ => rfl, fun _ settled _ => ?_⟩
    have bounded : min a.settled 4294967295 = a.settled := Nat.min_eq_left settled
    simp [bounded]
  | cons d l ih =>
    obtain ⟨standing, balance, rest⟩ := ih (a.settle 0 d.hold)
    have kept (low : -8388608 ≤ a.balance) : (a.settle 0 d.hold).balance = a.balance := by
      rw [Account.settle, Int.natCast_zero, Int.sub_zero]
      exact max_eq_left low
    refine ⟨standing, fun low => (balance (by rwa [kept low])).trans (kept low), fun low settled charged => ?_⟩
    have free := a.settle_without_charge d.hold low charged
    rw [free] at rest
    rw [List.foldl_cons, free, rest low (Nat.min_le_right ..) charged, List.map_cons, List.sum_cons, List.length_cons]
    simp [Nat.sub_sub, min_min_add]

/-! ### The maps and images emptied (R132, R162) -/

theorem ReceiptMap.emptied_rewritten (m : ReceiptMap) : m.rewritten m.emptied (fun _ => True) .empty :=
  ⟨rfl, fun _ => ⟨fun _ => rfl, fun h => absurd trivial h⟩⟩

theorem rewrittenRole_emptied (o : Option ReceiptMap) :
    rewrittenRole (fun _ _ => True) .empty o (o.map ReceiptMap.emptied) := by
  cases o with
  | none => rfl
  | some m => exact m.emptied_rewritten

theorem Image.emptied_eq (i : Image) : i.emptied = { i with
    pages := [],
    words := [0x2DB4, 0xD24B, i.frameWord, BitVec.ofNat 16 (i.slotCount * 8)] ++ List.replicate i.capacity 0xC3C3 } := by
  have padded : paddedTo i.depth 0 = 0 := by
    unfold paddedTo
    obtain zero | positive := Nat.eq_zero_or_pos i.depth
    · simp [zero]
    · rw [Nat.div_eq_of_lt (by omega), Nat.zero_mul]
  simp [emptied, layout, frameWord, fieldWord, p, m, Image.padded, Image.used, padded, fillWord]

namespace State

/-- The state after a TRAFFIC RESET (R175). -/
def trafficReset (s : State) : State :=
  groupNumbers.foldl emptyNext (groupNumbers.foldl emptyMaps (s.liveNumbers.foldl cancelOne s))

variable (s : State)

theorem cancelOne_bld (n : Nat) : (cancelOne s n).bld = s.bld := by
  unfold cancelOne
  split
  · exact endDelivery_bld ..
  · rfl

theorem cancelOne_rcp (n : Nat) : (cancelOne s n).rcp = s.rcp := by
  unfold cancelOne
  split
  · exact endDelivery_rcp ..
  · rfl

theorem maps_of_rcp {s t : State} (h : t.rcp = s.rcp) (g : Nat) : t.maps g = s.maps g := by rw [maps, h]; rfl

theorem trafficReset_only : ∃ images maps, s.trafficReset =
    ((s.liveNumbers.foldl cancelOne s).withRcp { (s.liveNumbers.foldl cancelOne s).rcp with maps := maps }).withBld
      { (s.liveNumbers.foldl cancelOne s).bld with images := images } := by
  have maps (l : List Nat) (t : State) : ∃ maps, l.foldl emptyMaps t = t.withRcp { t.rcp with maps := maps } := by
    induction l generalizing t with
    | nil => exact ⟨t.rcp.maps, rfl⟩
    | cons g l ih =>
      obtain ⟨maps, rest⟩ := ih (emptyMaps t g)
      exact ⟨maps, rest⟩
  have images (l : List Nat) (t : State) : ∃ images, l.foldl emptyNext t = t.withBld { t.bld with images := images } := by
    induction l generalizing t with
    | nil => exact ⟨t.bld.images, rfl⟩
    | cons g l ih =>
      obtain ⟨images, rest⟩ := ih (emptyNext t g)
      exact ⟨images, rest⟩
  obtain ⟨m, emptied⟩ := maps groupNumbers (s.liveNumbers.foldl cancelOne s)
  obtain ⟨i, replaced⟩ := images groupNumbers (groupNumbers.foldl emptyMaps (s.liveNumbers.foldl cancelOne s))
  rw [emptied] at replaced
  exact ⟨i, m, by rw [trafficReset, emptied, replaced]; rfl⟩

theorem trafficReset_images {g : Nat} (hg : g < 4) :
    s.trafficReset.images g = { s.images g with next := (s.images g).next.map Image.emptied } := by
  have ended : (s.liveNumbers.foldl cancelOne s).images g = s.images g :=
    foldl_fixed (f := cancelOne) (read := fun s => s.images g) (fun s n => images_of_bld (cancelOne_bld s n) g) _ _
  have step := read_foldl_rewrite (read := State.images) (f := emptyNext)
    (F := fun _ r => { r with next := r.next.map Image.emptied }) (P := fun _ => True) (fun _ _ _ => trivial)
    (fun t n k _ => by rw [emptyNext, images_setImages]; split <;> simp [*])
    nodup_groupNumbers (s := groupNumbers.foldl emptyMaps (s.liveNumbers.foldl cancelOne s)) trivial g
  rw [trafficReset, step, if_pos ((mem_groupNumbers g).2 hg),
    foldl_fixed (f := emptyMaps) (read := fun s => s.images g) (fun _ _ => rfl), ended]

theorem trafficReset_maps {g : Nat} (hg : g < 4) :
    (s.maps g).rewritten (s.trafficReset.maps g) (fun _ _ => True) .empty := by
  have ended : (s.liveNumbers.foldl cancelOne s).maps g = s.maps g :=
    foldl_fixed (f := cancelOne) (read := fun s => s.maps g) (fun s n => maps_of_rcp (cancelOne_rcp s n) g) _ _
  have step := read_foldl_rewrite (read := State.maps) (f := emptyMaps)
    (F := fun _ r => { building := r.building.map ReceiptMap.emptied, current := r.current.map ReceiptMap.emptied,
                       previous := r.previous.map ReceiptMap.emptied }) (P := fun _ => True) (fun _ _ _ => trivial)
    (fun t n k _ => by rw [emptyMaps, maps_setMaps]; split <;> simp [*])
    nodup_groupNumbers (s := s.liveNumbers.foldl cancelOne s) trivial g
  rw [trafficReset, foldl_fixed (f := emptyNext) (read := fun s => s.maps g) (fun _ _ => rfl), step,
    if_pos ((mem_groupNumbers g).2 hg), ended]
  exact ⟨rewrittenRole_emptied _, rewrittenRole_emptied _, rewrittenRole_emptied _⟩

theorem trafficReset_moves : Moves s s.trafficReset := serveTrafficReset_moves [] s

theorem liveNumbers_nodup {s : State} (wf : Table.wf .fresh s.dlv.records = true) : s.liveNumbers.Nodup :=
  nodup_of_ascend (liveWhere_ascend wf _)

theorem live_of_mem_liveNumbers {s : State} (wf : Table.wf .fresh s.dlv.records = true) {n : Nat} (h : n ∈ s.liveNumbers) :
    ∃ d, s.live n = some d := by
  obtain ⟨d, live, -⟩ := (mem_liveWhere wf _ n).1 h
  exact ⟨d, live⟩

/-- With every delivery ended, none is live (R88). -/
theorem Reset.none_live {s t : State} {w : List UsageRecord} (h : Reset s.liveNumbers w s t) (n : Nat) : t.live n = none := by
  rw [h.live]
  split
  · rfl
  · rename_i unlisted
    exact Option.eq_none_iff_forall_not_mem.2 fun d live => unlisted (mem_liveNumbers live)

theorem liveTotal_of_none_live {s : State} (wf : Table.wf .fresh s.dlv.records = true) (none : ∀ n, s.live n = none) :
    s.liveTotal = 0 := by
  refine List.length_eq_zero_iff.2 (List.eq_nil_iff_forall_not_mem.2 fun n listed => ?_)
  obtain ⟨d, live⟩ := live_of_mem_liveNumbers wf listed
  cases (none n).symm.trans live

/-- With no delivery live the calendar is empty (R74). -/
theorem calList_of_none_live {s : State} (agrees : s.calendarAgrees) (none : ∀ n, s.live n = none) (k : Nat) :
    s.calList k = [] := by
  refine List.eq_nil_iff_forall_not_mem.2 fun n listed => ?_
  obtain ⟨d, live, -⟩ := ((agrees k).2 n).1 listed
  cases (none n).symm.trans live

/-- With no delivery live every body is free (R66). -/
theorem inUse_of_none_live {s : State} (agrees : s.bodiesAgree) (none : ∀ n, s.live n = none) (b : Nat) :
    (s.body b).inUse = false := by
  have no_holder : (s.liveDeliveries.filter (fun d => d.body = b)).length = 0 := by
    have empty : s.liveNumbers = [] := List.length_eq_zero_iff.1 (liveTotal_of_none_live agrees.1 none)
    simp [liveDeliveries, empty]
  obtain ⟨refs, used⟩ := agrees.2 b
  rw [refs, no_holder] at used
  simpa using used

theorem trafficReset_agrees {s : State} (agrees : s.calendarAgrees) : s.trafficReset.calendarAgrees := by
  have ended := foldl_keeps cancelOne_agrees s.liveNumbers s agrees
  obtain ⟨_, _, h⟩ := s.trafficReset_only
  rw [h]
  exact ended

end State

theorem acct_answered (u : State) (r : LinkRecord) (a : Answer) (k : Nat) : (u.answered r a).acct k = u.acct k := rfl

theorem serveTrafficReset_eq (s : State) :
    serveTrafficReset [] s = (s.trafficReset,
      .accept (num2 s.liveTotal ++ ser4 s.jnl.sequence ++ num2 s.trafficReset.jnl.records.length)) := rfl

/-- Settles O52: the deliveries are ended one by one, the state after each holding what `State.Reset` says, and then the maps and
the next images are emptied. -/
theorem trafficResetEndsEveryDelivery : Obligations.TrafficResetEndsEveryDelivery := by
  unfold Obligations.TrafficResetEndsEveryDelivery
  refine ⟨fun s tag wf ready => ?_, fun s tag p ready length => refuses_of_served (serve := serveTrafficReset) rfl ready (if_pos length)⟩
  have wf' : Table.wf .fresh s.taken.dlv.records = true := wf
  have run := exec_of_served (c := .trafficReset tag []) (serve := serveTrafficReset) rfl ready (serveTrafficReset_eq s.taken)
  obtain ⟨w, reset⟩ := State.foldl_cancelOne_reset (State.liveNumbers_nodup wf') fun n => State.live_of_mem_liveNumbers wf'
  have images {g : Nat} (hg : g < 4) := s.taken.trafficReset_images hg
  have maps {g : Nat} (hg : g < 4) := s.taken.trafficReset_maps hg
  have canonical := s.taken.trafficReset_moves.keep (fun _ _ => State.wf_records_move) wf'
  have calendar (agrees : s.taken.calendarAgrees) := State.trafficReset_agrees agrees
  have bodies (agrees : s.taken.bodiesAgree) := s.taken.trafficReset_moves.keep (fun _ _ => State.bodiesAgree_move) agrees
  obtain ⟨_, _, only⟩ := s.taken.trafficReset_only
  generalize s.taken.trafficReset = u at *
  generalize s.taken.liveNumbers.foldl cancelOne s.taken = ended at *
  have live (n : Nat) : u.live n = none := by rw [only]; exact reset.none_live n
  have touched : Touched s.taken.liveNumbers s.taken u := by
    rw [only]
    exact (reset.touched.after (.withRcpMaps ..)).after (.withImages ..)
  have link : u.lnk = s.taken.lnk.raise (s.taken.resetNotices w) := by rw [only]; exact reset.lnk
  have jnl : u.jnl = _ := (show u.jnl = ended.jnl by rw [only]; rfl).trans reset.jnl
  have acct (k : Nat) : u.acct k = _ := (show u.acct k = ended.acct k by rw [only]; rfl).trans (reset.acct k)
  have sub (m : Nat) : u.sub m = _ := (show u.sub m = ended.sub m by rw [only]; rfl).trans (reset.sub m)
  have counters : u.rcp.counters = s.rcp.counters := 
    (show u.rcp.counters = ended.rcp.counters by rw [only]; rfl).trans (congrArg ReceiptUnit.counters reset.rcp)
  have length : w.length = s.liveTotal := by rw [← List.length_map, reset.numbers]; rfl
  refine ⟨_, w, run, ⟨u, link, ?answer⟩, fun n => ⟨live n, State.fields_of_free u (live n), touched.issue n⟩, ?total,
    touched.sequence, congrArg Journal.records jnl, touched.watermark, congrArg Journal.reservation jnl, reset.sequence,
    reset.numbers, State.liveWhere_ascend wf _, reset.each, fun g hg => ⟨?images, maps hg⟩, sub, fun k held hheld => ?account,
    fun k => ?standing, touched.profile, fun agrees => State.calList_of_none_live (calendar agrees) live,
    fun agrees => State.inUse_of_none_live (bodies agrees) live, touched.clk, touched.zon, touched.air, touched.map,
    touched.tariffs, touched.queue, counters, touched.pending⟩
  case answer =>
    have occupancy : u.jnl.records.length = s.jnl.records.length + s.liveTotal := by
      rw [jnl, ← length]; exact List.length_append
    rw [occupancy]
    rfl
  case total => exact State.liveTotal_of_none_live (s := u) canonical live
  case images =>
    rw [images_answered, images hg, funext Image.emptied_eq]
    rfl
  case account =>
    intro low settled charged
    obtain ⟨-, -, after⟩ := (s.acct k).settled_without_charge held
    have ended := after low settled charged
    rw [hheld] at ended ⊢
    exact (acct k).trans ended
  case standing =>
    obtain ⟨⟨credit, state, tariff, links⟩, balance, -⟩ :=
      (s.acct k).settled_without_charge (s.liveDeliveries.filter (fun d => d.account = k))
    have same : u.acct k = _ := acct k
    rw [acct_answered, same]
    exact ⟨credit, state, tariff, links, balance⟩

end Sys2Proof.Machine
end

section
/-! PROOFS. The walk of a build (R75 to R78, R126 to R130, R144): what one visit does, and what the images and maps of the frame
built hold as the walk goes on. -/

namespace Sys2Proof.Machine

/-! ### Serials after the one built (R7, R73) -/

/-- A serial at most half the counter ahead of another is beyond it (R73). -/
theorem beyond_of_ahead {due x : Serial} {k : Nat} (near : k < 2 ^ 30) (h : due = x + 1 + BitVec.ofNat 32 k) :
    beyond due x = true := by
  have apart : (x - due).toNat = 2 ^ 32 - (k + 1) := by
    subst h
    bv_omega
  simp only [beyond, atOrBefore, Bool.not_eq_true', decide_eq_false_iff_not]
  omega

/-- The next eligible serial after one is beyond it: the interval is at most 64 frames (R7, R75). -/
theorem Subscriber.nextEligible_beyond {u : Subscriber} (short : u.interval ≤ 64) (x : Serial) :
    beyond (u.nextEligible (x + 1)) x = true := by
  refine beyond_of_ahead (k := (homeFrame u.address % u.interval + u.interval - (x + 1).toNat % u.interval) % u.interval) ?_ rfl
  obtain zero | positive := Nat.eq_zero_or_pos u.interval
  · have home : homeFrame u.address < 64 := Nat.mod_lt _ (by decide)
    simp only [zero, Nat.mod_zero]
    omega
  · have := Nat.mod_lt (homeFrame u.address % u.interval + u.interval - (x + 1).toNat % u.interval) positive
    omega

namespace State

/-! ### One visit (R76) -/

section Visit

variable {x : Serial} {s : State} {n : Nat} {d : Delivery}

theorem visit_idle (none : s.live n = none) : visit x s n = s := by simp [visit, none]

theorem visit_later (live : s.live n = some d) (later : beyond d.due x = true) : visit x s n = s := by
  simp [visit, live, later]

theorem visit_late (live : s.live n = some d) (due : beyond d.due x = false) (late : beyond x d.deadline = true) :
    visit x s n = s.endDelivery n d .expired .lifetime := by simp [visit, live, due, late]

theorem visit_ineligible (live : s.live n = some d) (due : beyond d.due x = false) (inTime : beyond x d.deadline = false)
    (ineligible : (s.sub d.subscriber).eligible x = false) :
    visit x s n = s.refile n d ((s.sub d.subscriber).nextEligible (x + 1)) := by
  simp [visit, live, due, inTime, ineligible, nextFor]

theorem visit_eligible (live : s.live n = some d) (due : beyond d.due x = false) (inTime : beyond x d.deadline = false)
    (eligible : (s.sub d.subscriber).eligible x = true) : visit x s n = s.tryPlace n d x := by
  simp [visit, live, due, inTime, eligible]

/-- A delivery that the visit finds passes every test of the walk and is placed (R76, R126 to R129). -/
structure Placeable (x : Serial) (s : State) (n : Nat) (d : Delivery) : Prop where
  live : s.live n = some d
  due : beyond d.due x = false
  inTime : beyond x d.deadline = false
  eligible : (s.sub d.subscriber).eligible x = true
  nonempty : s.candidates d x ≠ 0
  pass : ∀ g ∈ members 4 (s.candidates d x), s.groupPasses d g = true

theorem Placeable.visit_eq (h : Placeable x s n d) : visit x s n = s.place n d x (s.candidates d x) :=
  (visit_eligible h.live h.due h.inTime h.eligible).trans (place_of_passes h.nonempty h.pass)

/-- An eligible delivery is placed, or deferred (R77, R78). -/
theorem placeable_or_deferred (live : s.live n = some d) (due : beyond d.due x = false) (inTime : beyond x d.deadline = false)
    (eligible : (s.sub d.subscriber).eligible x = true) : Placeable x s n d ∨ visit x s n = s.defer n d x := by
  by_cases passes : s.candidates d x ≠ 0 ∧ ∀ g ∈ members 4 (s.candidates d x), s.groupPasses d g = true
  · exact .inl ⟨live, due, inTime, eligible, passes.1, passes.2⟩
  · refine .inr ((visit_eligible live due inTime eligible).trans (defer_of_fails ?_))
    by_contra none
    push Not at none
    exact passes ⟨none.1, fun g hg => by simpa using none.2 g hg⟩

/-- A visit that places nothing writes no image and no map. -/
theorem visit_unplaced (h : ∀ d, ¬Placeable x s n d) : (visit x s n).bld = s.bld ∧ (visit x s n).rcp = s.rcp := by
  cases live : s.live n with
  | none => rw [visit_idle live]; exact ⟨rfl, rfl⟩
  | some d =>
    cases due : beyond d.due x with
    | true => rw [visit_later live due]; exact ⟨rfl, rfl⟩
    | false =>
      cases inTime : beyond x d.deadline with
      | true => rw [visit_late live due inTime]; exact ⟨endDelivery_bld .., endDelivery_rcp ..⟩
      | false =>
        cases eligible : (s.sub d.subscriber).eligible x with
        | false => rw [visit_ineligible live due inTime eligible]; exact ⟨refile_bld .., refile_rcp ..⟩
        | true =>
          rw [(placeable_or_deferred live due inTime eligible).resolve_left (h d)]
          exact ⟨refile_bld .., refile_rcp ..⟩

theorem refile_beyond {due : Serial} {e : Delivery} (later : beyond due x = true) (after : (s.refile n d due).live n = some e) :
    beyond e.due x = true := by
  rw [refile_live, if_pos rfl] at after
  split at after
  · cases after
  · cases after; exact later

/-- A delivery that stands in a calendar list after its visit is due later (R75). -/
theorem visit_leaves_later (short : ∀ m, (s.sub m).interval ≤ 64) {e : Delivery} (after : (visit x s n).live n = some e)
    (waiting : e.state.waiting = true) : beyond e.due x = true := by
  cases live : s.live n with
  | none => rw [visit_idle live, live] at after; cases after
  | some d =>
    have next := (s.sub d.subscriber).nextEligible_beyond (short d.subscriber) x
    cases due : beyond d.due x with
    | true => rw [visit_later live due, live] at after; cases after; exact due
    | false =>
      cases inTime : beyond x d.deadline with
      | true => rw [visit_late live due inTime, endDelivery_live, if_pos rfl] at after; cases after
      | false =>
        cases eligible : (s.sub d.subscriber).eligible x with
        | false => rw [visit_ineligible live due inTime eligible] at after; exact refile_beyond next after
        | true =>
          obtain placed | deferred := placeable_or_deferred live due inTime eligible
          · rw [placed.visit_eq, place_live] at after
            cases after
            cases waiting
          · rw [deferred] at after
            exact refile_beyond next after

end Visit

/-! ### The images and maps of the frame built, as the walk goes on -/

/-- The entry of a page list tells its placed delivery (R78, R121, R130). -/
def Enters (s : State) (x : Serial) (g : Nat) (e : PageEntry) : Prop :=
  ∃ (d : Delivery) (a : Attempt), s.live e.ticket.number = some d ∧ d.state = .placed ∧ d.last = some a ∧ a.serial = x ∧
    a.carried.getLsbD g = true ∧ e.ticket = s.ticket e.ticket.number ∧ e.address = (s.sub d.subscriber).address ∧
    e.encoding = d.encoding ∧ e.bodyWords = d.words - 2 ∧ e.mark = a.mark ∧ (d.kind = .oneWay → e.slot = none) ∧
    (d.kind = .twoWay → ∃ j, e.slot = some j ∧ (g, j) ∈ a.slots)

/-- The slot names a delivery of the list that this walk placed in it (R78, R144). -/
def Claims (s : State) (x : Serial) (g : Nat) (l : List Nat) (m : ReceiptMap) (j : Nat) : Prop :=
  ∃ (n : Nat) (d : Delivery) (a : Attempt), m.slot j = .claimed (s.ticket n) ∧ m.usable.getLsbD j = true ∧ n ∈ l ∧
    s.live n = some d ∧ d.state = .placed ∧ d.last = some a ∧ a.serial = x ∧ (g, j) ∈ a.slots

/-- The next image of the group, opened on the plan, holds entries of the deliveries of the list that this walk placed, in the
order of the list; its map claims slots for them alone. -/
structure Filled (x : Serial) (p : Plan) (g : Nat) (l : List Nat) (s : State) : Prop where
  image : ∃ pages, (s.images g).next = some { p.image g with pages := pages } ∧
    (pages.map (fun e => e.ticket.number)).Sublist l ∧ ∀ e ∈ pages, s.Enters x g e
  map : ∃ slots, (s.maps g).building = some { p.receiptMap g with slots := slots } ∧
    ∀ j, ReceiptMap.slot { p.receiptMap g with slots := slots } j = .empty ∨ s.Claims x g l { p.receiptMap g with slots := slots } j

section Filled

variable {x : Serial} {p : Plan} {g : Nat} {l : List Nat} {s t : State} {n : Nat} {d : Delivery}

theorem Enters.after (touched : Touched [n] s t) {e : PageEntry} (other : e.ticket.number ≠ n) (h : s.Enters x g e) :
    t.Enters x g e := by
  obtain ⟨d, a, live, rest⟩ := h
  refine ⟨d, a, (touched.live (by simpa using other)).trans live, ?_⟩
  rw [touched.ticket, touched.sub]
  exact rest

theorem Claims.after (touched : Touched [n] s t) (new : n ∉ l) {m : ReceiptMap} {j : Nat} (h : s.Claims x g l m j) :
    t.Claims x g (l ++ [n]) m j := by
  obtain ⟨k, d, a, slot, usable, listed, live, rest⟩ := h
  have other : k ∉ [n] := by
    rw [List.mem_singleton]
    rintro rfl
    exact new listed
  exact ⟨k, d, a, by rw [touched.ticket]; exact slot, usable, List.mem_append_left _ listed, (touched.live other).trans live, rest⟩

/-- The entry of a placement tells the delivery as the placement leaves it. -/
theorem place_enters (h : Placeable x s n d) (listed : g ∈ members 4 (s.candidates d x)) :
    (s.place n d x (s.candidates d x)).Enters x g (s.entryFor n d (s.slotsFor d (s.candidates d x)) g) := by
  have touched := Touched.place h.live d x (s.candidates d x)
  refine ⟨_, _, s.place_live n d x (s.candidates d x), rfl, rfl, rfl, (List.mem_filter.1 listed).2, (touched.ticket n).symm, ?_, rfl,
    rfl, rfl, fun kind => ?_, fun kind => ?_⟩
  · rw [touched.sub]; rfl
  · exact (slotIn_slotsFor listed (h.pass g listed)).trans (if_neg (by rw [show d.kind = .oneWay from kind]; simp))
  · obtain ⟨j, found⟩ := ((s.groupPasses_iff d g).1 (h.pass g listed)).2 kind
    refine ⟨j, (slotIn_slotsFor listed (h.pass g listed)).trans ((if_pos kind).trans found), ?_⟩
    show (g, j) ∈ s.slotsFor d (s.candidates d x)
    rw [s.slotsFor_twoWay (d := d) kind]
    exact (mem_pairs s.slotFor _ _).2 ⟨listed, found⟩

/-- The map of the frame built after a placement: its slots are claimed in it, and the others stand (R144). -/
theorem place_building (cand : GroupSet) (serial : p.serial = x) {slots : Table Slot}
    (building : (s.maps g).building = some { p.receiptMap g with slots := slots }) :
    ∃ after, ((s.place n d x cand).maps g).building = some { p.receiptMap g with slots := after } ∧
      ∀ j, ((g, j) ∈ s.slotsFor d cand →
          ReceiptMap.slot { p.receiptMap g with slots := after } j = .claimed (s.ticket n)) ∧
        ((g, j) ∉ s.slotsFor d cand →
          ReceiptMap.slot { p.receiptMap g with slots := after } j = ReceiptMap.slot { p.receiptMap g with slots := slots } j) := by
  obtain ⟨written, -, -⟩ := s.place_maps n d x cand g
  rw [building] at written
  cases found : ((s.place n d x cand).maps g).building with
  | none => rw [found] at written; exact written.elim
  | some m =>
    rw [found] at written
    obtain ⟨same, each⟩ := written
    refine ⟨m.slots, congrArg some same, fun j => ?_⟩
    rw [show ReceiptMap.slot { p.receiptMap g with slots := m.slots } j = m.slot j from rfl]
    exact ⟨fun mine => (each j).1 ⟨serial, mine⟩, fun other => (each j).2 fun mine => other mine.2⟩

/-- A slot that a placement claims is usable in the map (R128). -/
theorem slotsFor_usable {cand : GroupSet} {m : ReceiptMap} (building : (s.maps g).building = some m) {j : Nat}
    (mine : (g, j) ∈ s.slotsFor d cand) : m.usable.getLsbD j = true := by
  cases kind : d.kind with
  | oneWay => rw [s.slotsFor_oneWay kind] at mine; cases mine
  | twoWay =>
    rw [s.slotsFor_twoWay kind] at mine
    obtain ⟨m', building', -, usable, -⟩ := (s.slotFor_eq_some g j).1 ((mem_pairs s.slotFor _ _).1 mine).2
    cases building.symm.trans building'
    exact usable

theorem Filled.visit (h : Filled x p g l s) (serial : p.serial = x) (new : n ∉ l) :
    Filled x p g (l ++ [n]) (visit x s n) := by
  obtain ⟨⟨pages, next, order, enters⟩, ⟨slots, building, claims⟩⟩ := h
  have touched := Touched.visit x s n
  have later (e : PageEntry) (he : e ∈ pages) : (Machine.visit x s n).Enters x g e :=
    (enters e he).after touched fun same => new (order.subset (same ▸ List.mem_map_of_mem he))
  by_cases placed : ∃ d, Placeable x s n d
  · obtain ⟨d, placed⟩ := placed
    rw [placed.visit_eq] at later touched ⊢
    refine ⟨?image, ?map⟩
    case image =>
      rw [place_images]
      split
      · rename_i listed
        refine ⟨pages ++ [s.entryFor n d (s.slotsFor d (s.candidates d x)) g], by rw [GroupImages.paged_of_open next], ?_, ?_⟩
        · rw [List.map_append]
          exact order.append (List.Sublist.refl [n])
        · intro e he
          obtain he | he := List.mem_append.1 he
          · exact later e he
          · rw [List.mem_singleton.1 he]
            exact place_enters placed listed
      · exact ⟨pages, next, order.trans (List.sublist_append_left ..), later⟩
    case map =>
      obtain ⟨after, building', slot⟩ := s.place_building (n := n) (d := d) (s.candidates d x) serial building
      refine ⟨after, building', fun j => ?_⟩
      obtain ⟨claimed, unclaimed⟩ := slot j
      by_cases mine : (g, j) ∈ s.slotsFor d (s.candidates d x)
      · have usable := slotsFor_usable building mine
        exact .inr ⟨n, _, _, by rw [touched.ticket]; exact claimed mine, usable, by simp, s.place_live n d x _, rfl, rfl, rfl, mine⟩
      · refine (claims j).imp (fun empty => (unclaimed mine).trans empty) fun claim => ?_
        obtain ⟨k, e, a, slot, rest⟩ := claim.after touched new
        exact ⟨k, e, a, (unclaimed mine).trans slot, rest⟩
  · push Not at placed
    obtain ⟨bld, rcp⟩ := visit_unplaced placed
    refine ⟨⟨pages, by rw [images_of_bld bld, next], order.trans (List.sublist_append_left ..), later⟩,
      slots, by rw [maps_of_rcp rcp, building], fun j => (claims j).imp_right fun claimed => claimed.after touched new⟩

/-- The walk fills the images in the order of its list (R76, R129). -/
theorem Filled.walk (h : Filled x p g [] s) (serial : p.serial = x) {list : List Nat} (nodup : list.Nodup) :
    Filled x p g list (list.foldl (Machine.visit x) s) := by
  induction list using List.reverseRecOn with
  | nil => exact h
  | append_singleton l n ih =>
    obtain ⟨rest, -, apart⟩ := List.nodup_append.1 nodup
    rw [List.foldl_append]
    exact (ih rest).visit serial fun hn => apart n hn n (by simp) rfl

/-! ### What a visit leaves of the images and of the air -/

theorem visit_images (x : Serial) (s : State) (n g : Nat) :
    (Machine.visit x s n).images g = s.images g ∨ ∃ e, (Machine.visit x s n).images g = (s.images g).paged e := by
  by_cases placed : ∃ d, Placeable x s n d
  · obtain ⟨d, placed⟩ := placed
    rw [placed.visit_eq, place_images]
    split
    · exact .inr ⟨_, rfl⟩
    · exact .inl rfl
  · push Not at placed
    exact .inl (images_of_bld (visit_unplaced placed).1 g)

/-- The images of a group but for its next image. -/
def besides (s : State) (g : Nat) : GroupImages := { s.images g with next := none }

theorem visit_besides (x : Serial) (s : State) (n g : Nat) : (Machine.visit x s n).besides g = s.besides g := by
  unfold besides
  obtain same | ⟨e, paged⟩ := visit_images x s n g
  · rw [same]
  · rw [paged]; rfl

/-- The entry stands in the page list of the group's next image. -/
def HasPage (s : State) (g : Nat) (e : PageEntry) : Prop := ∃ i : Image, (s.images g).next = some i ∧ e ∈ i.pages

theorem visit_hasPage (x : Serial) {s : State} (n : Nat) {g : Nat} {e : PageEntry} (h : s.HasPage g e) :
    (Machine.visit x s n).HasPage g e := by
  obtain ⟨i, next, mem⟩ := h
  obtain same | ⟨f, paged⟩ := visit_images x s n g
  · exact ⟨i, same ▸ next, mem⟩
  · exact ⟨{ i with pages := i.pages ++ [f] }, by rw [paged, GroupImages.paged_of_open next], List.mem_append_left _ mem⟩

/-- A placement leaves an entry of the delivery in each group that it carries (R129). -/
theorem Placeable.hasPage (h : Placeable x s n d) (hg : g < 4) (carried : (s.candidates d x).getLsbD g = true) :
    (Machine.visit x s n).HasPage g (s.entryFor n d (s.slotsFor d (s.candidates d x)) g) := by
  have listed : g ∈ members 4 (s.candidates d x) := List.mem_filter.2 ⟨List.mem_range.2 hg, carried⟩
  obtain ⟨⟨i, next, -⟩, -⟩ := (s.groupPasses_iff d g).1 (h.pass g listed)
  refine ⟨{ i with pages := i.pages ++ [s.entryFor n d (s.slotsFor d (s.candidates d x)) g] }, ?_, by simp⟩
  rw [h.visit_eq, place_images, if_pos listed, GroupImages.paged_of_open next]

end Filled

end State

end Sys2Proof.Machine
end

section
/-! PROOFS. A build as one event (R125 to R131): what is opened, what becomes of each delivery of the list, and the images laid
out. -/

namespace Sys2Proof.Machine

/-! ### Opening (R125, R143, R144) -/

/-- The images of a group as the build opens them on its plan (R125). -/
def GroupImages.opened (r : GroupImages) (g : Nat) : Option Plan → GroupImages
  | none => r
  | some p => if p.members = 0 then r else { r with next := some (p.image g), built := r.built + 1 }

theorem GroupImages.opened_besides (r : GroupImages) (g : Nat) (o : Option Plan) :
    (r.opened g o).current = r.current ∧ (r.opened g o).launched = r.launched := by
  cases o with
  | none => exact ⟨rfl, rfl⟩
  | some p =>
    unfold opened
    dsimp only
    split <;> exact ⟨rfl, rfl⟩

/-- The maps of a group as the build opens them on its plan (R144). -/
def GroupMaps.opened (r : GroupMaps) (g : Nat) : Option Plan → GroupMaps
  | none => r
  | some p => if p.members = 0 then r else { r with building := some (p.receiptMap g) }

/-- Slots below the plan's count and in its mask are usable (R108). -/
theorem getLsbD_usableSlots (slotCount : Nat) (mask : SlotSet) {j : Nat} (hj : j < 16) :
    (usableSlots slotCount mask).getLsbD j = true ↔ j < slotCount ∧ mask.getLsbD j = true := by
  rw [usableSlots, BitVec.getLsbD_and, BitVec.getLsbD_ofNat, Nat.testBit_two_pow_sub_one]
  simp [hj, and_comm]

namespace State

/-- The images and maps of the frame built stand open (R125). -/
def opened (s : State) : State := groupNumbers.foldl openGroup s

/-- The walk is over, and the images are not laid out yet (R76). -/
def walked (s : State) (x : Serial) : State := (s.calList (frameNumber x)).foldl (visit x) s.opened

theorem openGroup_images (s : State) (g k : Nat) :
    (s.openGroup g).images k = if k = g then (s.images k).opened k (s.group k).next else s.images k := by
  unfold openGroup
  split
  · rename_i none
    split
    · subst k; simp [GroupImages.opened, none]
    · rfl
  · rename_i p next
    by_cases own : k = g
    · subst k
      split
      · rename_i empty; simp [GroupImages.opened, next, empty]
      · rename_i members
        have members' : ¬p.members = 0#8 := members
        simp [GroupImages.opened, next, members']
    · split <;> simp [own]

theorem openGroup_maps (s : State) (g k : Nat) :
    (s.openGroup g).maps k = if k = g then (s.maps k).opened k (s.group k).next else s.maps k := by
  unfold openGroup
  split
  · rename_i none
    split
    · subst k; simp [GroupMaps.opened, none]
    · rfl
  · rename_i p next
    by_cases own : k = g
    · subst k
      split
      · rename_i empty; simp [GroupMaps.opened, next, empty]
      · rename_i members
        have members' : ¬p.members = 0#8 := members
        simp [GroupMaps.opened, next, members']
    · split <;> simp [own]

theorem openGroup_only (s : State) (g : Nat) : ∃ images maps,
    s.openGroup g = (s.withBld { s.bld with images := images }).withRcp { s.rcp with maps := maps } := by
  unfold openGroup
  split
  · exact ⟨s.bld.images, s.rcp.maps, rfl⟩
  · split
    · exact ⟨s.bld.images, s.rcp.maps, rfl⟩
    · exact ⟨_, _, rfl⟩

theorem openGroup_group (s : State) (g k : Nat) : (s.openGroup g).group k = s.group k := by
  obtain ⟨_, _, h⟩ := s.openGroup_only g
  rw [h]; rfl

section Opened

variable (s : State)

theorem opened_only : ∃ images maps,
    s.opened = (s.withBld { s.bld with images := images }).withRcp { s.rcp with maps := maps } := by
  have open_ (l : List Nat) (t : State) : ∃ images maps,
      l.foldl openGroup t = (t.withBld { t.bld with images := images }).withRcp { t.rcp with maps := maps } := by
    induction l generalizing t with
    | nil => exact ⟨t.bld.images, t.rcp.maps, rfl⟩
    | cons g l ih =>
      obtain ⟨_, _, first⟩ := t.openGroup_only g
      obtain ⟨images, maps, rest⟩ := ih (t.openGroup g)
      exact ⟨images, maps, by rw [List.foldl_cons, rest, first]; rfl⟩
  exact open_ groupNumbers s

theorem opened_images {g : Nat} (hg : g < 4) : s.opened.images g = (s.images g).opened g (s.group g).next := by
  have step : s.opened.images g = _ := read_foldl_rewrite (read := State.images) (f := openGroup)
    (F := fun g r => r.opened g (s.group g).next) (P := fun t => ∀ g, t.group g = s.group g)
    (fun t n same g => (t.openGroup_group n g).trans (same g))
    (fun t n k same => by rw [openGroup_images, same]) nodup_groupNumbers (s := s) (fun _ => rfl) g
  rw [step, if_pos ((mem_groupNumbers g).2 hg)]

theorem opened_maps {g : Nat} (hg : g < 4) : s.opened.maps g = (s.maps g).opened g (s.group g).next := by
  have step : s.opened.maps g = _ := read_foldl_rewrite (read := State.maps) (f := openGroup)
    (F := fun g r => r.opened g (s.group g).next) (P := fun t => ∀ g, t.group g = s.group g)
    (fun t n same g => (t.openGroup_group n g).trans (same g))
    (fun t n k same => by rw [openGroup_maps, same]) nodup_groupNumbers (s := s) (fun _ => rfl) g
  rw [step, if_pos ((mem_groupNumbers g).2 hg)]

theorem opened_current (g : Nat) : (s.opened.images g).current = (s.images g).current ∧
    (s.opened.images g).launched = (s.images g).launched := by
  have keeps (t : State) (n : Nat) : ((t.openGroup n).images g).current = (t.images g).current ∧
      ((t.openGroup n).images g).launched = (t.images g).launched := by
    rw [openGroup_images]
    split
    · exact GroupImages.opened_besides ..
    · exact ⟨rfl, rfl⟩
  exact ⟨foldl_fixed (f := openGroup) (read := fun s => (s.images g).current) (fun t n => (keeps t n).1) _ _,
    foldl_fixed (f := openGroup) (read := fun s => (s.images g).launched) (fun t n => (keeps t n).2) _ _⟩

/-- A group whose plan has a member begins the walk with no entry and no slot claimed. -/
theorem opened_filled {g : Nat} (hg : g < 4) {p : Plan} (next : (s.group g).next = some p) (members : p.members ≠ 0) (x : Serial) :
    Filled x p g [] s.opened where
  image := ⟨[], by rw [opened_images s hg, next, GroupImages.opened, if_neg members]; rfl, List.Sublist.refl [], by simp⟩
  map := ⟨[], by rw [opened_maps s hg, next, GroupMaps.opened, if_neg members]; rfl, fun _ => .inl rfl⟩

theorem opened_built {g : Nat} (hg : g < 4) {p : Plan} (next : (s.group g).next = some p) :
    (s.opened.images g).built = (s.images g).built + if p.members = 0 then 0 else 1 := by
  rw [opened_images s hg, next, GroupImages.opened]
  split <;> simp

end Opened

/-! ### The walk over the list (R75 to R78) -/

section Walk

variable {x : Serial} {o : State} {list : List Nat} {n : Nat} {d : Delivery}

/-- The visit of one entry of the list comes between visits of others. -/
theorem walk_split (nodup : list.Nodup) (listed : n ∈ list) (x : Serial) (o : State) :
    ∃ a b u, n ∉ a ∧ n ∉ b ∧ Touched a o u ∧ Touched b (visit x u n) (b.foldl (visit x) (visit x u n)) ∧
      list.foldl (visit x) o = b.foldl (visit x) (visit x u n) := by
  obtain ⟨a, b, rfl⟩ := List.append_of_mem listed
  rw [List.nodup_middle, List.nodup_cons, List.mem_append, not_or] at nodup
  refine ⟨a, b, a.foldl (visit x) o, nodup.1.1, nodup.1.2, .foldl (Touched.visit x) .., .foldl (Touched.visit x) .., ?_⟩
  rw [List.foldl_append, List.foldl_cons]

theorem walk_later (live : o.live n = some d) (h : n ∉ list ∨ beyond d.due x = true) (nodup : list.Nodup) :
    (list.foldl (visit x) o).live n = some d := by
  by_cases listed : n ∈ list
  · obtain ⟨a, b, u, ha, hb, before, after, walk⟩ := walk_split nodup listed x o
    have found := (before.live ha).trans live
    rw [walk, after.live hb, visit_later found (h.resolve_left (not_not_intro listed)), found]
  · rw [(Touched.foldl (Touched.visit x) list o).live listed, live]

theorem walk_late (nodup : list.Nodup) (listed : n ∈ list) (live : o.live n = some d) (due : beyond d.due x = false)
    (late : beyond x d.deadline = true) : o.ended (list.foldl (visit x) o) n .expired .lifetime := by
  obtain ⟨a, b, u, ha, hb, before, after, walk⟩ := walk_split nodup listed x o
  rw [walk]
  refine after.ended_after (before.ended_before ?_)
  rw [visit_late ((before.live ha).trans live) due late]
  exact endDelivery_ended ..

theorem walk_ineligible (nodup : list.Nodup) (listed : n ∈ list) (live : o.live n = some d) (due : beyond d.due x = false)
    (inTime : beyond x d.deadline = false) (ineligible : (o.sub d.subscriber).eligible x = false) :
    o.refiled (list.foldl (visit x) o) n { d with due := (o.sub d.subscriber).nextEligible (x + 1) } := by
  obtain ⟨a, b, u, ha, hb, before, after, walk⟩ := walk_split nodup listed x o
  rw [walk]
  refine after.refiled_after hb (before.refiled_before ?_)
  rw [visit_ineligible ((before.live ha).trans live) due inTime (by rw [before.sub]; exact ineligible), before.nextEligible]
  exact refile_refiled ..

/-- An eligible entry is placed, with a page in each group that it carries, or deferred (R77, R78, R129). -/
theorem walk_eligible (nodup : list.Nodup) (listed : n ∈ list) (live : o.live n = some d) (due : beyond d.due x = false)
    (inTime : beyond x d.deadline = false) (eligible : (o.sub d.subscriber).eligible x = true) :
    (∃ (cand : GroupSet) (slots : List (Nat × Nat)), cand ≠ 0 ∧
      (list.foldl (visit x) o).live n = some (d.placed x cand slots) ∧
      ∀ g < 4, cand.getLsbD g = true → ∃ e : PageEntry, (list.foldl (visit x) o).HasPage g e ∧ e.ticket = o.ticket n) ∨
    o.refiled (list.foldl (visit x) o) n (d.deferred ((o.sub d.subscriber).nextEligible (x + 1))) := by
  obtain ⟨a, b, u, ha, hb, before, after, walk⟩ := walk_split nodup listed x o
  rw [walk]
  refine (placeable_or_deferred (s := u) ((before.live ha).trans live) due inTime
    (by rw [before.sub]; exact eligible)).imp (fun placed => ?_) fun deferred => ?_
  · refine ⟨u.candidates d x, u.slotsFor d (u.candidates d x), placed.nonempty, ?_, fun g hg carried =>
      ⟨u.entryFor n d (u.slotsFor d (u.candidates d x)) g,
        foldl_keeps (P := fun s => s.HasPage g _) (fun s m => visit_hasPage x m) b _ (placed.hasPage hg carried), before.ticket n⟩⟩
    rw [after.live hb, placed.visit_eq, place_live]
  · refine after.refiled_after hb (before.refiled_before ?_)
    rw [deferred, ← before.nextEligible]
    exact defer_refiled ..

theorem walk_leaves_later (nodup : list.Nodup) (listed : n ∈ list) (short : ∀ m, (o.sub m).interval ≤ 64)
    (after : (list.foldl (visit x) o).live n = some d) (waiting : d.state.waiting = true) : beyond d.due x = true := by
  obtain ⟨a, b, u, -, hb, before, rest, walk⟩ := walk_split nodup listed x o
  rw [walk, rest.live hb] at after
  exact visit_leaves_later (fun m => by rw [before.sub]; exact short m) after waiting

theorem walk_besides (x : Serial) (o : State) (list : List Nat) (g : Nat) :
    (list.foldl (visit x) o).besides g = o.besides g :=
  foldl_fixed (f := visit x) (read := fun s => s.besides g) (fun s n => visit_besides x s n g) _ _

end Walk

/-! ### The images laid out (R131) -/

/-- The build whole (R125). -/
theorem build_eq (s : State) (x : Serial) : s.build x = groupNumbers.foldl completeGroup
    ((s.opened.calList (frameNumber x)).foldl (visit x) s.opened) := rfl

section Complete

variable (s : State)

theorem completeGroup_only (g : Nat) : ∃ images, s.completeGroup g = s.withBld { s.bld with images := images } := by
  unfold completeGroup
  split
  · exact ⟨_, rfl⟩
  · exact ⟨s.bld.images, rfl⟩

theorem completed_only : ∃ images, groupNumbers.foldl completeGroup s = s.withBld { s.bld with images := images } := by
  have completed (l : List Nat) (t : State) : ∃ images, l.foldl completeGroup t = t.withBld { t.bld with images := images } := by
    induction l generalizing t with
    | nil => exact ⟨t.bld.images, rfl⟩
    | cons g l ih =>
      obtain ⟨_, first⟩ := t.completeGroup_only g
      obtain ⟨images, rest⟩ := ih (t.completeGroup g)
      exact ⟨images, by rw [List.foldl_cons, rest, first]; rfl⟩
  exact completed groupNumbers s

theorem completeGroup_images (g k : Nat) : (s.completeGroup g).images k =
    if k = g then { s.images k with next := (s.images k).next.map (fun i => { i with words := i.layout s.entryWords }) }
    else s.images k := by
  unfold completeGroup
  split
  · rename_i i next
    rw [images_setImages]
    split
    · subst k; simp [next]
    · rfl
  · rename_i none
    split
    · subst k; rw [none, Option.map_none, ← none]
    · rfl

theorem completeGroup_entryWords (g : Nat) : (s.completeGroup g).entryWords = s.entryWords := by
  obtain ⟨_, h⟩ := s.completeGroup_only g
  rw [h]; rfl

theorem completed_images {g : Nat} (hg : g < 4) : (groupNumbers.foldl completeGroup s).images g =
    { s.images g with next := (s.images g).next.map (fun i => { i with words := i.layout s.entryWords }) } := by
  have step := read_foldl_rewrite (read := State.images) (f := completeGroup)
    (F := fun _ r => { r with next := r.next.map (fun i => { i with words := i.layout s.entryWords }) })
    (P := fun t => t.entryWords = s.entryWords) (fun t n same => (t.completeGroup_entryWords n).trans same)
    (fun t n k same => by rw [completeGroup_images, same]) nodup_groupNumbers (s := s) rfl g
  rw [step, if_pos ((mem_groupNumbers g).2 hg)]

theorem completed_besides (g : Nat) : (groupNumbers.foldl completeGroup s).besides g = s.besides g := by
  refine foldl_fixed (f := completeGroup) (read := fun s => s.besides g) (fun t n => ?_) groupNumbers s
  unfold besides
  rw [completeGroup_images]
  split <;> rfl

theorem completed_hasPage {g : Nat} (hg : g < 4) {e : PageEntry} (h : s.HasPage g e) :
    (groupNumbers.foldl completeGroup s).HasPage g e := by
  obtain ⟨i, next, mem⟩ := h
  exact ⟨{ i with words := i.layout s.entryWords }, by rw [completed_images s hg, next]; rfl, mem⟩

end Complete

end State

end Sys2Proof.Machine
end

section
/-! PROOFS. The words of an image (R130, R131, R195), and the settlement of O38. -/

namespace Sys2Proof.Machine

/-! ### The words of a header and of a descriptor, field by field (R195) -/

/-- A field of a word, read as a number. -/
theorem toNat_field (v start len : Nat) (small : v < 65536) :
    ((BitVec.ofNat 16 v).extractLsb' start len).toNat = v / 2 ^ start % 2 ^ len := by
  rw [BitVec.extractLsb'_toNat, BitVec.toNat_ofNat, Nat.mod_eq_of_lt small, Nat.shiftRight_eq_div_pow]

theorem field_eq {v start len k : Nat} (small : v < 65536) (h : v / 2 ^ start % 2 ^ len = k % 2 ^ len) :
    (BitVec.ofNat 16 v).extractLsb' start len = BitVec.ofNat len k :=
  BitVec.eq_of_toNat_eq (by rw [toNat_field v start len small, h, BitVec.toNat_ofNat])

theorem depthCode_pow {depth : Nat} (h : depth = 1 ∨ depth = 2 ∨ depth = 4 ∨ depth = 8) :
    depthCode depth < 4 ∧ 2 ^ depthCode depth = depth := by
  obtain rfl | rfl | rfl | rfl := h <;> decide

theorem OrderMode.code_lt_two (o : OrderMode) : o.code < 2 := by cases o <;> decide

theorem OrderMode.code_eq_one (o : OrderMode) : o.code = 1 ↔ o = .interleaved := by cases o <;> decide

theorem Encoding.code_lt_four (e : Encoding) : e.code < 4 := by cases e <;> decide

theorem TxMark.code_lt_four (m : TxMark) : m.code < 4 := by cases m <;> decide

theorem Image.frameWord_fields {i : Image} (depth : i.depth = 1 ∨ i.depth = 2 ∨ i.depth = 4 ∨ i.depth = 8) (group : i.group < 4) :
    i.frameWord.extractLsb' 10 6 = i.serial.setWidth 6 ∧ i.frameWord.extractLsb' 8 2 = BitVec.ofNat 2 i.group ∧
    2 ^ (i.frameWord.extractLsb' 6 2).toNat = i.depth ∧ (i.frameWord.getLsbD 5 = true ↔ i.order = .interleaved) ∧
    i.frameWord.extractLsb' 0 5 = 0 := by
  have frame : frameNumber i.serial < 64 := Nat.mod_lt _ (by decide)
  obtain ⟨code, power⟩ := depthCode_pow depth
  have order := i.order.code_lt_two
  have interleaved := i.order.code_eq_one
  have serial : i.serial.setWidth 6 = BitVec.ofNat 6 (frameNumber i.serial) :=
    BitVec.eq_of_toNat_eq (by simp [frameNumber])
  have bits : frameNumber i.serial * 1024 + i.group * 256 + depthCode i.depth * 64 + i.order.code * 32 < 65536 := by omega
  rw [Image.frameWord, serial]
  refine ⟨field_eq bits (by omega), field_eq bits (by omega), ?_, ?_, field_eq bits (k := 0) (by omega)⟩
  · rw [toNat_field _ _ _ bits]
    exact (congrArg (2 ^ ·) (by omega)).trans power
  · rw [BitVec.getLsbD_ofNat, ← interleaved, Nat.testBit_eq_decide_div_mod_eq]
    simp only [Bool.and_eq_true, decide_eq_true_eq]
    omega

theorem Image.fieldWord_fields {i : Image} (pages : i.p < 256) (slots : i.slotCount < 32) :
    i.fieldWord.extractLsb' 8 8 = BitVec.ofNat 8 i.p ∧ i.fieldWord.extractLsb' 3 5 = BitVec.ofNat 5 i.slotCount ∧
    i.fieldWord.extractLsb' 0 3 = 0 := by
  have bits : i.p * 256 + i.slotCount * 8 < 65536 := by omega
  exact ⟨field_eq bits (by omega), field_eq bits (by omega), field_eq bits (k := 0) (by omega)⟩

theorem PageEntry.descriptor_fields {e : PageEntry} (words : e.bodyWords < 128) (slot : ∀ j, e.slot = some j → j < 31) :
    e.descriptor.extractLsb' 14 2 = BitVec.ofNat 2 e.encoding.code ∧
    e.descriptor.extractLsb' 7 7 = BitVec.ofNat 7 e.bodyWords ∧
    e.descriptor.extractLsb' 5 2 = BitVec.ofNat 2 e.mark.code ∧
    e.descriptor.extractLsb' 0 5 = BitVec.ofNat 5 (e.slot.getD 31) := by
  have encoding := e.encoding.code_lt_four
  have mark := e.mark.code_lt_four
  have low : e.slot.getD 31 < 32 := by
    cases found : e.slot with
    | none => decide
    | some j => exact (slot j found).trans (by decide)
  have bits : e.encoding.code * 16384 + e.bodyWords * 128 + e.mark.code * 32 + e.slot.getD 31 < 65536 := by omega
  exact ⟨field_eq bits (by omega), field_eq bits (by omega), field_eq bits (by omega), field_eq bits (by omega)⟩

/-- Padding to a multiple of the depth shortens nothing (R121). -/
theorem le_paddedTo {depth : Nat} (positive : 1 ≤ depth) (m : Nat) : m ≤ paddedTo depth m := by
  have parts := Nat.div_add_mod (m + depth - 1) depth
  have rest := Nat.mod_lt (m + depth - 1) positive
  rw [Nat.mul_comm] at parts
  unfold paddedTo
  omega

/-- An image fills its field: 4 header words and as many as its capacity (R131). -/
theorem Image.length_layout {i : Image} {bodyWords : PageEntry → List Word} (depth : 1 ≤ i.depth) (fits : i.used ≤ i.capacity)
    (bodies : ∀ e ∈ i.pages, (bodyWords e).length = e.bodyWords) : (i.layout bodyWords).length = 4 + i.capacity := by
  have words : (i.pages.map (fun e => e.descriptor :: bodyWords e)).flatten.length = i.m := by
    rw [List.length_flatten, List.map_map, Image.m]
    exact congrArg List.sum (List.map_congr_left fun e he => by simp [bodies e he])
  have room : i.m ≤ i.padded := le_paddedTo depth i.m
  have used : i.used = i.pages.length + i.padded := rfl
  simp only [layout, List.length_append, List.length_cons, List.length_nil, List.length_map, List.length_replicate, words]
  omega

namespace State

/-! ### The build point (R94, R110, R111) -/

/-- The clock has passed the build point, and nothing else has changed (R94). -/
def pastBuild (s : State) : State := s.withClk { s.clk with position := 40000, buildPassed := true }

/-- The zone controller has made its plans, and nothing is built yet (R111). -/
def planned (s : State) : State := s.pastBuild.zoneBuildPoint

theorem planned_only (s : State) : ∃ zon lnk, s.planned =
    (s.pastBuild.withZon zon).withLnk lnk := zoneBuildPoint_zonesOnly s.pastBuild

/-- The plans made at a build point are for the frame after the one in progress (R111). -/
theorem planned_serial (s : State) {g : Nat} (hg : g < 4) {p : Plan} (next : (s.planned.group g).next = some p) :
    p.serial = s.clk.serial + 1 := by
  have made (t : State) : ((groupNumbers.foldl makePlan t).group g).next.map Plan.serial = some (t.clk.serial + 1) :=
    (read_foldl_rewrite (read := fun s g => (s.group g).next.map Plan.serial) (f := makePlan)
      (F := fun _ _ => some (t.clk.serial + 1)) (P := fun u => u.clk = t.clk) (fun _ _ same => same)
      (fun u n k same => by
        rw [makePlan, group_setGroup]
        split
        · rw [same]; rfl
        · rfl)
      nodup_groupNumbers rfl g).trans (if_pos ((mem_groupNumbers g).2 hg))
  obtain ⟨t, plans⟩ : ∃ t, s.planned = groupNumbers.foldl makePlan t := by
    unfold planned zoneBuildPoint
    exact ⟨_, rfl⟩
  have kept : (groupNumbers.foldl makePlan t).clk = t.clk :=
    foldl_fixed (f := makePlan) (read := State.clk) (fun _ _ => rfl) _ _
  have clk : s.planned.clk = t.clk := by rw [plans, kept]
  have serial : t.clk.serial = s.clk.serial := by
    obtain ⟨_, _, planned⟩ := s.planned_only
    rw [← clk, planned]
    rfl
  have plan := made t
  rw [← plans, next, serial] at plan
  exact Option.some.inj plan

theorem buildPointEvent_of_on {s : State} (on : s.zoneBuildPoint.bld.air = .on) :
    s.buildPointEvent = s.zoneBuildPoint.build (s.zoneBuildPoint.clk.serial + 1) := by
  unfold buildPointEvent
  dsimp only
  rw [if_pos on]

theorem exec_buildPoint {s : State} (due : s.reaches 40000) (fresh : s.clk.buildPassed = false) (air : s.bld.air = .on) :
    exec .buildPoint s = .next (s.planned.build (s.clk.serial + 1)).lineChoice := by
  have moment : s.atMoment Config.buildPosition = _ := atMoment_of_reaches due
  obtain ⟨_, _, planned⟩ := s.planned_only
  have on : s.planned.bld.air = .on := by rw [planned]; exact air
  have serial : s.planned.clk.serial = s.clk.serial := by rw [planned]; rfl
  have built : s.pastBuild.buildPointEvent = s.planned.build (s.planned.clk.serial + 1) :=
    buildPointEvent_of_on (s := s.pastBuild) on
  show execBuildPoint s = _
  rw [execBuildPoint, moment, ← serial, ← built]
  dsimp only
  rw [if_neg (by simp [fresh])]
  rfl

end State

namespace State

/-! ### What a build leaves (R125 to R131) -/

/-- A group whose plan has a member: its image is laid out with the entries of the deliveries placed, and its map claims slots
for them alone. -/
structure LaidOut (t : State) (x : Serial) (p : Plan) (g : Nat) (list : List Nat) (pages : List PageEntry) (slots : Table Slot) :
    Prop where
  image : (t.images g).next = some { p.image g with
    pages := pages, words := Image.layout { p.image g with pages := pages } t.entryWords }
  order : (pages.map (fun e => e.ticket.number)).Sublist list
  enters : ∀ e ∈ pages, t.Enters x g e
  map : (t.maps g).building = some { p.receiptMap g with slots := slots }
  claims : ∀ j, ReceiptMap.slot { p.receiptMap g with slots := slots } j = .empty ∨
    t.Claims x g list { p.receiptMap g with slots := slots } j

/-- Between two states the frame of serial `x` was built from a calendar list. -/
structure Built (s t : State) (x : Serial) (list : List Nat) : Prop where
  serial : ∀ g < 4, ∀ p, (t.group g).next = some p → p.serial = x
  counted : ∀ g < 4, ∀ p, (t.group g).next = some p →
    (t.images g).built = (s.images g).built + if p.members = 0 then 0 else 1
  laidOut : ∀ g < 4, ∀ p, (t.group g).next = some p → p.members ≠ 0 → ∃ pages slots, t.LaidOut x p g list pages slots
  current : ∀ g, (t.images g).current = (s.images g).current ∧ (t.images g).launched = (s.images g).launched
  air : t.bld.air = s.bld.air
  map : t.dir.map = s.dir.map
  left : ∀ n ∈ list, ∀ d, t.live n = some d → d.state.waiting = true → beyond d.due x = true
  others : ∀ n d, s.live n = some d → n ∉ list ∨ beyond d.due x = true → t.live n = some d
  late : ∀ n ∈ list, ∀ d, s.live n = some d → beyond d.due x = false → beyond x d.deadline = true →
    s.ended t n .expired .lifetime
  ineligible : ∀ n ∈ list, ∀ d, s.live n = some d → beyond d.due x = false → beyond x d.deadline = false →
    (s.sub d.subscriber).eligible x = false →
    s.refiled t n { d with due := (s.sub d.subscriber).nextEligible (x + 1) }
  eligible : ∀ n ∈ list, ∀ d, s.live n = some d → beyond d.due x = false → beyond x d.deadline = false →
    (s.sub d.subscriber).eligible x = true →
    (∃ (cand : GroupSet) (slots : List (Nat × Nat)), cand ≠ 0 ∧ t.live n = some (d.placed x cand slots) ∧
      ∀ g < 4, cand.getLsbD g = true → ∃ e : PageEntry, t.HasPage g e ∧ e.ticket = s.ticket n) ∨
    s.refiled t n (d.deferred ((s.sub d.subscriber).nextEligible (x + 1)))

/-- A build is its opening, its walk and its laying out, each of which leaves what the others write. -/
theorem build_built (z : State) (x : Serial) {list : List Nat} (hlist : list = z.calList (frameNumber x)) (nodup : list.Nodup)
    (short : ∀ m, (z.sub m).interval ≤ 64) (serial : ∀ g < 4, ∀ p, (z.group g).next = some p → p.serial = x) :
    Built z (z.build x) x list := by
  obtain ⟨images, maps, opened⟩ := z.opened_only
  have opens {g : Nat} (hg : g < 4) {p : Plan} := z.opened_filled hg (p := p)
  have counts {g : Nat} (hg : g < 4) {p : Plan} := z.opened_built hg (p := p)
  have current := z.opened_current
  rw [build_eq]
  generalize z.opened = o at *
  rw [show o.calList (frameNumber x) = list by rw [opened, hlist]; rfl]
  have walk := Touched.foldl (Touched.visit x) list o
  have filled {g : Nat} (hg : g < 4) {p : Plan} (next : (z.group g).next = some p) (members : p.members ≠ 0) :=
    (opens hg next members x).walk (serial g hg p next) nodup
  have besides := walk_besides x o list
  have left {n : Nat} {d : Delivery} (mem : n ∈ list) := walk_leaves_later (x := x) (o := o) (d := d) nodup mem
  have others {n : Nat} {d : Delivery} (live : o.live n = some d) (h : n ∉ list ∨ beyond d.due x = true) := walk_later live h nodup
  have late {n : Nat} {d : Delivery} (mem : n ∈ list) (live : o.live n = some d) := walk_late (x := x) nodup mem live
  have ineligible {n : Nat} {d : Delivery} (mem : n ∈ list) (live : o.live n = some d) :=
    walk_ineligible (x := x) nodup mem live
  have eligible {n : Nat} {d : Delivery} (mem : n ∈ list) (live : o.live n = some d) := walk_eligible (x := x) nodup mem live
  generalize list.foldl (visit x) o = w at *
  have laid {g : Nat} (hg : g < 4) := w.completed_images hg
  have page {g : Nat} (hg : g < 4) {e : PageEntry} := w.completed_hasPage hg (e := e)
  have kept (g : Nat) := (w.completed_besides g).trans (besides g)
  obtain ⟨_, completed⟩ := w.completed_only
  generalize groupNumbers.foldl completeGroup w = t at *
  have dlv : o.dlv = z.dlv := by rw [opened]; rfl
  have jnl : o.jnl = z.jnl := by rw [opened]; rfl
  have found (n : Nat) : o.live n = z.live n := live_of_dlv dlv n
  have subs (m : Nat) : o.sub m = z.sub m := by rw [opened]; rfl
  have live (n : Nat) : t.live n = w.live n := by rw [completed]; rfl
  have dlv' : t.dlv = w.dlv := by rw [completed]; rfl
  have jnl' : t.jnl = w.jnl := by rw [completed]; rfl
  have clk' : t.clk = w.clk := by rw [completed]; rfl
  have group (g : Nat) : t.group g = z.group g := by
    rw [completed]
    exact (group_of_zon walk.zon g).trans (by rw [opened]; rfl)
  exact {
    serial := fun g hg p next => serial g hg p (by rwa [group] at next)
    counted := fun g hg p next => by
      rw [group] at next
      exact (show (t.besides g).built = (o.besides g).built by rw [kept]).trans (counts hg next)
    laidOut := fun g hg p next members => by
      rw [group] at next
      obtain ⟨⟨pages, image, order, enters⟩, slots, building, claims⟩ := filled hg next members
      refine ⟨pages, slots, ?_, order, ?_, ?_, ?_⟩
      · rw [laid hg, image, completed]; rfl
      · rw [completed]; exact enters
      · rw [completed]; exact building
      · rw [completed]; exact claims
    current := fun g =>
      ⟨(show (t.besides g).current = (o.besides g).current by rw [kept]).trans (current g).1,
        (show (t.besides g).launched = (o.besides g).launched by rw [kept]).trans (current g).2⟩
    air := by rw [completed]; exact walk.air.trans (by rw [opened]; rfl)
    map := by rw [completed]; exact walk.map.trans (by rw [opened]; rfl)
    left := fun n mem d after => left mem (fun m => by rw [subs]; exact short m) ((live n).symm.trans after)
    others := fun n d before h => (live n).trans (others ((found n).trans before) h)
    late := fun n mem d before due past =>
      ended_congr dlv.symm jnl.symm dlv' jnl' clk' (late mem ((found n).trans before) due past)
    ineligible := fun n mem d before due inTime shut => by
      have after := ineligible mem ((found n).trans before) due inTime (by rwa [subs])
      rw [subs] at after
      exact refiled_congr dlv.symm jnl.symm dlv' jnl' clk' after
    eligible := fun n mem d before due inTime served => by
      refine (eligible mem ((found n).trans before) due inTime (by rwa [subs])).imp ?_ fun deferred => ?_
      · rintro ⟨cand, slots, nonempty, placed, pages⟩
        refine ⟨cand, slots, nonempty, (live n).trans placed, fun g hg carried => ?_⟩
        obtain ⟨e, has, ticket⟩ := pages g hg carried
        exact ⟨e, page hg has, ticket.trans (by rw [opened]; rfl)⟩
      · rw [subs] at deferred
        exact refiled_congr dlv.symm jnl.symm dlv' jnl' clk' deferred }

end State

theorem Delivery.placed_eq (d : Delivery) (x : Serial) (cand : GroupSet) (slots : List (Nat × Nat)) :
    d.placed x cand slots = { d with
      state := .placed,
      last := some { serial := x, carried := cand, slots := slots, mark := d.nextMark, checkedIn := false },
      attemptsMade := if d.kind = .twoWay then d.attemptsMade + 1 else d.attemptsMade } := by
  unfold placed
  cases d.kind <;> rfl

/-- Settles O38: the plans are made first, and the build that follows is the one `State.Built` tells. -/
theorem buildPointOpensImages : Obligations.BuildPointOpensImages := by
  unfold Obligations.BuildPointOpensImages
  refine ⟨fun s x list due fresh air hx hlist nodup short => ?built,
    fun i depth group pages slots => ?header, fun e words slot => ?descriptor, fun i bodyWords depth fits bodies =>
      Image.length_layout depth fits bodies⟩
  case header =>
    obtain ⟨serial, number, power, order, rest⟩ := Image.frameWord_fields depth group
    exact ⟨serial, number, power, order, rest, Image.fieldWord_fields pages slots⟩
  case descriptor =>
    obtain ⟨encoding, length, mark, last⟩ := PageEntry.descriptor_fields words slot
    exact ⟨encoding, length, mark, fun none => by rw [last, none]; rfl, fun j some => by rw [last, some]; rfl⟩
  case built =>
    have run := State.exec_buildPoint due fresh air
    have serial : ∀ g < 4, ∀ p, (s.planned.group g).next = some p → p.serial = x := fun g hg p next =>
      (s.planned_serial hg next).trans hx.symm
    obtain ⟨zon, lnk, planned⟩ := s.planned_only
    rw [← hx] at run
    generalize s.planned = z at *
    have built := z.build_built x (list := list) (by rw [planned, hlist]; rfl) nodup (by rw [planned]; exact short) serial
    have live (n : Nat) : s.live n = z.live n := by rw [planned]; rfl
    have images (g : Nat) : s.images g = z.images g := by rw [planned]; rfl
    have same {t : State} {n : Nat} {d : Delivery} (h : z.refiled t n d) : s.refiled t n d :=
      State.refiled_congr (by rw [planned]; rfl) (by rw [planned]; rfl) rfl rfl rfl h
    have subs (m : Nat) : s.sub m = z.sub m := by rw [planned]; rfl
    simp only [live, images, subs]
    generalize z.build x = t at *
    refine ⟨_, run, fun g hg p next => ⟨fun members => ?group, fun empty => ?uncounted⟩, built.current, ?air, ?directory,
      built.left, fun n d found => ⟨built.others n d found, fun mem isDue => ⟨fun past => ?late,
      fun inTime shut => same (built.ineligible n mem d found isDue inTime shut), fun inTime served => ?eligible⟩⟩⟩
    case group =>
      obtain ⟨pages, slots, laid⟩ := built.laidOut g hg p next members
      have serial := built.serial g hg p next
      exact ⟨(built.counted g hg p next).trans (by rw [if_neg members]),
        ⟨_, laid.image, serial, rfl, rfl, rfl, rfl, rfl, rfl, rfl, fun j hj => getLsbD_usableSlots _ _ hj, laid.order, laid.enters,
          rfl⟩,
        ⟨_, laid.map, serial, rfl, rfl, rfl, fun j hj => getLsbD_usableSlots _ _ hj, laid.claims⟩⟩
    case uncounted => exact (built.counted g hg p next).trans (by rw [if_pos empty]; exact BitVec.add_zero _)
    case air => exact built.air.trans (by rw [planned]; exact air)
    case directory => exact built.map.trans (by rw [planned]; rfl)
    case late =>
      exact State.ended_congr (by rw [planned]; rfl) (by rw [planned]; rfl) rfl rfl rfl (built.late n mem d found isDue past)
    case eligible =>
      refine (built.eligible n mem d found isDue inTime served).imp ?_ same
      rintro ⟨cand, slots, nonempty, placed, pages⟩
      refine ⟨{ serial := x, carried := cand, slots := slots, mark := d.nextMark, checkedIn := false }, rfl, nonempty, rfl, rfl,
        placed.trans (congrArg some (d.placed_eq ..)), fun g hg carried => ?_⟩
      obtain ⟨e, ⟨i, next, listed⟩, ticket⟩ := pages g hg carried
      exact ⟨i, next, e, listed, ticket.trans (by rw [planned]; rfl)⟩

end Sys2Proof.Machine
end

section
/-! PROOFS. The frame clock by itself: SET CLOCK and SET TRIM, MARK edges, and ticks (R92, R95, R96, R99). -/

namespace Sys2Proof.Machine

/-! ### SET CLOCK and SET TRIM (R96, R99) -/

/-- The one check of SET CLOCK after that of the length. -/
theorem serveSetClock_ser4 (x : Serial) (s : State) :
    serveSetClock (ser4 x) s =
      if s.clk.state = .running then refuse s .clockRunning
      else (s.withClk { s.clk with serial := x }, .accept (ser4 x)) := by
  have serial : getSer (ser4 x) 0 = x := by simpa using getSer_ser4 x []
  rw [serveSetClock, serial]
  exact if_neg (not_not.2 rfl)

/-- SET TRIM has no check after that of the length. -/
theorem serveSetTrim_byte (b : Byte) (s : State) :
    serveSetTrim [b] s =
      (s.withClk { s.clk with pendingTrim := min b.toNat 127 },
        { status := .ok, clamped := 127 < b.toNat, saturated := false, data := num1 (min b.toNat 127) }) :=
  if_neg (not_not.2 rfl)

/-- Settles O32: each request goes through its checks in order, and writes one field of the clock. -/
theorem serialAndTrimAreSet : Obligations.SerialAndTrimAreSet := by
  unfold Obligations.SerialAndTrimAreSet
  refine ⟨fun s tag x ready => ⟨fun running => ?running, fun stopped => ?stopped⟩,
    fun s tag b ready => ⟨fun within => ?within, fun above => ?above⟩,
    fun s tag p ready length => refuses_of_served (serve := serveSetClock) rfl ready (if_pos length),
    fun s tag p ready length => refuses_of_served (serve := serveSetTrim) rfl ready (if_pos length)⟩
  case running =>
    exact refuses_of_served (serve := serveSetClock) rfl ready ((serveSetClock_ser4 ..).trans (if_pos running))
  case stopped =>
    have still : ¬s.taken.clk.state = .running := fun running => by cases stopped.symm.trans running
    exact exec_of_served (serve := serveSetClock) rfl ready ((serveSetClock_ser4 ..).trans (if_neg still))
  case within =>
    refine exec_of_served (serve := serveSetTrim) rfl ready ((serveSetTrim_byte ..).trans ?_)
    rw [min_eq_left within, decide_eq_false (Nat.not_lt.2 within), num1, BitVec.ofNat_toNat, BitVec.setWidth_eq]
    rfl
  case above =>
    refine exec_of_served (serve := serveSetTrim) rfl ready ((serveSetTrim_byte ..).trans ?_)
    rw [min_eq_right (Nat.le_of_lt above), decide_eq_true (show 127 < b.toNat from above)]
    rfl

/-! ### MARK edges (R95) -/

theorem Clock.mark_of_running {c : Clock} (running : c.state = .running) :
    c.mark = { c with markCount := c.markCount + 1, latestMark := some { serial := c.serial, offset := c.position } } := by
  simp only [Clock.mark, running]

theorem Clock.mark_of_stopped {c : Clock} (stopped : c.state = .stopped) : c.mark = { c with markCount := c.markCount + 1 } := by
  simp only [Clock.mark, stopped]

/-- Settles O34: the edge is one event on the clock, by its state. -/
theorem markEdgeIsCountedAndCaptured : Obligations.MarkEdgeIsCountedAndCaptured := by
  unfold Obligations.MarkEdgeIsCountedAndCaptured
  have edge (s : State) : exec .markEdge s = .next (s.withClk s.clk.mark).lineChoice := rfl
  exact fun s => ⟨fun running => by rw [edge, Clock.mark_of_running running],
    fun stopped => by rw [edge, Clock.mark_of_stopped stopped]⟩

/-! ### Ticks (R92; log 3) -/

namespace State

variable {s : State}

/-- The clock some ticks on (R92). -/
def ticked (s : State) (n : Nat) : State := s.withClk { s.clk with position := s.clk.position + n }

theorem execTick_runs (running : s.clk.state = .running) (free : s.eventDue = false) :
    execTick s = .next (s.ticked 1).lineChoice := if_pos ⟨running, free⟩

theorem execTick_stopped (stopped : s.clk.state = .stopped) : execTick s = .next s.lineChoice := if_neg (by simp [stopped])

theorem execTick_due (due : s.eventDue = true) : execTick s = .next s.lineChoice := if_neg (by simp [due])

/-- No event is due exactly when the next tick passes none of the frame's (R92, R93, R94, R114). -/
theorem eventDue_eq_false_iff : s.eventDue = false ↔ s.clk.position + 1 ≤ s.nextMoment := by
  rw [eventDue, decide_eq_false_iff_not, Nat.not_le, Nat.lt_iff_add_one_le]

/-- The events that can be due: the build point, the boundary, and the end of the data field of a keyed zone. -/
theorem eventDue_iff : s.eventDue = true ↔
    (s.clk.buildPassed = false ∧ 40000 ≤ s.clk.position) ∨ 49936 + s.clk.trim ≤ s.clk.position + 1 ∨
    ∃ z < 8, ∃ p : Plan, (s.zone z).keyed = true ∧ s.zonePlan z = some p ∧
      100 * (p.settle + 4 + p.capacity) ≤ s.clk.position := by
  rw [← not_iff_not, Bool.not_eq_true, eventDue_eq_false_iff, le_nextMoment, not_or, not_or, ← and_assoc]
  refine and_congr ?frame ?fields
  case frame => cases s.clk.buildPassed <;> simp <;> omega
  case fields =>
    push Not
    rfl

theorem step_tick (running : s.clk.state = .running) (free : s.clk.position + 1 ≤ s.nextMoment) (rest : List Instr) :
    step (s.withPending (.tick :: rest)) = .next ((s.ticked 1).lineChoice.withPending rest) :=
  execTick_runs (s := s.withPending rest) running (eventDue_eq_false_iff.2 free)

/-- Ticks after ticks: the line, once it has chosen, has no more to choose. -/
theorem ticked_ticked (s : State) (n : Nat) : ((s.ticked 1).lineChoice.ticked n).lineChoice = (s.ticked (n + 1)).lineChoice := by
  have position : s.clk.position + 1 + n = s.clk.position + (n + 1) := by omega
  show (s.withClk { s.clk with position := s.clk.position + 1 + n }).withLnk s.lnk.choose.choose = _
  rw [position, Link.choose_choose]
  rfl

/-- A run of one step more goes on from where the step leads. -/
theorem run_of_step {u : State} (n : Nat) (first : step s = .next u) :
    Host.Core.run Sys2Proof.core (n + 1) s = Host.Core.run Sys2Proof.core n u := by
  have first : Sys2Proof.core.step s = .next u := first
  simp only [Host.Core.run, first]

/-- Ticks with no event between them carry the position on one by one (R92). -/
theorem run_ticks (n : Nat) (idle : s.pending = []) (running : s.clk.state = .running)
    (free : s.clk.position + (n + 1) ≤ s.nextMoment) :
    Host.Core.run Sys2Proof.core (n + 1) (s.withPending (List.replicate (n + 1) .tick)) =
      Host.Outcome.next (s.ticked (n + 1)).lineChoice := by
  induction n generalizing s with
  | zero =>
    have one : (s.ticked 1).lineChoice.withPending [] = (s.ticked 1).lineChoice := by rw [← idle]; rfl
    exact (run_of_step 0 (step_tick running free [])).trans (congrArg Host.Outcome.next one)
  | succ n ih =>
    have now : s.clk.position + 1 ≤ s.nextMoment := by omega
    have ahead : s.clk.position + 1 + (n + 1) ≤ s.nextMoment := by omega
    have first := run_of_step (n + 1) (step_tick running now (List.replicate (n + 1) .tick))
    exact (first.trans (ih (s := (s.ticked 1).lineChoice) idle running ahead)).trans
      (congrArg Host.Outcome.next (s.ticked_ticked (n + 1)))

end State

/-- Settles O35: a tick runs or holds by whether an event is due; a run of ticks is an induction on their number. -/
theorem tickRaisesPosition : Obligations.TickRaisesPosition := by
  unfold Obligations.TickRaisesPosition
  refine ⟨fun s => ⟨State.execTick_runs, State.execTick_stopped, State.execTick_due, State.eventDue_iff⟩,
    fun s n positive idle reached => ?_⟩
  obtain ⟨n, rfl⟩ := Nat.exists_eq_add_one.2 positive
  obtain ⟨running, -, -, free⟩ := (reaches_iff ..).1 reached
  exact State.run_ticks n idle running free

end Sys2Proof.Machine
end

section
/-! PROOFS. START CLOCK and STOP CLOCK (R97, R98, R112, R145). -/

namespace Sys2Proof.Machine

/-! ### Taking and answering a request: every block but the link (R185, R187) -/

namespace State

variable (s : State)

@[simp] theorem taken_dir : s.taken.dir = s.dir := rfl
@[simp] theorem taken_act : s.taken.act = s.act := rfl
@[simp] theorem taken_txt : s.taken.txt = s.txt := rfl
@[simp] theorem taken_dlv : s.taken.dlv = s.dlv := rfl
@[simp] theorem taken_clk : s.taken.clk = s.clk := rfl
@[simp] theorem taken_zon : s.taken.zon = s.zon := rfl
@[simp] theorem taken_bld : s.taken.bld = s.bld := rfl
@[simp] theorem taken_rcp : s.taken.rcp = s.rcp := rfl
@[simp] theorem taken_jnl : s.taken.jnl = s.jnl := rfl
@[simp] theorem taken_pending : s.taken.pending = s.pending := rfl

@[simp] theorem answered_dir (r : LinkRecord) (a : Answer) : (s.answered r a).dir = s.dir := rfl
@[simp] theorem answered_act (r : LinkRecord) (a : Answer) : (s.answered r a).act = s.act := rfl
@[simp] theorem answered_txt (r : LinkRecord) (a : Answer) : (s.answered r a).txt = s.txt := rfl
@[simp] theorem answered_dlv (r : LinkRecord) (a : Answer) : (s.answered r a).dlv = s.dlv := rfl
@[simp] theorem answered_clk (r : LinkRecord) (a : Answer) : (s.answered r a).clk = s.clk := rfl
@[simp] theorem answered_zon (r : LinkRecord) (a : Answer) : (s.answered r a).zon = s.zon := rfl
@[simp] theorem answered_bld (r : LinkRecord) (a : Answer) : (s.answered r a).bld = s.bld := rfl
@[simp] theorem answered_rcp (r : LinkRecord) (a : Answer) : (s.answered r a).rcp = s.rcp := rfl
@[simp] theorem answered_jnl (r : LinkRecord) (a : Answer) : (s.answered r a).jnl = s.jnl := rfl
@[simp] theorem answered_pending (r : LinkRecord) (a : Answer) : (s.answered r a).pending = s.pending := rfl

end State

/-- In any table, canonical or not, a number whose entry is of a kind is listed among those of the kind. -/
theorem Table.mem_numbers_of_read {α : Type} {dflt : α} {t : Table α} {p : α → Bool} (hp : p dflt = false) {n : Nat}
    (holds : p (t.read dflt n) = true) : n ∈ t.numbers p := by
  have listed : t.read dflt n ≠ dflt := fun e => by rw [e, hp] at holds; cases holds
  exact List.mem_map.2 ⟨_, List.mem_filter.2 ⟨Table.mem_of_read listed, holds⟩, rfl⟩

namespace State

/-! ### A boundary that no delivery is ready for (R97; log 5) -/

/-- Every live delivery waits in the calendar, as while the clock is STOPPED (R98). -/
def AllWait (s : State) : Prop := ∀ n d, s.live n = some d → d.state.waiting = true

/-- No group of endings touches a delivery that waits. -/
theorem endingOne_of_waiting (w : BoundaryWork) (g : EndingGroup) {s : State} (waits : s.AllWait) (n : Nat) :
    endingOne w g s n = s := by
  cases live : s.live n with
  | none => cases g <;> simp [endingOne, endFrameOne, resolveOne, launchOne, live]
  | some d =>
    have waiting := waits n d live
    cases g with
    | ended =>
      have state : d.state ≠ .onAir := fun e => by rw [e] at waiting; cases waiting
      simp [endingOne, endFrameOne, live, state]
    | missed =>
      have state : d.state ≠ .awaitReceipt := fun e => by rw [e] at waiting; cases waiting
      simp [endingOne, resolveOne, live, state]
    | dropped =>
      have state : d.state ≠ .placed := fun e => by rw [e] at waiting; cases waiting
      exact launchOne_idle fun e he => by cases live.symm.trans he; exact state

/-- A boundary at which every delivery waits settles nothing, in whatever order of endings. -/
theorem settled_of_allWait {s : State} (waits : s.AllWait) (o : EndingOrder) : s.settled o = s.turned := by
  have waits' : s.turned.AllWait := fun n d live => waits n d ((s.turned_live n).symm.trans live)
  refine List.foldl_fixed' (fun g => ?_) _
  rw [endingStep_eq]
  exact List.foldl_fixed' (endingOne_of_waiting s.work g waits') _

/-- The boundary says nothing to the link before any delivery is touched. -/
theorem turned_lnk (s : State) : s.turned.lnk = s.lnk := by
  have begun : s.begun.lnk = s.lnk := foldl_fixed (f := startPlan) (read := State.lnk) (fun _ _ => rfl) _ _
  have keyed : s.keyedUp.lnk = s.begun.lnk :=
    foldl_fixed (f := keyZone) (read := State.lnk) (fun s n => by unfold keyZone; dsimp only; split <;> rfl) _ _
  obtain ⟨bld, handed⟩ := s.handedOver_only
  rw [turned, withBld_lnk, handed, withBld_lnk, keyed, begun]

/-- A boundary at which every delivery waits changes zones, images and maps alone. -/
theorem boundaryEvent_of_allWait {s : State} (waits : s.AllWait) (o : EndingOrder) : ∃ zon bld maps,
    s.boundaryEvent o = ((s.withZon zon).withBld bld).withRcp { s.rcp with maps := maps } := by
  obtain ⟨zon, lnk, bld, turned⟩ := s.turned_only
  obtain ⟨maps, only⟩ := s.boundaryEvent_only o
  have same : lnk = s.lnk := (congrArg State.lnk turned).symm.trans s.turned_lnk
  rw [settled_of_allWait waits, turned, same] at only
  exact ⟨zon, bld, maps, only⟩

/-- No group is launched where no next image is held (R133). -/
theorem kept_of_no_image {s : State} {g : Nat} (hg : g < 4) (none : (s.images g).next = none) :
    s.keptGroups.getLsbD g = false :=
  Bool.eq_false_iff.2 fun kept => ((s.kept_iff hg).1 kept).1 none

/-- What a boundary leaves where no next plan and no next image are held (R112, R113, R133, R145). -/
theorem boundaryEvent_of_none_held {s : State} (o : EndingOrder)
    (none_held : ∀ g < 4, (s.group g).next = none ∧ (s.images g).next = none) :
    (∀ g < 4, ((s.boundaryEvent o).group g).current = none ∧ ((s.boundaryEvent o).group g).next = none ∧
      ((s.boundaryEvent o).images g).current = none ∧ ((s.boundaryEvent o).images g).next = none ∧
      ((s.boundaryEvent o).maps g).current = none) ∧
    ∀ z < 8, ((s.boundaryEvent o).zone z).keyed = false := by
  refine ⟨fun g hg => ?group, fun z hz => ?zone⟩
  case group =>
    obtain ⟨plan, image⟩ := none_held g hg
    have maps : ((s.boundaryEvent o).maps g).current = none := by
      rw [boundaryEvent_eq_settled, moved_maps _ _ hg, kept_of_no_image hg image]
      rfl
    rw [s.boundaryEvent_group o hg, s.boundaryEvent_images o hg]
    exact ⟨plan, rfl, handOver_of_none image _, handOver_next .., maps⟩
  case zone =>
    rw [s.boundaryEvent_zone o]
    refine Bool.eq_false_iff.2 fun keyed => ?_
    obtain ⟨-, g, hg, image, -⟩ := (s.keyedUp_keyed hz).1.1 keyed
    exact image (none_held g hg).2

/-! ### The frame abandoned (R98, R112, R145) -/

/-- The state that STOP CLOCK leaves: the clock stopped, plans and maps removed. -/
def stopped (s : State) : State :=
  groupNumbers.foldl dropMaps (groupNumbers.foldl dropPlans (s.withClk s.clk.stop))

theorem dropped_only (s : State) : ∃ groups maps, s.stopped =
    ((s.withClk s.clk.stop).withZon { s.zon with groups := groups }).withRcp { s.rcp with maps := maps } := by
  have plans (l : List Nat) (t : State) : ∃ groups, l.foldl dropPlans t = t.withZon { t.zon with groups := groups } := by
    induction l generalizing t with
    | nil => exact ⟨t.zon.groups, rfl⟩
    | cons g l ih => obtain ⟨groups, rest⟩ := ih (t.dropPlans g); exact ⟨groups, rest⟩
  have maps (l : List Nat) (t : State) : ∃ maps, l.foldl dropMaps t = t.withRcp { t.rcp with maps := maps } := by
    induction l generalizing t with
    | nil => exact ⟨t.rcp.maps, rfl⟩
    | cons g l ih => obtain ⟨maps, rest⟩ := ih (dropMaps t g); exact ⟨maps, rest⟩
  obtain ⟨groups, dropped⟩ := plans groupNumbers (s.withClk s.clk.stop)
  obtain ⟨maps, removed⟩ := maps groupNumbers ((s.withClk s.clk.stop).withZon { s.zon with groups := groups })
  exact ⟨groups, maps, by rw [stopped, dropped]; exact removed⟩

theorem stopped_group (s : State) {g : Nat} (hg : g < 4) :
    s.stopped.group g = { s.group g with current := none, next := none } := by
  have dropped : (groupNumbers.foldl dropPlans (s.withClk s.clk.stop)).group g = _ :=
    read_foldl_rewrite (read := State.group) (F := fun _ r => { r with current := none, next := none }) (P := fun _ => True)
      (fun _ _ _ => trivial) (fun s n k _ => by rw [dropPlans, group_setGroup]; split <;> simp [*]) nodup_groupNumbers trivial g
  rw [if_pos ((mem_groupNumbers g).2 hg)] at dropped
  exact (foldl_fixed (f := dropMaps) (read := fun s => s.group g) (fun _ _ => rfl) _ _).trans dropped

theorem stopped_maps (s : State) {g : Nat} (hg : g < 4) : s.stopped.maps g = .absent :=
  (read_foldl_rewrite (read := State.maps) (f := dropMaps) (F := fun _ _ => GroupMaps.absent) (P := fun _ => True)
    (fun _ _ _ => trivial) (fun s n k _ => by rw [dropMaps, maps_setMaps]) nodup_groupNumbers trivial g).trans
    (if_pos ((mem_groupNumbers g).2 hg))

/-- A delivery ON AIR or AWAIT RECEIPT needs the clock (R98, check 3). -/
theorem deliveriesNeedClock_of_live {s : State} {n : Nat} {d : Delivery} (live : s.live n = some d)
    (state : d.state = .onAir ∨ d.state = .awaitReceipt) : s.deliveriesNeedClock = true := by
  have listed : n ∈ s.liveWhere (fun d => d.state = .onAir || d.state = .awaitReceipt) :=
    Table.mem_numbers_of_read (dflt := .fresh) rfl (by
      show (match s.live n with | some d => _ | none => false) = true
      simpa [live] using state)
  rw [deliveriesNeedClock, Bool.not_eq_true', List.isEmpty_eq_false_iff]
  exact List.ne_nil_of_mem listed

end State

/-! ### The two requests -/

theorem serveStartClock_of_stopped {s : State} (stopped : s.clk.state = .stopped) :
    serveStartClock [] s =
      ((s.withClk s.clk.start).boundaryEvent .endedMissedDropped, .accept (ser4 s.clk.serial)) := by
  simp [serveStartClock, stopped]

theorem serveStopClock_of_running {s : State} (running : s.clk.state = .running) :
    serveStopClock [] s =
      if s.bld.air ≠ .halted ∨ s.deliveriesNeedClock = true then refuse s .airActive
      else (s.stopped, .accept (ser4 (s.clk.serial + 1))) := by
  have clk : s.stopped.clk = s.clk.stop := by
    obtain ⟨_, _, h⟩ := s.dropped_only
    rw [h]; rfl
  have serial : s.stopped.clk.serial = s.clk.serial + 1 := by rw [clk]; rfl
  have still : ¬s.clk.state = .stopped := by simp [running]
  rw [← serial, serveStopClock]
  exact (if_neg (not_not.2 rfl)).trans (if_neg still)

/-- Settles O33: the boundary of START CLOCK finds nothing to turn and no delivery to end; STOP CLOCK goes through its checks
and drops plans and maps. -/
theorem clockStartsAndStops : Obligations.ClockStartsAndStops := by
  unfold Obligations.ClockStartsAndStops
  refine ⟨fun s tag ready => ⟨fun running => ?startRefused, fun stopped halted none_held waits => ?start⟩,
    fun s tag ready => ⟨fun stopped => ?stopRefused, fun running air => ?airActive, fun running needs => ?needed,
      fun running halted free => ?stop⟩,
    fun s tag p ready length => refuses_of_served (serve := serveStartClock) rfl ready (if_pos (by simpa using length)),
    fun s tag p ready length => refuses_of_served (serve := serveStopClock) rfl ready (if_pos (by simpa using length))⟩
  case startRefused =>
    exact refuses_of_served (serve := serveStartClock) rfl ready (by simp [serveStartClock, State.taken, running])
  case start =>
    have started := exec_of_served (c := .startClock tag []) (serve := serveStartClock) rfl ready
      (serveStartClock_of_stopped (s := s.taken) stopped)
    obtain ⟨groups, zones⟩ :=
      State.boundaryEvent_of_none_held (s := s.taken.withClk s.taken.clk.start) .endedMissedDropped none_held
    have air : ((s.taken.withClk s.taken.clk.start).boundaryEvent .endedMissedDropped).bld.air = .halted := by
      rw [State.boundaryEvent_bld, State.turned_air]
      exact if_neg (by simp [State.taken, halted]) |>.trans halted
    obtain ⟨zon, bld, maps, only⟩ := State.boundaryEvent_of_allWait (s := s.taken.withClk s.taken.clk.start) waits .endedMissedDropped
    rw [only] at started groups zones air
    refine ⟨_, started, ?clk, answered_lnk (by simp) _ _, groups, zones, air, ?_⟩
    case clk => rw [State.answered_clk, State.withRcp_clk, State.withBld_clk, State.withZon_clk]; rfl
    simp
  case stopRefused =>
    exact refuses_of_served (serve := serveStopClock) rfl ready (by simp [serveStopClock, State.taken, stopped])
  case airActive =>
    exact refuses_of_served (serve := serveStopClock) rfl ready
      ((serveStopClock_of_running (s := s.taken) running).trans (if_pos (.inl air)))
  case needed =>
    obtain ⟨n, d, live, state⟩ := needs
    exact refuses_of_served (serve := serveStopClock) rfl ready ((serveStopClock_of_running (s := s.taken) running).trans
      (if_pos (.inr (State.deliveriesNeedClock_of_live (s := s.taken) live state))))
  case stop =>
    have passed : ¬(s.taken.bld.air ≠ .halted ∨ s.taken.deliveriesNeedClock = true) := by
      rw [not_or, not_not, Bool.not_eq_true]
      exact ⟨halted, free⟩
    have ended := exec_of_served (c := .stopClock tag []) (serve := serveStopClock) rfl ready
      ((serveStopClock_of_running (s := s.taken) running).trans (if_neg passed))
    obtain ⟨groups, maps, only⟩ := s.taken.dropped_only
    have group {g : Nat} (hg : g < 4) := s.taken.stopped_group hg
    have map {g : Nat} (hg : g < 4) := s.taken.stopped_maps hg
    rw [only] at ended group map
    refine ⟨_, ended, ?clk, answered_lnk (by simp) _ _,
      fun g hg => ⟨congrArg Group.current (group hg), congrArg Group.next (group hg), map hg⟩,
      fun z => ⟨by simp [State.zone], by simp [State.queue]⟩, ?_⟩
    case clk => rw [State.answered_clk, State.withRcp_clk, State.withZon_clk]; rfl
    simp

end Sys2Proof.Machine
end

section
/-! PROOFS. The frame in progress: what events leave its clock as it stands, the air on its side, and no zone keyed anew; and the
events that move its clock (R90, R92, R94, R113, R114, R122; log 3). -/

namespace Sys2Proof.Machine

namespace State

variable {s t u : State}

/-! ### What the invariants of the clock and the air need of a step -/

/-- Between two states the invariants of the clock and of the air are kept. -/
structure KeepsTime (s t : State) : Prop where
  range : s.clockInRange → t.clockInRange
  air : s.airFollowsClock → t.airFollowsClock
  time : s.timeAgrees → t.timeAgrees

theorem KeepsTime.refl (s : State) : s.KeepsTime s := ⟨id, id, id⟩

theorem KeepsTime.trans (h : s.KeepsTime t) (g : t.KeepsTime u) : s.KeepsTime u :=
  ⟨g.range ∘ h.range, g.air ∘ h.air, g.time ∘ h.time⟩

/-- Between two states the clock and the air have stood still, no zone was keyed, no current plan was replaced, and no next
image was laid out but with the air ON. -/
structure Steady (s t : State) : Prop where
  clk : t.clk = s.clk
  air : t.bld.air = s.bld.air
  keyed : ∀ z, (t.zone z).keyed = true → (s.zone z).keyed = true
  current : ∀ g, (t.group g).current = (s.group g).current
  next : s.bld.air ≠ .on → ∀ g < 4, (s.images g).next = none → (t.images g).next = none

namespace Steady

theorem of_same (clk : t.clk = s.clk) (zon : t.zon = s.zon) (bld : t.bld = s.bld) : s.Steady t where
  clk := clk
  air := congrArg Builder.air bld
  keyed z keyed := by rwa [zone_of_zon zon] at keyed
  current g := by rw [group_of_zon zon]
  next _ g _ none := by rwa [images_of_bld bld]

theorem refl (s : State) : s.Steady s := of_same rfl rfl rfl

theorem trans (h : s.Steady t) (g : t.Steady u) : s.Steady u where
  clk := g.clk.trans h.clk
  air := g.air.trans h.air
  keyed z keyed := h.keyed z (g.keyed z keyed)
  current k := (g.current k).trans (h.current k)
  next off k hk none := g.next (by rwa [h.air]) k hk (h.next off k hk none)

theorem foldl {α : Type} {f : State → α → State} (h : ∀ (s : State) (a : α), s.Steady (f s a)) (l : List α) (s : State) :
    s.Steady (l.foldl f s) := by
  induction l generalizing s with
  | nil => exact refl s
  | cons a l ih => exact (h s a).trans (ih _)

/-- The plan that lists a zone is read off the current plans alone (R118). -/
theorem zonePlan (h : s.Steady t) (z : Nat) : t.zonePlan z = s.zonePlan z := by
  have members (g : Nat) : t.currentMembers g = s.currentMembers g := by rw [currentMembers, h.current]; rfl
  have group : t.planGroup z = s.planGroup z := by simp only [planGroup, members]
  unfold State.zonePlan
  rw [group]
  cases s.planGroup z with
  | none => rfl
  | some g => exact h.current g

theorem reaches (h : s.Steady t) {q : Nat} (reached : s.reaches q) : t.reaches q := by
  obtain ⟨running, behind, inFrame, build, fields⟩ := reached
  unfold State.reaches
  rw [h.clk]
  exact ⟨running, behind, inFrame, build, fun z hz p keyed plan => fields z hz p (h.keyed z keyed) (h.zonePlan z ▸ plan)⟩

theorem keepsTime (h : s.Steady t) : s.KeepsTime t where
  range inRange := by rw [clockInRange, h.clk]; exact inRange
  air follows := by
    rw [airFollowsClock, h.air, h.clk]
    exact ⟨follows.1, fun off g hg => h.next off g hg (follows.2 off g hg)⟩
  time agrees running := by
    rw [h.clk] at running ⊢
    exact h.reaches (agrees running)

end Steady

/-! ### The zone controller -/

theorem setZone_steady {z : Nat} {r : Zone} (keyed : r.keyed = true → (s.zone z).keyed = true) : s.Steady (s.setZone z r) :=
  { Steady.refl s with
    keyed := fun k h => by
      rw [zone_setZone] at h
      split at h
      · rename_i same; rw [same]; exact keyed h
      · exact h }

theorem setGroup_steady {g : Nat} {r : Group} (current : r.current = (s.group g).current) : s.Steady (s.setGroup g r) :=
  { Steady.refl s with
    current := fun k => by
      rw [group_setGroup]
      split
      · rename_i same; rw [same]; exact current
      · rfl }

theorem notice_steady (s : State) (k : Byte) (f : List Byte) : s.Steady (s.notice k f) := .of_same rfl rfl rfl

theorem flagZone_steady {n : Nat} {z : Zone} {e : BitVec 3} (keyed : z.keyed = true → (s.zone n).keyed = true) :
    s.Steady (s.flagZone n z e) := by
  unfold flagZone
  dsimp only
  split
  · exact (setZone_steady (r := { z with flags := z.flags ||| e }) keyed).trans (notice_steady ..)
  · exact setZone_steady keyed

/-- A zone's alarm keys no zone (R107). -/
theorem takeAlarm_keyed {z : Zone} {a : Alarm} (keyed : (z.takeAlarm a).keyed = true) : z.keyed = true := by
  cases a with
  | active => cases keyed
  | inactive => exact keyed

theorem followAlarm_steady {n : Nat} {z : Zone} (keyed : z.keyed = true → (s.zone n).keyed = true) :
    s.Steady (s.followAlarm n z) := by
  unfold followAlarm
  dsimp only
  split
  · exact setZone_steady keyed
  · exact flagZone_steady fun h => keyed (takeAlarm_keyed h)

theorem takeZoneSettings_steady (s : State) (n : Nat) : s.Steady (s.takeZoneSettings n) := by
  unfold takeZoneSettings
  dsimp only
  split
  · split
    · exact setZone_steady fun h => h
    · exact followAlarm_steady fun h => h
  · exact .refl s

theorem takeGroupSettings_steady (s : State) (g : Nat) : s.Steady (s.takeGroupSettings g) := by
  unfold takeGroupSettings
  dsimp only
  split
  · exact setGroup_steady rfl
  · exact .refl s

theorem testService_steady (s : State) (n : Nat) : s.Steady (s.testService n) := by
  unfold testService
  dsimp only
  split
  · exact .refl s
  · exact flagZone_steady fun h => h

theorem makePlan_steady (s : State) (g : Nat) : s.Steady (s.makePlan g) := setGroup_steady rfl

theorem zoneBuildPoint_steady (s : State) : s.Steady s.zoneBuildPoint := by
  unfold zoneBuildPoint
  exact (((Steady.foldl takeZoneSettings_steady _ _).trans (Steady.foldl takeGroupSettings_steady _ _)).trans
    (Steady.foldl testService_steady _ _)).trans (Steady.foldl makePlan_steady _ _)

theorem judgeAt_steady (k : Nat) (s : State) (n : Nat) : s.Steady (judgeAt k s n) := by
  unfold judgeAt judge
  split
  · split
    · dsimp only
      split
      · exact setZone_steady fun h => by cases h
      · exact flagZone_steady fun h => by cases h
    · exact .refl s
  · exact .refl s

theorem offerAt_steady (k : Nat) (s : State) (n : Nat) : s.Steady (offerAt k s n) := by
  unfold offerAt
  split
  · exact .refl s
  · split
    · split
      · exact setZone_steady fun h => h
      · exact .refl s
    · exact .refl s

/-! ### The build (R125) -/

theorem build_eq_completed (s : State) (x : Serial) : s.build x = groupNumbers.foldl completeGroup (s.walked x) := by
  obtain ⟨_, _, opened⟩ := s.opened_only
  rw [walked, opened, build_eq, opened]
  rfl

/-- A build leaves the clock, the zones and the air as they stand. -/
theorem build_frame (s : State) (x : Serial) :
    (s.build x).clk = s.clk ∧ (s.build x).zon = s.zon ∧ (s.build x).bld.air = s.bld.air := by
  obtain ⟨_, _, opened⟩ := s.opened_only
  obtain ⟨_, completed⟩ := (s.walked x).completed_only
  have walk : Touched _ s.opened (s.walked x) := Touched.foldl (Touched.visit x) _ _
  rw [build_eq_completed, completed, withBld_clk, withBld_zon, withBld_bld, walk.clk, walk.zon, walk.air, opened]
  exact ⟨rfl, rfl, rfl⟩

theorem buildPointEvent_steady (s : State) : s.Steady s.buildPointEvent := by
  have planned := s.zoneBuildPoint_steady
  unfold buildPointEvent
  dsimp only
  split
  · rename_i on
    obtain ⟨clk, zon, air⟩ := s.zoneBuildPoint.build_frame (s.zoneBuildPoint.clk.serial + 1)
    have built : s.zoneBuildPoint.Steady (s.zoneBuildPoint.build (s.zoneBuildPoint.clk.serial + 1)) :=
      { clk := clk
        air := air
        keyed := fun z keyed => by rwa [zone_of_zon zon] at keyed
        current := fun g => by rw [group_of_zon zon]
        next := fun off => absurd on off }
    exact planned.trans built
  · exact planned

/-! ### Return records -/

theorem setCounters_steady (s : State) (c : ReceiptCounters) : s.Steady (s.setCounters c) := .of_same rfl rfl rfl

theorem countStray_steady (s : State) (zone : Nat) : s.Steady (s.countStray zone) := by
  have counted : s.Steady (s.setZone zone { s.zone zone with
      strayReceipts := satAdd Config.count16Max (s.zone zone).strayReceipts 1 }) := setZone_steady fun h => h
  exact counted.trans (setCounters_steady ..)

theorem countDelivered_steady (s : State) (zone : Nat) : s.Steady (s.countDelivered zone) := by
  have counted : s.Steady (s.setZone zone { s.zone zone with
      receiptsHeard := satAdd Config.count16Max (s.zone zone).receiptsHeard 1 }) := setZone_steady fun h => h
  exact counted.trans (setCounters_steady ..)

theorem deliver_steady (s : State) (zone : Nat) (m : ReceiptMap) (n : Nat) (d : Delivery) (reply : Nat) (check : Byte) :
    s.Steady (s.deliver zone m n d reply check) := by
  have written : s.Steady (s.writeAttempt (.answered (s.ticket n) check) d.last) := .of_same (by simp) (by simp) (by simp)
  rw [deliver_eq]
  generalize s.writeAttempt (.answered (s.ticket n) check) d.last = w at *
  have reported (u : Subscriber) : w.Steady (w.setSub d.subscriber u) := .of_same rfl rfl rfl
  have ended (u : State) : u.Steady (u.endDelivery n (d.answered m.group reply) .delivered .none) :=
    .of_same (by simp) (by simp) (by simp)
  exact ((written.trans (reported _)).trans (countDelivered_steady _ zone)).trans (ended _)

theorem takeReceipt_steady (s : State) (zone frame slot reply : Nat) (check : Byte) :
    s.Steady (s.takeReceipt zone frame slot reply check) := by
  unfold takeReceipt
  split
  · exact s.countStray_steady zone
  · exact s.setCounters_steady _
  · exact s.setCounters_steady _
  · exact s.deliver_steady ..

theorem checkInOne_steady (k : Nat) (s : State) (n : Nat) : s.Steady (checkInOne k s n) := by
  unfold checkInOne
  split
  · exact .refl s
  · split
    · split
      · exact .of_same (by simp) (by simp) (by simp)
      · exact .of_same rfl rfl rfl
      · exact .of_same rfl rfl rfl
      · exact .refl s
      · exact .refl s
    · exact .refl s

theorem takeCheckIn_steady (s : State) (zone : Nat) (a : Word) (x : Serial) (g : Option Nat) :
    s.Steady (s.takeCheckIn zone a x g) := by
  unfold takeCheckIn
  dsimp only
  have counted : s.Steady (s.setZone zone { s.zone zone with
      checkIns := satAdd Config.count16Max (s.zone zone).checkIns 1 }) := setZone_steady fun h => h
  split
  · exact (counted.trans (setCounters_steady ..)).trans (notice_steady ..)
  · rename_i n _
    have reported (u : State) (v : Subscriber) : u.Steady (u.setSub n v) := .of_same rfl rfl rfl
    exact ((counted.trans (setCounters_steady ..)).trans (reported ..)).trans (Steady.foldl (checkInOne_steady n) _ _)

end State

end Sys2Proof.Machine
end

section
/-! PROOFS. Every step keeps the clock in its ranges, the air with the clock, and every event of the frame ahead: the moments and
boundaries of the clock, the requests, and the commands (R90, R92 to R94, R96 to R99, R122). -/

namespace Sys2Proof.Machine

namespace State

variable {s t u : State}

/-! ### The events that move the clock -/

/-- Where the clock, the zones and the groups stand still, only the air may change what the invariants say. -/
theorem KeepsTime.of_clk_zon (clk : t.clk = s.clk) (zon : t.zon = s.zon) (air : s.airFollowsClock → t.airFollowsClock) :
    s.KeepsTime t where
  range inRange := by rw [clockInRange, clk]; exact inRange
  air := air
  time agrees := by
    have same : t.timeAgrees = s.timeAgrees := by cases s; cases t; cases clk; cases zon; rfl
    exact same ▸ agrees

theorem KeepsTime.of_same (clk : t.clk = s.clk) (zon : t.zon = s.zon) (bld : t.bld = s.bld) : s.KeepsTime t :=
  (Steady.of_same clk zon bld).keepsTime

theorem not_running {c : Clock} (stopped : c.state = .stopped) : c.state ≠ .running := by rw [stopped]; decide

/-- A position with no event left behind lies in the frame (R92). -/
theorem inFrame_of_le_nextMoment {q : Nat} (h : q ≤ s.nextMoment) : q < 49936 + s.clk.trim := by
  obtain ⟨frame, -⟩ := (le_nextMoment s q).1 h
  split at frame <;> omega

theorem atMoment_eq_some {q : Nat} (h : s.atMoment q = some u) :
    s.clk.state = .running ∧ s.clk.position ≤ q ∧ q ≤ s.nextMoment ∧ u = s.withClk { s.clk with position := q } := by
  unfold atMoment at h
  split at h
  · rename_i moment
    cases h
    exact ⟨moment.1, moment.2.1, moment.2.2, rfl⟩
  · cases h

theorem atMoment_running {q : Nat} (h : s.atMoment q = some u) : u.clk.state = .running := by
  obtain ⟨running, -, -, rfl⟩ := atMoment_eq_some h
  exact running

/-- To come to a moment of the frame leaves no event behind (R92; log 3). -/
theorem atMoment_keepsTime {q : Nat} (h : s.atMoment q = some u) : s.KeepsTime u := by
  obtain ⟨running, -, ahead, rfl⟩ := atMoment_eq_some h
  have inFrame := inFrame_of_le_nextMoment ahead
  exact {
    range := fun ⟨trim, pending, _⟩ => ⟨trim, pending, inFrame, fun stopped => absurd running (not_running stopped)⟩
    air := id
    time := fun _ _ => (reaches_iff ..).2 ⟨running, Nat.le_refl q, inFrame, ahead⟩ }

/-- A tick that no event holds comes to the next moment of the frame. -/
theorem atMoment_ticked (running : s.clk.state = .running) (free : s.eventDue = false) :
    s.atMoment (s.clk.position + 1) = some (s.ticked 1) :=
  if_pos ⟨running, Nat.le_succ _, eventDue_eq_false_iff.1 free⟩

/-- The build point of a RUNNING clock is taken (R94). -/
theorem passBuild_keepsTime (running : s.clk.state = .running) :
    s.KeepsTime (s.withClk { s.clk with buildPassed := true }) where
  range := fun ⟨trim, pending, inFrame, _⟩ =>
    ⟨trim, pending, inFrame, fun stopped => absurd running (not_running stopped)⟩
  air := id
  time agrees _ := by
    obtain ⟨-, behind, inFrame, -, fields⟩ := agrees running
    exact ⟨running, behind, inFrame, nofun, fields⟩

/-- A frame begins on a RUNNING clock (R93, R97). -/
theorem frameStart_keepsTime {c : Clock} (running : c.state = .running) (start : c.position = 0)
    (trim : c.trim = s.clk.pendingTrim) (pending : c.pendingTrim = s.clk.pendingTrim) (o : EndingOrder) :
    s.KeepsTime ((s.withClk c).boundaryEvent o) := by
  have clk : ((s.withClk c).boundaryEvent o).clk = c := (s.withClk c).boundaryEvent_clk o
  have next {g : Nat} (hg : g < 4) : (((s.withClk c).boundaryEvent o).images g).next = none := by
    rw [(s.withClk c).boundaryEvent_images o hg, handOver_next]
  exact {
    range := fun ⟨_, inRange, _⟩ => by
      rw [clockInRange, clk, trim, pending, start, Clock.frameLength, Config.frameBase]
      exact ⟨inRange, inRange, by omega, fun stopped => absurd running (not_running stopped)⟩
    air := fun _ => ⟨fun _ => clk.symm ▸ running, fun _ g hg => next hg⟩
    time := fun _ _ => by
      rw [State.reaches, clk, start]
      exact ⟨running, Nat.le_refl 0, by omega, fun _ => Nat.zero_le _, fun _ _ _ _ _ => Nat.zero_le _⟩ }

/-- What no invariant of the clock reads of it: the serial and the marks (R95, R96). -/
theorem withClk_keepsTime {c : Clock} (state : c.state = s.clk.state) (trim : c.trim = s.clk.trim)
    (pending : s.clk.pendingTrim ≤ 127 → c.pendingTrim ≤ 127) (position : c.position = s.clk.position)
    (build : c.buildPassed = s.clk.buildPassed) : s.KeepsTime (s.withClk c) where
  range := fun ⟨inRange, inRange', inFrame, still⟩ => by
    rw [clockInRange, withClk_clk, Clock.frameLength, trim, position, state, build]
    exact ⟨inRange, pending inRange', inFrame, still⟩
  air := fun ⟨runs, off⟩ => ⟨fun on => state.trans (runs on), off⟩
  time agrees running := by
    obtain ⟨-, behind, inFrame, fresh, fields⟩ := agrees (state.symm.trans running)
    rw [State.reaches, withClk_clk, trim, position, build]
    exact ⟨running, behind, inFrame, fresh, fields⟩

/-- A STOPPED clock at position 0 with the air HALTED and no next image, as STOP CLOCK and the resets leave it. -/
theorem stopped_keepsTime (stopped : t.clk.state = .stopped) (start : t.clk.position = 0) (fresh : t.clk.buildPassed = false)
    (trim : s.clockInRange → t.clk.trim ≤ 127 ∧ t.clk.pendingTrim ≤ 127) (halted : t.bld.air = .halted)
    (none : s.airFollowsClock → ∀ g < 4, (t.images g).next = none) : s.KeepsTime t where
  range inRange := ⟨(trim inRange).1, (trim inRange).2, by rw [start, Clock.frameLength, Config.frameBase]; omega,
    fun _ => ⟨start, fresh⟩⟩
  air follows := ⟨fun on => absurd halted on, fun _ => none follows⟩
  time _ running := absurd running (not_running stopped)

/-- STOP CLOCK leaves the trims and the next images of a HALTED frame builder (R98). -/
theorem halt_keepsTime (halted : s.bld.air = .halted) : s.KeepsTime s.stopped := by
  obtain ⟨groups, maps, only⟩ := s.dropped_only
  rw [only]
  exact stopped_keepsTime rfl rfl rfl (fun inRange => ⟨inRange.1, inRange.2.1⟩) halted fun follows =>
    follows.2 (by rw [halted]; decide)

/-- AIR OFF discards every next image, and the air is STOPPING on a clock that runs (R122, R124). -/
theorem airOff_keepsTime {s : State} (on : s.bld.air = .on) : s.KeepsTime s.airOff := by
  obtain ⟨clk, zon, -⟩ := s.airOff_standing
  refine .of_clk_zon clk zon fun follows => ⟨fun _ => ?runs, fun _ g hg => ?next⟩
  case runs => rw [clk]; exact follows.1 (by rw [on]; decide)
  case next => rw [airOff_images s hg]

/-- TRAFFIC RESET empties next images and lays out none (R175). -/
theorem trafficReset_keepsTime (s : State) : s.KeepsTime s.trafficReset := by
  have ended := Touched.foldl Touched.cancelOne s.liveNumbers s
  obtain ⟨images, maps, only⟩ := s.trafficReset_only
  have air : s.trafficReset.bld.air = s.bld.air := by rw [only]; exact ended.air
  have clk : s.trafficReset.clk = s.clk := by rw [only]; exact ended.clk
  have zon : s.trafficReset.zon = s.zon := by rw [only]; exact ended.zon
  refine .of_clk_zon clk zon fun follows => ?_
  rw [airFollowsClock, air, clk]
  exact ⟨follows.1, fun off g hg => by rw [trafficReset_images s hg, follows.2 off g hg]; rfl⟩

theorem resetBlocks_keepsTime (s : State) (l : Link) : s.KeepsTime (s.resetBlocks.withLnk l) :=
  stopped_keepsTime rfl rfl rfl (fun _ => ⟨Nat.le_of_ble_eq_true rfl, Nat.le_of_ble_eq_true rfl⟩) rfl fun _ _ _ => rfl

end State

/-! ### The requests that leave the clock, the zones and the air alone -/

/-- A request that leaves the clock, the zone controller and the frame builder as they stand. -/
def LeavesAir (serve : List Byte → State → State × Answer) : Prop :=
  ∀ p s, (serve p s).1.clk = s.clk ∧ (serve p s).1.zon = s.zon ∧ (serve p s).1.bld = s.bld

/-- A request that keeps the invariants of the clock and of the air. -/
def ServiceKeepsTime (serve : List Byte → State → State × Answer) : Prop :=
  ∀ (p : List Byte) (s : State), s.KeepsTime (serve p s).1

theorem LeavesAir.keepsTime {serve : List Byte → State → State × Answer} (h : LeavesAir serve) : ServiceKeepsTime serve :=
  fun p s => .of_same (h p s).1 (h p s).2.1 (h p s).2.2

theorem ReadsOnly.leavesAir {serve : List Byte → State → State × Answer} (h : ReadsOnly serve) : LeavesAir serve :=
  fun p s => by rw [h p s]; exact ⟨rfl, rfl, rfl⟩

theorem ReadsOnly.keepsTime {serve : List Byte → State → State × Answer} (h : ReadsOnly serve) : ServiceKeepsTime serve :=
  h.leavesAir.keepsTime

theorem serveAssignSubscriber_leavesAir : LeavesAir serveAssignSubscriber := by
  intro p s; unfold serveAssignSubscriber; repeat' split
  all_goals exact ⟨rfl, rfl, rfl⟩

theorem serveModifySubscriber_leavesAir : LeavesAir serveModifySubscriber := by
  have rekey (s : State) (n : Nat) (old new : Subscriber) :
      (s.rekey n old new).clk = s.clk ∧ (s.rekey n old new).zon = s.zon ∧ (s.rekey n old new).bld = s.bld := by
    unfold State.rekey; split <;> exact ⟨rfl, rfl, rfl⟩
  have relink (s : State) (old new : Nat) :
      (s.relink old new).clk = s.clk ∧ (s.relink old new).zon = s.zon ∧ (s.relink old new).bld = s.bld := by
    unfold State.relink; split <;> exact ⟨rfl, rfl, rfl⟩
  intro p s; unfold serveModifySubscriber; dsimp only; repeat' split
  all_goals simp only [refuse, relink, rekey, and_self]

theorem serveSuspend_leavesAir : LeavesAir serveSuspend := by
  intro p s; unfold serveSuspend; repeat' split
  all_goals exact ⟨rfl, rfl, rfl⟩

theorem serveResume_leavesAir : LeavesAir serveResume := by
  intro p s; unfold serveResume; repeat' split
  all_goals exact ⟨rfl, rfl, rfl⟩

theorem serveRelease_leavesAir : LeavesAir serveRelease := by
  intro p s; unfold serveRelease; dsimp only; repeat' split
  all_goals exact ⟨rfl, rfl, rfl⟩

theorem serveOpenAccount_leavesAir : LeavesAir serveOpenAccount := by
  intro p s; unfold serveOpenAccount; repeat' split
  all_goals exact ⟨rfl, rfl, rfl⟩

theorem serveAdjustAccount_leavesAir : LeavesAir serveAdjustAccount := by
  intro p s; unfold serveAdjustAccount; repeat' split
  all_goals exact ⟨rfl, rfl, rfl⟩

theorem serveSetCredit_leavesAir : LeavesAir serveSetCredit := by
  intro p s; unfold serveSetCredit; repeat' split
  all_goals exact ⟨rfl, rfl, rfl⟩

theorem serveSetTariffClass_leavesAir : LeavesAir serveSetTariffClass := by
  intro p s; unfold serveSetTariffClass; repeat' split
  all_goals exact ⟨rfl, rfl, rfl⟩

theorem serveLock_leavesAir : LeavesAir serveLock := by
  intro p s; unfold serveLock; repeat' split
  all_goals exact ⟨rfl, rfl, rfl⟩

theorem serveUnlock_leavesAir : LeavesAir serveUnlock := by
  intro p s; unfold serveUnlock; repeat' split
  all_goals exact ⟨rfl, rfl, rfl⟩

theorem serveClose_leavesAir : LeavesAir serveClose := by
  intro p s; unfold serveClose; dsimp only; repeat' split
  all_goals exact ⟨rfl, rfl, rfl⟩

theorem serveLoadTariff_leavesAir : LeavesAir serveLoadTariff := by
  intro p s; unfold serveLoadTariff; repeat' split
  all_goals exact ⟨rfl, rfl, rfl⟩

theorem serveSetPriorityProfile_leavesAir : LeavesAir serveSetPriorityProfile := by
  intro p s; unfold serveSetPriorityProfile; repeat' split
  · exact ⟨rfl, rfl, rfl⟩
  · exact ⟨rfl, rfl, rfl⟩
  · exact ⟨State.setProfile_clk .., State.setProfile_zon .., State.setProfile_bld ..⟩

theorem serveTakeUsage_leavesAir : LeavesAir serveTakeUsage := by
  intro p s; unfold serveTakeUsage; split <;> exact ⟨rfl, rfl, rfl⟩

theorem serveSetWatermark_leavesAir : LeavesAir serveSetWatermark := by
  intro p s; unfold serveSetWatermark; split <;> exact ⟨rfl, rfl, rfl⟩

theorem serveQueryLink_leavesAir : LeavesAir serveQueryLink := by
  intro p s; unfold serveQueryLink; split <;> exact ⟨rfl, rfl, rfl⟩

/-- An accepted submission leaves the air alone (R52). -/
theorem State.accept_leavesAir (s : State) (n : Nat) (x : Submission) (o : Option Nat) :
    (s.accept n x o).state.clk = s.clk ∧ (s.accept n x o).state.zon = s.zon ∧ (s.accept n x o).state.bld = s.bld := by
  unfold State.accept
  dsimp only
  rw [State.enroll_only, State.takeBody_only]
  exact ⟨rfl, rfl, rfl⟩

theorem serveSubmitPage_leavesAir : LeavesAir serveSubmitPage := by
  intro p s
  unfold serveSubmitPage
  split
  · exact ⟨rfl, rfl, rfl⟩
  split
  · exact ⟨rfl, rfl, rfl⟩
  · exact s.accept_leavesAir ..

theorem takeMember_leavesAir (x : Submission) (g : GroupProgress) (n : Nat) :
    (takeMember x g n).state.clk = g.state.clk ∧ (takeMember x g n).state.zon = g.state.zon ∧
      (takeMember x g n).state.bld = g.state.bld := by
  unfold takeMember
  split
  · exact ⟨rfl, rfl, rfl⟩
  · exact g.state.accept_leavesAir ..

theorem serveSubmitGroupPage_leavesAir : LeavesAir serveSubmitGroupPage := by
  intro p s
  unfold serveSubmitGroupPage
  split
  · exact ⟨rfl, rfl, rfl⟩
  rename_i list x _
  have members (l : List Nat) (g : GroupProgress) : (l.foldl (takeMember x) g).state.clk = g.state.clk ∧
      (l.foldl (takeMember x) g).state.zon = g.state.zon ∧ (l.foldl (takeMember x) g).state.bld = g.state.bld := by
    induction l generalizing g with
    | nil => exact ⟨rfl, rfl, rfl⟩
    | cons n l ih =>
      obtain ⟨clk, zon, bld⟩ := takeMember_leavesAir x g n
      obtain ⟨clk', zon', bld'⟩ := ih (takeMember x g n)
      exact ⟨clk'.trans clk, zon'.trans zon, bld'.trans bld⟩
  exact members list { state := s, body := none, accepted := 0, entries := [] }

theorem serveCancel_leavesAir : LeavesAir serveCancel := by
  intro p s
  unfold serveCancel
  dsimp only
  repeat' split
  · exact ⟨rfl, rfl, rfl⟩
  · exact ⟨rfl, rfl, rfl⟩
  · exact ⟨State.endDelivery_clk .., State.endDelivery_zon .., State.endDelivery_bld ..⟩
  · exact ⟨rfl, rfl, rfl⟩

/-! ### The requests of the clock, the zones and the air -/

theorem serveSetClock_keepsTime : ServiceKeepsTime serveSetClock := by
  intro p s
  unfold serveSetClock
  repeat' split
  · exact .refl s
  · exact .refl s
  · exact State.withClk_keepsTime rfl rfl id rfl rfl

theorem serveSetTrim_keepsTime : ServiceKeepsTime serveSetTrim := by
  intro p s
  unfold serveSetTrim
  split
  · exact .refl s
  · exact State.withClk_keepsTime rfl rfl (fun _ => Nat.min_le_right ..) rfl rfl

theorem serveStartClock_keepsTime : ServiceKeepsTime serveStartClock := by
  intro p s
  unfold serveStartClock
  repeat' split
  · exact .refl s
  · exact .refl s
  · exact State.frameStart_keepsTime (c := s.clk.start) rfl rfl rfl rfl _

theorem serveStopClock_keepsTime : ServiceKeepsTime serveStopClock := by
  intro p s
  unfold serveStopClock
  repeat' split
  · exact .refl s
  · exact .refl s
  · exact .refl s
  · rename_i free
    exact State.halt_keepsTime (not_not.1 fun air => free (.inl air))

theorem serveSetZone_keepsTime : ServiceKeepsTime serveSetZone := by
  intro p s
  unfold serveSetZone
  repeat' split
  · exact .refl s
  · exact .refl s
  · exact .refl s
  · exact .refl s
  · exact State.Steady.keepsTime (State.setZone_steady fun h => h)

theorem serveSetGroup_keepsTime : ServiceKeepsTime serveSetGroup := by
  intro p s
  unfold serveSetGroup
  repeat' split
  · exact .refl s
  · exact .refl s
  · exact .refl s
  · exact .refl s
  · exact State.Steady.keepsTime (State.setGroup_steady rfl)

theorem serveClearZoneFlags_keepsTime : ServiceKeepsTime serveClearZoneFlags := by
  intro p s
  unfold serveClearZoneFlags
  repeat' split
  · exact .refl s
  · exact .refl s
  · exact State.Steady.keepsTime (State.setZone_steady fun h => h)

theorem serveAirOn_keepsTime : ServiceKeepsTime serveAirOn := by
  intro p s
  unfold serveAirOn
  repeat' split
  · exact .refl s
  · exact .refl s
  · exact .refl s
  · exact .refl s
  · rename_i still
    have running : s.clk.state = .running := by
      cases state : s.clk.state with
      | stopped => exact absurd state still
      | running => rfl
    exact .of_clk_zon rfl rfl fun _ => ⟨fun _ => running, fun off => absurd rfl off⟩

theorem serveAirOff_keepsTime : ServiceKeepsTime serveAirOff := by
  intro p s
  cases p with
  | cons b p => exact .refl s
  | nil =>
    cases air : s.bld.air with
    | halted => simpa [serveAirOff, air, refuse] using State.KeepsTime.refl s
    | stopping => simpa [serveAirOff, air, refuse] using State.KeepsTime.refl s
    | on => rw [serveAirOff_of_on air]; exact State.airOff_keepsTime air

theorem serveTrafficReset_keepsTime : ServiceKeepsTime serveTrafficReset := by
  intro p s
  unfold serveTrafficReset
  split
  · exact .refl s
  · exact s.trafficReset_keepsTime

theorem serveFullReset_keepsTime : ServiceKeepsTime serveFullReset := by
  intro p s
  unfold serveFullReset
  split
  · exact .refl s
  · exact s.resetBlocks_keepsTime s.lnk

/-! ### The commands -/

section Events

variable {s t u : State}

theorem event_keepsTime (kept : s.KeepsTime u) (h : event u = .next t) : s.KeepsTime t := by
  cases h
  exact kept.trans (.of_same rfl rfl rfl)

theorem request_keepsTime {kind tag : Byte} {p : List Byte} {serve : List Byte → State → State × Answer}
    (serves : ServiceKeepsTime serve) (h : request kind tag p serve s = .next t) : s.KeepsTime t := by
  obtain ⟨u, reached, idle | ⟨-, served⟩⟩ := request_cases kind tag p serve s
  all_goals
    have arrived : s.KeepsTime u := by
      rcases reached with rfl | rfl
      · exact .refl u
      · rw [arrival_eq]; exact .of_same rfl rfl rfl
  · exact event_keepsTime arrived (idle.symm.trans h)
  · cases served.symm.trans h
    have taken : u.KeepsTime u.taken := .of_same rfl rfl rfl
    exact ((arrived.trans taken).trans (serves p u.taken)).trans (.of_same (by simp) (by simp) (by simp))

/-- An event at a moment of the frame, where the frame reaches it. -/
theorem atMoment_acts_keepsTime {q : Nat} {f : State → Host.Outcome State Fault Refusal}
    (acts : ∀ u, s.atMoment q = some u → f u = .next t → u.KeepsTime t)
    (h : (match s.atMoment q with | some u => f u | none => event s) = .next t) : s.KeepsTime t := by
  cases moment : s.atMoment q with
  | none => simp only [moment] at h; exact event_keepsTime (.refl s) h
  | some u =>
    simp only [moment] at h
    exact (State.atMoment_keepsTime moment).trans (acts u moment h)

theorem execUnknownKindRequest_keepsTime {kind tag : Byte} {p : List Byte} (h : execUnknownKindRequest kind tag p s = .next t) :
    s.KeepsTime t := by
  unfold execUnknownKindRequest at h
  split at h
  · exact event_keepsTime (.refl s) h
  · exact request_keepsTime (fun _ s => State.KeepsTime.refl s) h

theorem execFramingError_keepsTime (h : execFramingError s = .next t) : s.KeepsTime t := by
  have entered (c : LinkCause) (r : Receiver) (l : List Byte) : s.KeepsTime (s.enterLinkError c r l) := by
    rw [enterLinkError_eq]
    exact .of_same rfl rfl rfl
  unfold execFramingError at h
  split at h
  · exact event_keepsTime (entered ..) h
  · exact event_keepsTime (entered ..) h
  · exact event_keepsTime (.refl s) h

theorem execBoundary_keepsTime {o : EndingOrder} (h : execBoundary o s = .next t) : s.KeepsTime t :=
  atMoment_acts_keepsTime (fun u moment ran => by
    exact event_keepsTime
      (State.frameStart_keepsTime (c := u.clk.nextFrame) (State.atMoment_running moment) rfl rfl rfl o) ran) h

theorem execBuildPoint_keepsTime (h : execBuildPoint s = .next t) : s.KeepsTime t := by
  unfold execBuildPoint at h
  split at h
  · rename_i u moment
    split at h
    · exact event_keepsTime (.refl s) h
    · exact (State.atMoment_keepsTime moment).trans (event_keepsTime
        ((State.passBuild_keepsTime (State.atMoment_running moment)).trans (State.buildPointEvent_steady _).keepsTime) h)
  · exact event_keepsTime (.refl s) h

theorem execWordOffer_keepsTime {k : Nat} (h : execWordOffer k s = .next t) : s.KeepsTime t := by
  unfold execWordOffer at h
  split at h
  · exact atMoment_acts_keepsTime (fun u _ ran =>
      event_keepsTime (State.Steady.foldl (State.offerAt_steady k) zoneNumbers u).keepsTime ran) h
  · exact event_keepsTime (.refl s) h

theorem execDataFieldEnd_keepsTime {k : Nat} (h : execDataFieldEnd k s = .next t) : s.KeepsTime t := by
  unfold execDataFieldEnd at h
  split at h
  · exact atMoment_acts_keepsTime (fun u _ ran =>
      event_keepsTime (State.Steady.foldl (State.judgeAt_steady k) zoneNumbers u).keepsTime ran) h
  · exact event_keepsTime (.refl s) h

theorem execWordTaken_keepsTime {z : Fin 8} (h : execWordTaken z s = .next t) : s.KeepsTime t := by
  unfold execWordTaken at h
  dsimp only at h
  split at h
  · refine event_keepsTime ?_ h
    exact State.Steady.keepsTime (State.setZone_steady fun h => h)
  · exact event_keepsTime (.refl s) h

theorem execReturnRecordArrival_keepsTime {z : Fin 8} {l : List Byte} (h : execReturnRecordArrival z l s = .next t) :
    s.KeepsTime t := by
  unfold execReturnRecordArrival at h
  dsimp only at h
  split at h
  · refine event_keepsTime ?_ h
    exact State.Steady.keepsTime (State.setZone_steady fun h => h)
  · split at h
    all_goals refine event_keepsTime ?_ h
    · exact .of_same rfl rfl rfl
    · exact State.Steady.keepsTime (State.setZone_steady fun h => h)

theorem execReceiptTaken_keepsTime {z : Fin 8} (h : execReceiptTaken z s = .next t) : s.KeepsTime t := by
  unfold execReceiptTaken at h
  split at h
  · rename_i rest _
    have taken : s.Steady (s.setQueue z.val rest) := .of_same rfl rfl rfl
    exact event_keepsTime (taken.trans (State.takeReceipt_steady ..)).keepsTime h
  · exact event_keepsTime (.refl s) h

theorem execCheckInTaken_keepsTime {z : Fin 8} (h : execCheckInTaken z s = .next t) : s.KeepsTime t := by
  unfold execCheckInTaken at h
  split at h
  · rename_i rest _
    have taken : s.Steady (s.setQueue z.val rest) := .of_same rfl rfl rfl
    exact event_keepsTime (taken.trans (State.takeCheckIn_steady ..)).keepsTime h
  · exact event_keepsTime (.refl s) h

theorem execMarkEdge_keepsTime (h : execMarkEdge s = .next t) : s.KeepsTime t := by
  refine event_keepsTime ?_ h
  cases state : s.clk.state with
  | running => rw [Clock.mark_of_running state]; exact State.withClk_keepsTime rfl rfl id rfl rfl
  | stopped => rw [Clock.mark_of_stopped state]; exact State.withClk_keepsTime rfl rfl id rfl rfl

theorem execTick_keepsTime (h : execTick s = .next t) : s.KeepsTime t := by
  unfold execTick at h
  split at h
  · rename_i runs
    exact event_keepsTime (State.atMoment_keepsTime (State.atMoment_ticked runs.1 runs.2)) h
  · exact event_keepsTime (.refl s) h

end Events

/-- Every command keeps the invariants of the clock and of the air. -/
theorem exec_keepsTime {c : Instr} {s t : State} (h : exec c s = .next t) : s.KeepsTime t := by
  cases c with
  | assignSubscriber tag p => exact request_keepsTime serveAssignSubscriber_leavesAir.keepsTime h
  | modifySubscriber tag p => exact request_keepsTime serveModifySubscriber_leavesAir.keepsTime h
  | suspend tag p => exact request_keepsTime serveSuspend_leavesAir.keepsTime h
  | resume tag p => exact request_keepsTime serveResume_leavesAir.keepsTime h
  | release tag p => exact request_keepsTime serveRelease_leavesAir.keepsTime h
  | querySubscriber tag p => exact request_keepsTime serveQuerySubscriber_readsOnly.keepsTime h
  | openAccount tag p => exact request_keepsTime serveOpenAccount_leavesAir.keepsTime h
  | adjustAccount tag p => exact request_keepsTime serveAdjustAccount_leavesAir.keepsTime h
  | setCredit tag p => exact request_keepsTime serveSetCredit_leavesAir.keepsTime h
  | setTariffClass tag p => exact request_keepsTime serveSetTariffClass_leavesAir.keepsTime h
  | lock tag p => exact request_keepsTime serveLock_leavesAir.keepsTime h
  | unlock tag p => exact request_keepsTime serveUnlock_leavesAir.keepsTime h
  | close tag p => exact request_keepsTime serveClose_leavesAir.keepsTime h
  | queryAccount tag p => exact request_keepsTime serveQueryAccount_readsOnly.keepsTime h
  | loadTariff tag p => exact request_keepsTime serveLoadTariff_leavesAir.keepsTime h
  | queryTariff tag p => exact request_keepsTime serveQueryTariff_readsOnly.keepsTime h
  | setPriorityProfile tag p => exact request_keepsTime serveSetPriorityProfile_leavesAir.keepsTime h
  | queryProfile tag p => exact request_keepsTime serveQueryProfile_readsOnly.keepsTime h
  | submitPage tag p => exact request_keepsTime serveSubmitPage_leavesAir.keepsTime h
  | submitGroupPage tag p => exact request_keepsTime serveSubmitGroupPage_leavesAir.keepsTime h
  | queryStore tag p => exact request_keepsTime serveQueryStore_readsOnly.keepsTime h
  | cancel tag p => exact request_keepsTime serveCancel_leavesAir.keepsTime h
  | queryDelivery tag p => exact request_keepsTime serveQueryDelivery_readsOnly.keepsTime h
  | queryClock tag p => exact request_keepsTime serveQueryClock_readsOnly.keepsTime h
  | setClock tag p => exact request_keepsTime serveSetClock_keepsTime h
  | startClock tag p => exact request_keepsTime serveStartClock_keepsTime h
  | stopClock tag p => exact request_keepsTime serveStopClock_keepsTime h
  | setTrim tag p => exact request_keepsTime serveSetTrim_keepsTime h
  | setZone tag p => exact request_keepsTime serveSetZone_keepsTime h
  | setGroup tag p => exact request_keepsTime serveSetGroup_keepsTime h
  | clearZoneFlags tag p => exact request_keepsTime serveClearZoneFlags_keepsTime h
  | queryZone tag p => exact request_keepsTime serveQueryZone_readsOnly.keepsTime h
  | airOn tag p => exact request_keepsTime serveAirOn_keepsTime h
  | airOff tag p => exact request_keepsTime serveAirOff_keepsTime h
  | queryAir tag p => exact request_keepsTime serveQueryAir_readsOnly.keepsTime h
  | queryReceipts tag p => exact request_keepsTime serveQueryReceipts_readsOnly.keepsTime h
  | takeUsage tag p => exact request_keepsTime serveTakeUsage_leavesAir.keepsTime h
  | setWatermark tag p => exact request_keepsTime serveSetWatermark_leavesAir.keepsTime h
  | queryJournal tag p => exact request_keepsTime serveQueryJournal_readsOnly.keepsTime h
  | trafficReset tag p => exact request_keepsTime serveTrafficReset_keepsTime h
  | queryLink tag p => exact request_keepsTime serveQueryLink_leavesAir.keepsTime h
  | fullReset tag p => exact request_keepsTime serveFullReset_keepsTime h
  | unknownKindRequest kind tag p => exact execUnknownKindRequest_keepsTime h
  | powerOn rate => exact event_keepsTime (s.resetBlocks_keepsTime _) h
  | inboundByte b =>
    have received : s.KeepsTime (s.receive b) := by rw [receive_eq]; exact .of_same rfl rfl rfl
    exact event_keepsTime received h
  | framingError => exact execFramingError_keepsTime h
  | breakLine => exact event_keepsTime (u := s.withLnk { s.lnk with receiver := .hunt, assembling := [] }) (.of_same rfl rfl rfl) h
  | recordTransmissionEnd => exact event_keepsTime (u := s.withLnk { s.lnk with sending := none }) (.of_same rfl rfl rfl) h
  | boundary order => exact execBoundary_keepsTime h
  | buildPoint => exact execBuildPoint_keepsTime h
  | markEdge => exact execMarkEdge_keepsTime h
  | alarmEdge z high =>
    have followed : s.Steady (s.followAlarm z.val { s.zone z.val with input := high }) :=
      State.followAlarm_steady fun keyed => keyed
    exact event_keepsTime followed.keepsTime h
  | wordOffer k => exact execWordOffer_keepsTime h
  | wordTaken z => exact execWordTaken_keepsTime h
  | dataFieldEnd k => exact execDataFieldEnd_keepsTime h
  | returnRecordArrival z l => exact execReturnRecordArrival_keepsTime h
  | receiptTaken z => exact execReceiptTaken_keepsTime h
  | checkInTaken z => exact execCheckInTaken_keepsTime h
  | tick => exact execTick_keepsTime h

/-- Settles O55: each command either leaves the clock and the keyed zones as they stand, or moves the clock to a moment with no
event left behind. -/
theorem stepKeepsClockAndAir : Obligations.StepKeepsClockAndAir := by
  unfold Obligations.StepKeepsClockAndAir
  intro s t h
  have kept : s.KeepsTime t := by
    unfold step at h
    split at h
    · cases h; exact .refl s
    · rename_i rest _
      have fetched : s.KeepsTime (s.withPending rest) := .of_same rfl rfl rfl
      exact fetched.trans (exec_keepsTime h)
  exact ⟨kept.range, kept.air, kept.time⟩

end Sys2Proof.Machine
end

section
/-! PROOFS. The zones at a build point: the settings taken into force, the service test, and the notices that each raises (R105,
R110, R115; log 25). -/

namespace Sys2Proof.Machine

/-! ### One zone at a build point -/

namespace Zone

/-- The settings in force once those pending are taken (R105). -/
def settingsDue (z : Zone) : ZoneSettings := if z.pendingFlag then z.pending else z.settings

/-- The alarm state once the pending settings are taken: a change of polarity computes it anew (R105, R106). -/
def alarmDue (z : Zone) : Alarm :=
  if z.pendingFlag = true ∧ z.settingsDue.polarity ≠ z.settings.polarity then alarmOf z.settingsDue.polarity z.input
  else z.alarm

/-- The flags of the alarm edge that the settings taken may bring (R106). -/
def alarmEvent (z : Zone) : BitVec 3 :=
  if z.alarmDue ≠ z.alarm ∧ z.settingsDue.edge.hits z.alarmDue = true then alarmChange else 0

/-- The zone with its pending settings in force (R105, R107). -/
def settingsTaken (z : Zone) : Zone :=
  { z with
    settings := z.settingsDue, pendingFlag := false, alarm := z.alarmDue,
    faulted := if z.pendingFlag = true ∧ z.settingsDue.enabled = true then false else z.faulted,
    keyed := if z.alarmDue ≠ z.alarm ∧ z.alarmDue = .active then false else z.keyed,
    port := if z.alarmDue ≠ z.alarm ∧ z.alarmDue = .active then none else z.port,
    flags := z.flags ||| z.alarmEvent }

/-- The flags of the service test (R110). -/
def serviceEvent (z : Zone) : BitVec 3 := if z.status ≠ z.recorded then serviceChange else 0

/-- The zone tested for service (R110). -/
def serviceTested (z : Zone) : Zone := { z with recorded := z.status, flags := z.flags ||| z.serviceEvent }

/-- The notice of an event of zone `n`, if it is due: from the flags before, those of the event, and the zone after it (R115). -/
def raised (n : Nat) (x : Serial) (old event : BitVec 3) (z : Zone) : List (Byte × List Byte) :=
  if addedFlags old event ≠ 0 ∧ z.settings.noticeEnable = true then
    [(0x83, zoneNoticeFields n (addedFlags old event) z x)]
  else []

theorem raised_zero (n : Nat) (x : Serial) (old : BitVec 3) (z : Zone) : raised n x old 0 z = [] :=
  if_neg fun new => new.1 BitVec.zero_and

variable {z : Zone}

theorem settingsTaken_of_none (pending : z.pendingFlag = false) : z.settingsTaken = z ∧ z.alarmEvent = 0 := by
  have alarm : z.alarmDue = z.alarm := if_neg (by simp [pending])
  have event : z.alarmEvent = 0 := if_neg (by simp [alarm])
  refine ⟨?_, event⟩
  calc z.settingsTaken = { z with pendingFlag := false } := by simp [settingsTaken, settingsDue, alarm, event, pending]
    _ = z := by rw [← pending]

/-- Settings taken that leave the alarm as it stood. -/
theorem settingsTaken_of_still (pending : z.pendingFlag = true) (alarm : z.alarmDue = z.alarm) :
    z.settingsTaken = { z with settings := z.pending, pendingFlag := false,
                               faulted := if z.pending.enabled then false else z.faulted } ∧ z.alarmEvent = 0 := by
  have event : z.alarmEvent = 0 := if_neg (by simp [alarm])
  exact ⟨by simp [settingsTaken, settingsDue, alarm, event, pending], event⟩

/-- Settings taken that bring an alarm edge. -/
theorem settingsTaken_of_edge {a : Alarm} (pending : z.pendingFlag = true) (alarm : z.alarmDue = a) (edge : a ≠ z.alarm) :
    ∃ event : BitVec 3, event = (if z.pending.edge.hits a = true then alarmChange else 0) ∧ z.alarmEvent = event ∧
    z.settingsTaken = { ({ z with settings := z.pending, pendingFlag := false,
                                  faulted := if z.pending.enabled then false else z.faulted } : Zone).takeAlarm a with
                        flags := z.flags ||| event } := by
  have due : z.settingsDue = z.pending := if_pos pending
  have event : z.alarmEvent = (if z.pending.edge.hits a = true then alarmChange else 0) := by
    simp only [alarmEvent, alarm, due, edge, ne_eq, not_false_eq_true, true_and]
  refine ⟨_, rfl, event, ?_⟩
  cases a with
  | active => simp [settingsTaken, takeAlarm, unkey, due, alarm, edge, event, pending]
  | inactive => simp [settingsTaken, takeAlarm, due, alarm, event, pending]

end Zone

namespace State

/-! ### One zone's event in the state -/

/-- Between two states zone `n` was rewritten and notices were raised; the clock, the groups and the other zones stand. -/
structure Turns (s t : State) (n : Nat) (z : Zone) (raised : List (Byte × List Byte)) : Prop where
  clk : t.clk = s.clk
  group : ∀ g, t.group g = s.group g
  zone : ∀ k, t.zone k = if k = n then z else s.zone k
  lnk : t.lnk = s.lnk.raise raised

variable (s : State) (n : Nat)

theorem turns_self : s.Turns s n (s.zone n) [] where
  clk := rfl
  group _ := rfl
  zone _ := by split <;> simp [*]
  lnk := rfl

theorem turns_setZone (z : Zone) : s.Turns (s.setZone n z) n z [] where
  clk := rfl
  group _ := rfl
  zone _ := zone_setZone ..
  lnk := rfl

theorem turns_flagZone (z : Zone) (e : BitVec 3) :
    s.Turns (s.flagZone n z e) n { z with flags := z.flags ||| e }
      (Zone.raised n s.clk.serial z.flags e { z with flags := z.flags ||| e }) := by
  unfold flagZone Zone.raised
  dsimp only
  split
  · exact { s.turns_setZone n _ with lnk := rfl }
  · exact s.turns_setZone n _

theorem turns_takeZoneSettings : s.Turns (s.takeZoneSettings n) n (s.zone n).settingsTaken
    (Zone.raised n s.clk.serial (s.zone n).flags (s.zone n).alarmEvent (s.zone n).settingsTaken) := by
  unfold takeZoneSettings followAlarm
  dsimp only
  split
  · rename_i pending
    have due : (s.zone n).settingsDue = (s.zone n).pending := if_pos pending
    split
    · rename_i same
      obtain ⟨taken, event⟩ := Zone.settingsTaken_of_still pending (if_neg (by simp [due, same]))
      rw [event, Zone.raised_zero, taken]
      exact s.turns_setZone n _
    · rename_i other
      have alarm : (s.zone n).alarmDue = alarmOf (s.zone n).pending.polarity (s.zone n).input := by
        rw [← due] at other ⊢
        exact if_pos ⟨pending, other⟩
      split
      · rename_i still
        obtain ⟨taken, event⟩ := Zone.settingsTaken_of_still pending (alarm.trans still)
        rw [event, Zone.raised_zero, taken]
        exact s.turns_setZone n _
      · rename_i edge
        obtain ⟨_, rfl, event, taken⟩ := Zone.settingsTaken_of_edge pending alarm edge
        rw [event, taken]
        have flags (z : Zone) (a : Alarm) : (z.takeAlarm a).flags = z.flags := by cases a <;> rfl
        have turned := s.turns_flagZone n (Zone.takeAlarm { s.zone n with
          settings := (s.zone n).pending, pendingFlag := false,
          faulted := if (s.zone n).pending.enabled then false else (s.zone n).faulted }
            (alarmOf (s.zone n).pending.polarity (s.zone n).input))
          (if (s.zone n).pending.edge.hits (alarmOf (s.zone n).pending.polarity (s.zone n).input) then alarmChange else 0)
        rw [flags] at turned
        exact turned
  · rename_i none
    obtain ⟨taken, event⟩ := Zone.settingsTaken_of_none (Bool.eq_false_iff.2 none)
    rw [event, Zone.raised_zero, taken]
    exact s.turns_self n

theorem turns_testService : s.Turns (s.testService n) n (s.zone n).serviceTested
    (Zone.raised n s.clk.serial (s.zone n).flags (s.zone n).serviceEvent (s.zone n).serviceTested) := by
  unfold testService
  dsimp only
  split
  · rename_i same
    have event : (s.zone n).serviceEvent = 0 := if_neg (not_not.2 same)
    have still : (s.zone n).serviceTested = s.zone n := by simp [Zone.serviceTested, same, event]
    rw [event, Zone.raised_zero, still]
    exact s.turns_self n
  · rename_i change
    have event : (s.zone n).serviceEvent = serviceChange := if_pos change
    rw [Zone.serviceTested, event]
    exact s.turns_flagZone n { s.zone n with recorded := (s.zone n).status } serviceChange

/-! ### Every zone's event in turn -/

/-- Events of zones one after another: each acts on its own zone, and the notices come in the order of the zones. -/
theorem turns_foldl {f : State → Nat → State} {F : Zone → Zone} {E : Zone → BitVec 3}
    (each : ∀ (s : State) (n : Nat), s.Turns (f s n) n (F (s.zone n))
      (Zone.raised n s.clk.serial (s.zone n).flags (E (s.zone n)) (F (s.zone n))))
    {l : List Nat} (nodup : l.Nodup) (s : State) :
    (l.foldl f s).clk = s.clk ∧ (∀ g, (l.foldl f s).group g = s.group g) ∧
    (∀ k, (l.foldl f s).zone k = if k ∈ l then F (s.zone k) else s.zone k) ∧
    (l.foldl f s).lnk = s.lnk.raise (l.flatMap fun n =>
      Zone.raised n s.clk.serial (s.zone n).flags (E (s.zone n)) (F (s.zone n))) := by
  refine ⟨foldl_fixed (fun s n => (each s n).clk) l s,
    fun g => foldl_fixed (read := fun s => s.group g) (fun s n => (each s n).group g) l s,
    read_foldl_rewrite (read := State.zone) (F := fun _ => F) (P := fun _ => True) (fun _ _ _ => trivial)
      (fun s n k _ => by rw [(each s n).zone]; split <;> simp [*]) nodup trivial, ?lnk⟩
  case lnk =>
    induction l generalizing s with
    | nil => rfl
    | cons n l ih =>
      obtain ⟨new, rest⟩ := List.nodup_cons.1 nodup
      have others (k : Nat) (listed : k ∈ l) : (f s n).zone k = s.zone k :=
        ((each s n).zone k).trans (if_neg fun same : k = n => new (same ▸ listed))
      have later : (l.flatMap fun k => Zone.raised k (f s n).clk.serial ((f s n).zone k).flags (E ((f s n).zone k))
          (F ((f s n).zone k))) =
          l.flatMap fun k => Zone.raised k s.clk.serial (s.zone k).flags (E (s.zone k)) (F (s.zone k)) :=
        List.flatMap_congr fun k listed => by rw [others k listed, (each s n).clk]
      rw [List.foldl_cons, ih rest, (each s n).lnk, later, List.flatMap_cons, Link.raise_append]

end State

end Sys2Proof.Machine
end

section
/-! PROOFS. The build point whole: what the zone controller leaves, the plans it makes, the notices of a build, and O37 (R94, R105,
R109 to R111, R115, R125). -/

namespace Sys2Proof.Machine

/-! ### Sets of zones and the largest settle (R110, R111) -/

/-- A fold that raises the bits of a list's zones that pass a test. -/
theorem getLsbD_foldl_zones (p : Nat → Bool) {z : Nat} (hz : z < 8) (l : List Nat) (acc : ZoneSet) :
    (l.foldl (fun acc k => if p k then acc ||| BitVec.twoPow 8 k else acc) acc).getLsbD z =
      (acc.getLsbD z || (decide (z ∈ l) && p z)) := by
  induction l generalizing acc with
  | nil => simp
  | cons k l ih =>
    rw [List.foldl_cons, ih]
    by_cases hk : z = k
    · subst k
      cases hp : p z <;> simp [hz]
    · have hk' : ¬k = z := fun e => hk e.symm
      cases hp : p k <;> simp [BitVec.getLsbD_twoPow, hk, hk']

theorem getLsbD_zonesWhere (p : Nat → Bool) {z : Nat} (hz : z < 8) : (zonesWhere p).getLsbD z = p z := by
  simp [zonesWhere, getLsbD_foldl_zones p hz, (mem_zoneNumbers z).2 hz]

theorem le_foldl_max {l : List Nat} {a x : Nat} (h : x ≤ a ∨ x ∈ l) : x ≤ l.foldl max a := by
  induction l generalizing a with
  | nil => simpa using h
  | cons b l ih =>
    refine ih ?_
    obtain first | listed := h
    · exact .inl (first.trans (Nat.le_max_left a b))
    · obtain rfl | rest := List.mem_cons.1 listed
      · exact .inl (Nat.le_max_right a x)
      · exact .inr rest

theorem foldl_max_mem (l : List Nat) (a : Nat) : l.foldl max a = a ∨ l.foldl max a ∈ l := by
  induction l generalizing a with
  | nil => exact .inl rfl
  | cons b l ih =>
    obtain start | listed := ih (max a b)
    · rw [List.foldl_cons, start]
      obtain first | second := Nat.le_total b a
      · exact .inl (Nat.max_eq_left first)
      · exact .inr (List.mem_cons.2 (.inl (Nat.max_eq_right second)))
    · exact .inr (List.mem_cons_of_mem b listed)

theorem mem_members8 {set : ZoneSet} {z : Nat} : z ∈ members 8 set ↔ z < 8 ∧ set.getLsbD z = true := by
  simp [members]

namespace State

/-! ### A plan (R111) -/

section Plan

variable {s t : State} {g z : Nat}

theorem getLsbD_memberSet (hz : z < 8) : (s.memberSet g).getLsbD z = true ↔
    (s.zone z).inService = true ∧ (s.zone z).settings.group = some g := by
  simp [memberSet, getLsbD_zonesWhere _ hz]

theorem settle_le_largestSettle {set : ZoneSet} (hz : z < 8) (member : set.getLsbD z = true) :
    (s.zone z).settings.settle ≤ s.largestSettle set :=
  le_foldl_max (.inr (List.mem_map_of_mem (mem_members8.2 ⟨hz, member⟩)))

/-- The largest settle is that of a member, or 0 where none is longer. -/
theorem largestSettle_attained (s : State) (set : ZoneSet) : s.largestSettle set = 0 ∨
    ∃ z < 8, set.getLsbD z = true ∧ s.largestSettle set = (s.zone z).settings.settle := by
  obtain none | listed := foldl_max_mem ((members 8 set).map (fun n => (s.zone n).settings.settle)) 0
  · exact .inl none
  · obtain ⟨z, member, settle⟩ := List.mem_map.1 listed
    obtain ⟨hz, bit⟩ := mem_members8.1 member
    exact .inr ⟨z, hz, bit, settle.symm⟩

theorem exists_member {set : ZoneSet} (some : set ≠ 0) : ∃ z < 8, set.getLsbD z = true := by
  by_contra none
  push Not at none
  refine some (BitVec.eq_of_getLsbD_eq fun z hz => ?_)
  exact (Bool.eq_false_iff.2 (none z hz)).trans BitVec.getLsbD_zero.symm

/-- A set with a member has its largest settle at one of them. -/
theorem largestSettle_of_member {set : ZoneSet} (some : set ≠ 0) :
    ∃ z < 8, set.getLsbD z = true ∧ s.largestSettle set = (s.zone z).settings.settle := by
  obtain none | attained := s.largestSettle_attained set
  · obtain ⟨z, hz, bit⟩ := exists_member some
    have least := settle_le_largestSettle (s := s) hz bit
    exact ⟨z, hz, bit, by omega⟩
  · exact attained

theorem largestSettle_zero (s : State) : s.largestSettle 0 = 0 := by
  simp [largestSettle, members]

/-- The word-times of a plan fill the frame where the settings lie in their ranges (R92, R102, R108). -/
theorem planFor_fills (settle : ∀ z < 8, (s.zone z).settings.settle ≤ 127) (group : (s.group g).settings.inRange)
    (x : Serial) :
    (s.planFor g x).settle + 4 + (s.planFor g x).capacity + (s.planFor g x).guard + 8 * (s.planFor g x).slotCount = 500 := by
  obtain ⟨-, -, guard, slots⟩ := group
  have largest : s.largestSettle (s.memberSet g) ≤ 127 := by
    obtain none | ⟨z, hz, -, attained⟩ := s.largestSettle_attained (s.memberSet g)
    · omega
    · exact attained ▸ settle z hz
  simp only [planFor]
  omega

/-- A plan is read off the zones and the group's settings alone (R111). -/
theorem planFor_congr (zone : ∀ z, t.zone z = s.zone z) (settings : (t.group g).settings = (s.group g).settings)
    (x : Serial) : t.planFor g x = s.planFor g x := by
  simp only [planFor, memberSet, largestSettle, zone, settings]

end Plan

/-! ### What the zone controller leaves (R105, R109 to R111) -/

end State

/-- The group with its pending settings in force (R109). -/
def Group.settingsTaken (r : Group) : Group :=
  { r with settings := if r.pendingFlag then r.pending else r.settings, pendingFlag := false }

/-- The zone as a build point leaves it (R105, R110). -/
def Zone.atBuild (z : Zone) : Zone := z.settingsTaken.serviceTested

/-- The notices of a build point: those of alarm edges, then those of the service test, each by zone number (R115; log 25). -/
def State.buildNotices (s : State) : List (Byte × List Byte) :=
  (zoneNumbers.flatMap fun n =>
    Zone.raised n s.clk.serial (s.zone n).flags (s.zone n).alarmEvent (s.zone n).settingsTaken) ++
  zoneNumbers.flatMap fun n =>
    Zone.raised n s.clk.serial (s.zone n).settingsTaken.flags (s.zone n).settingsTaken.serviceEvent (s.zone n).atBuild

namespace State

theorem takeGroupSettings_group (s : State) (n g : Nat) :
    (s.takeGroupSettings n).group g = if g = n then (s.group g).settingsTaken else s.group g := by
  unfold takeGroupSettings
  dsimp only
  split
  · rename_i pending
    rw [group_setGroup]
    split
    · subst g; simp [Group.settingsTaken, pending]
    · rfl
  · rename_i none
    split
    · subst g
      cases h : s.group n
      simp_all [Group.settingsTaken]
    · rfl

theorem takeGroupSettings_rest (s : State) (n : Nat) : (s.takeGroupSettings n).clk = s.clk ∧
    (s.takeGroupSettings n).lnk = s.lnk ∧ ∀ z, (s.takeGroupSettings n).zone z = s.zone z := by
  unfold takeGroupSettings
  dsimp only
  split <;> exact ⟨rfl, rfl, fun _ => rfl⟩

/-- Settings are in force and every zone is tested; no plan is made yet. -/
def readied (s : State) : State :=
  zoneNumbers.foldl testService (groupNumbers.foldl takeGroupSettings (zoneNumbers.foldl takeZoneSettings s))

theorem readied_eq (s : State) : s.readied.clk = s.clk ∧
    (∀ g < 4, s.readied.group g = (s.group g).settingsTaken) ∧ (∀ z < 8, s.readied.zone z = (s.zone z).atBuild) ∧
    s.readied.lnk = s.lnk.raise s.buildNotices := by
  obtain ⟨clk, group, zone, lnk⟩ := turns_foldl turns_takeZoneSettings nodup_zoneNumbers s
  unfold readied
  generalize zoneNumbers.foldl takeZoneSettings s = a at *
  have clk' : (groupNumbers.foldl takeGroupSettings a).clk = a.clk :=
    foldl_fixed (fun s n => (s.takeGroupSettings_rest n).1) ..
  have lnk' : (groupNumbers.foldl takeGroupSettings a).lnk = a.lnk :=
    foldl_fixed (fun s n => (s.takeGroupSettings_rest n).2.1) ..
  have zone' (z : Nat) : (groupNumbers.foldl takeGroupSettings a).zone z = a.zone z :=
    foldl_fixed (read := fun s => s.zone z) (fun s n => (s.takeGroupSettings_rest n).2.2 z) ..
  have group' (g : Nat) : (groupNumbers.foldl takeGroupSettings a).group g =
      if g ∈ groupNumbers then (a.group g).settingsTaken else a.group g :=
    read_foldl_rewrite (read := State.group) (F := fun _ => Group.settingsTaken) (P := fun _ => True) (fun _ _ _ => trivial)
      (fun s n k _ => s.takeGroupSettings_group n k) nodup_groupNumbers trivial g
  obtain ⟨clk'', group'', zone'', lnk''⟩ := turns_foldl turns_testService nodup_zoneNumbers
    (groupNumbers.foldl takeGroupSettings a)
  have taken (z : Nat) (hz : z ∈ zoneNumbers) : (groupNumbers.foldl takeGroupSettings a).zone z = (s.zone z).settingsTaken := by
    rw [zone', zone, if_pos hz]
  refine ⟨clk''.trans (clk'.trans clk), fun g hg => ?group, fun z hz => ?zone, ?lnk⟩
  case group => rw [group'', group', if_pos ((mem_groupNumbers g).2 hg), group]
  case zone =>
    have listed := (mem_zoneNumbers z).2 hz
    rw [zone'', if_pos listed, taken z listed, Zone.atBuild]
  case lnk =>
    rw [lnk'', lnk', lnk, buildNotices, Link.raise_append, clk', clk]
    exact congrArg _ (List.flatMap_congr fun z listed => by rw [taken z listed, Zone.atBuild])

/-- The zone controller at a build point: every zone and group as its own rewriting leaves it, the plans made of them, and the
notices in their order. -/
theorem zoneBuildPoint_eq (s : State) : (∀ z < 8, s.zoneBuildPoint.zone z = (s.zone z).atBuild) ∧
    (∀ g < 4, s.zoneBuildPoint.group g =
      { (s.group g).settingsTaken with next := some (s.zoneBuildPoint.planFor g (s.clk.serial + 1)) }) ∧
    s.zoneBuildPoint.lnk = s.lnk.raise s.buildNotices := by
  obtain ⟨clk, group, zone, lnk⟩ := s.readied_eq
  have made : s.zoneBuildPoint = groupNumbers.foldl makePlan s.readied := rfl
  have zone' (z : Nat) : s.zoneBuildPoint.zone z = s.readied.zone z :=
    foldl_fixed (f := makePlan) (read := fun s => s.zone z) (fun _ _ => rfl) ..
  have lnk' : s.zoneBuildPoint.lnk = s.readied.lnk := foldl_fixed (f := makePlan) (read := State.lnk) (fun _ _ => rfl) ..
  have group' (g : Nat) : s.zoneBuildPoint.group g = if g ∈ groupNumbers then
      { s.readied.group g with next := some (s.readied.planFor g (s.clk.serial + 1)) } else s.readied.group g :=
    read_foldl_rewrite (read := State.group) (f := makePlan)
      (F := fun g r => { r with next := some (s.readied.planFor g (s.clk.serial + 1)) })
      (P := fun t => t.clk = s.clk ∧ (∀ z, t.zone z = s.readied.zone z) ∧
        ∀ g, (t.group g).settings = (s.readied.group g).settings)
      (fun t n ⟨clk, zone, settings⟩ => ⟨clk, zone, fun g => by
        rw [makePlan, group_setGroup, ← settings]
        split <;> simp [*]⟩)
      (fun t n k ⟨clk, zone, settings⟩ => by
        rw [makePlan, group_setGroup]
        split
        · subst k; rw [clk, planFor_congr zone (settings n)]
        · rfl)
      nodup_groupNumbers ⟨clk, fun _ => rfl, fun _ => rfl⟩ g
  refine ⟨fun z hz => (zone' z).trans (zone z hz), fun g hg => ?group, lnk'.trans lnk⟩
  case group =>
    have here := (group' g).trans (if_pos ((mem_groupNumbers g).2 hg))
    have plan : s.zoneBuildPoint.planFor g (s.clk.serial + 1) = s.readied.planFor g (s.clk.serial + 1) :=
      planFor_congr zone' (by rw [here]) _
    rw [here, plan, group g hg]

end State

/-! ### The zone and its notices, as the statement gives them (R105, R106, R110, R115) -/

namespace Zone

variable (z : Zone)

theorem alarmOf_eq (p : Polarity) (input : Bool) :
    alarmOf p input = if input = decide (p = .normal) then .active else .inactive := by
  cases p <;> cases input <;> rfl

theorem addedFlags_alarmChange : ∀ f : BitVec 3, addedFlags f alarmChange = if f.getLsbD 0 then 0 else 1 := by decide

theorem addedFlags_serviceChange : ∀ f : BitVec 3, addedFlags f serviceChange = if f.getLsbD 1 then 0 else 2 := by decide

/-- The service test changes nothing that the service depends on (R103, R110). -/
theorem atBuild_recorded : z.atBuild.recorded = if z.atBuild.inService then .inService else .outOfService := rfl

/-- The alarm flag lies apart from the service flag. -/
theorem settingsTaken_serviceFlag : z.settingsTaken.flags.getLsbD 1 = z.flags.getLsbD 1 := by
  have apart : ∀ f : BitVec 3, (f ||| alarmChange).getLsbD 1 = f.getLsbD 1 := by decide
  show (z.flags ||| z.alarmEvent).getLsbD 1 = _
  unfold alarmEvent
  split
  · exact apart z.flags
  · simp

/-- The notice of a flag, raised where the event comes, the flag is new, and notices are enabled. -/
theorem raised_if {hit new : Bool} {n : Nat} {x : Serial} {old event added : BitVec 3} {r : Zone}
    (adds : addedFlags old event = if new then added else 0) (nonzero : added ≠ 0) :
    raised n x old (if hit then event else 0) r =
      if hit && new && r.settings.noticeEnable then [(0x83, zoneNoticeFields n added r x)] else [] := by
  cases hit with
  | false => exact raised_zero ..
  | true =>
    cases new with
    | false => simp [raised, adds]
    | true => simp [raised, adds, show ¬added = 0#3 from nonzero]

end Zone

namespace State

variable {s t : State} {z : Nat}

theorem alarmHit_iff (zone : t.zone z = (s.zone z).atBuild) : s.alarmHit t z =
    decide ((s.zone z).alarmDue ≠ (s.zone z).alarm ∧ (s.zone z).settingsDue.edge.hits (s.zone z).alarmDue = true) := by
  have alarm : (t.zone z).alarm = (s.zone z).alarmDue := congrArg Zone.alarm zone
  have settings : (t.zone z).settings = (s.zone z).settingsDue := congrArg Zone.settings zone
  rw [alarmHit, alarm, settings, Bool.decide_and, Bool.decide_eq_true]
  cases (s.zone z).settingsDue.edge <;> rfl

theorem alarmEvent_eq (zone : t.zone z = (s.zone z).atBuild) :
    (s.zone z).alarmEvent = if s.alarmHit t z then alarmChange else 0 := by
  rw [alarmHit_iff zone]
  simp [Zone.alarmEvent]

theorem serviceEvent_eq (zone : t.zone z = (s.zone z).atBuild) :
    (s.zone z).settingsTaken.serviceEvent = if decide ((t.zone z).recorded ≠ (s.zone z).recorded) then serviceChange else 0 := by
  rw [zone]
  simp only [decide_eq_true_eq]
  rfl

/-- The notices of a build point, read off the zones before and after it (R115; log 25). -/
theorem buildNotices_eq (zone : ∀ z < 8, t.zone z = (s.zone z).atBuild) : s.buildNotices =
    ((List.range 8).filter (fun z => s.alarmHit t z && !(s.zone z).flags.getLsbD 0 &&
        (t.zone z).settings.noticeEnable)).map
      (fun z => zoneNotice z 1 ((s.zone z).flags ||| 1) (t.zone z) s.clk.serial) ++
    ((List.range 8).filter (fun z => (t.zone z).recorded ≠ (s.zone z).recorded && !(s.zone z).flags.getLsbD 1 &&
        (t.zone z).settings.noticeEnable)).map
      (fun z => zoneNotice z 2 (t.zone z).flags (t.zone z) s.clk.serial) := by
  have one_each {p : Nat → Bool} {m : Nat → Byte × List Byte} (l : List Nat) :
      (l.filter p).map m = l.flatMap fun n => if p n then [m n] else [] := by
    induction l with
    | nil => rfl
    | cons n l ih => cases h : p n <;> simp [h, ih]
  rw [one_each, one_each, buildNotices]
  congr 1
  · refine List.flatMap_congr fun n listed => ?_
    have turned := zone n ((mem_zoneNumbers n).1 listed)
    rw [alarmEvent_eq turned, Zone.raised_if (new := !(s.zone n).flags.getLsbD 0) (added := 1)
      (by rw [Zone.addedFlags_alarmChange]; cases (s.zone n).flags.getLsbD 0 <;> rfl) (by decide), turned]
    cases hit : s.alarmHit t n with
    | false => rfl
    | true =>
      have flags : (s.zone n).settingsTaken.flags = (s.zone n).flags ||| 1 := by
        show _ ||| (s.zone n).alarmEvent = _
        rw [alarmEvent_eq turned, hit]
        rfl
      rw [zoneNoticeFields, flags]
      rfl
  · refine List.flatMap_congr fun n listed => ?_
    have turned := zone n ((mem_zoneNumbers n).1 listed)
    rw [serviceEvent_eq turned, Zone.raised_if (new := !(s.zone n).flags.getLsbD 1) (added := 2)
      (by rw [Zone.addedFlags_serviceChange, Zone.settingsTaken_serviceFlag]; cases (s.zone n).flags.getLsbD 1 <;> rfl)
      (by decide), turned]
    rfl

/-! ### The notices of a build (R75, R171) -/

/-- Between two states notices of deliveries and of the journal were raised, and nothing else changed in the link (R167, R171). -/
def Raises (s t : State) : Prop :=
  ∃ more : List (Byte × List Byte), t.lnk = s.lnk.raise more ∧ ∀ m ∈ more, m.1 = 0x81 ∨ m.1 = 0x84

namespace Raises

variable {u : State}

theorem of_lnk (lnk : t.lnk = s.lnk) : s.Raises t := ⟨[], lnk, by simp⟩

theorem trans (h : s.Raises t) (g : t.Raises u) : s.Raises u := by
  obtain ⟨first, lnk, kinds⟩ := h
  obtain ⟨second, lnk', kinds'⟩ := g
  exact ⟨first ++ second, by rw [lnk', lnk, Link.raise_append],
    fun m listed => (List.mem_append.1 listed).elim (kinds m) (kinds' m)⟩

theorem foldl {α : Type} {f : State → α → State} (h : ∀ (s : State) (a : α), s.Raises (f s a)) (l : List α) (s : State) :
    s.Raises (l.foldl f s) := by
  induction l generalizing s with
  | nil => exact of_lnk rfl
  | cons a l ih => exact (h s a).trans (ih _)

end Raises

variable (s)

theorem endDelivery_raises (n : Nat) (d : Delivery) (e : Ending) (r : Reason) : s.Raises (s.endDelivery n d e r) := by
  unfold Raises
  rw [endDelivery_lnk]
  dsimp only
  split <;> split
  · exact ⟨[(0x84, _), (0x81, _)], rfl, by simp⟩
  · exact ⟨[(0x81, _)], rfl, by simp⟩
  · exact ⟨[(0x84, _)], rfl, by simp⟩
  · exact ⟨[], rfl, by simp⟩

theorem refile_raises (n : Nat) (d : Delivery) (due : Serial) : s.Raises (s.refile n d due) := by
  unfold refile
  split
  · exact s.endDelivery_raises ..
  · exact .of_lnk (by simp)

theorem place_lnk (n : Nat) (d : Delivery) (x : Serial) (cand : GroupSet) : (s.place n d x cand).lnk = s.lnk := by
  have pages (l : List (Nat × Nat)) : ((members 4 cand).foldl (addPage n d l) s).lnk = s.lnk :=
    foldl_fixed (fun s g => by obtain ⟨_, h⟩ := s.addPage_only n d l g; rw [h]; rfl) ..
  unfold place
  dsimp only
  rw [setLive_lnk, unfile_lnk, writeSlots_lnk, pages]

theorem visit_raises (x : Serial) (n : Nat) : s.Raises (visit x s n) := by
  unfold visit
  split
  · exact .of_lnk rfl
  split
  · exact .of_lnk rfl
  split
  · exact s.endDelivery_raises ..
  split
  · unfold tryPlace
    dsimp only
    split
    · exact .of_lnk (s.place_lnk ..)
    · exact s.refile_raises ..
  · exact s.refile_raises ..

theorem build_raises (x : Serial) : s.Raises (s.build x) := by
  obtain ⟨_, _, opened⟩ := s.opened_only
  have walk : s.opened.Raises (s.walked x) := Raises.foldl (fun s n => s.visit_raises x n) _ _
  obtain ⟨_, completed⟩ := (s.walked x).completed_only
  have first : s.Raises s.opened := .of_lnk (by rw [opened]; rfl)
  exact (first.trans walk).trans (.of_lnk (by rw [build_eq_completed, completed]; rfl))

/-! ### The event (R94, R125) -/

/-- What a build point leaves: the clock past it, the zones and groups as the zone controller leaves them, the notices of the
zones and then those of a build; with the air not ON nothing is built. -/
structure AtBuildPoint (s t : State) : Prop where
  clk : t.clk = { s.clk with position := 40000, buildPassed := true }
  zone : ∀ z < 8, t.zone z = (s.zone z).atBuild
  group : ∀ g < 4, t.group g = { (s.group g).settingsTaken with next := some (t.planFor g (s.clk.serial + 1)) }
  lnk : ∃ more : List (Byte × List Byte), t.lnk = s.lnk.raise (s.buildNotices ++ more) ∧
    (∀ m ∈ more, m.1 = 0x81 ∨ m.1 = 0x84) ∧ (s.bld.air ≠ .on → more = [])
  idle : s.bld.air ≠ .on →
    t.dir = s.dir ∧ t.act = s.act ∧ t.txt = s.txt ∧ t.dlv = s.dlv ∧ t.bld = s.bld ∧ t.rcp = s.rcp ∧ t.jnl = s.jnl

theorem planned_atBuildPoint : s.AtBuildPoint s.planned := by
  obtain ⟨zone, group, lnk⟩ := s.pastBuild.zoneBuildPoint_eq
  obtain ⟨_, _, only⟩ := s.planned_only
  exact {
    clk := by rw [only]; rfl
    zone := zone
    group := group
    lnk := ⟨[], by rw [List.append_nil]; exact lnk, by simp, fun _ => rfl⟩
    idle := fun _ => by rw [only]; exact ⟨rfl, rfl, rfl, rfl, rfl, rfl, rfl⟩ }

theorem built_atBuildPoint (on : s.bld.air = .on) : s.AtBuildPoint (s.planned.build (s.clk.serial + 1)) := by
  obtain ⟨zone, group, lnk⟩ := s.pastBuild.zoneBuildPoint_eq
  obtain ⟨_, _, only⟩ := s.planned_only
  obtain ⟨clk, zon, -⟩ := s.planned.build_frame (s.clk.serial + 1)
  obtain ⟨more, raised, kinds⟩ := s.planned.build_raises (s.clk.serial + 1)
  have zone' (z : Nat) : (s.planned.build (s.clk.serial + 1)).zone z = s.planned.zone z := zone_of_zon zon z
  have group' (g : Nat) : (s.planned.build (s.clk.serial + 1)).group g = s.planned.group g := group_of_zon zon g
  exact {
    clk := by rw [clk, only]; rfl
    zone := fun z hz => (zone' z).trans (zone z hz)
    group := fun g hg => by
      rw [planFor_congr zone' (congrArg Group.settings (group' g)), group']
      exact group g hg
    lnk := ⟨more, by rw [raised, Link.raise_append]; exact congrArg (Link.raise · more) lnk, kinds, absurd on⟩
    idle := absurd on }

theorem buildPointEvent_of_off {s : State} (off : s.zoneBuildPoint.bld.air ≠ .on) : s.buildPointEvent = s.zoneBuildPoint := by
  unfold buildPointEvent
  dsimp only
  rw [if_neg off]

/-- A build point that is due runs, with the air in any state. -/
theorem exec_buildPoint_due {s : State} (due : s.reaches 40000) (fresh : s.clk.buildPassed = false) :
    ∃ t, exec .buildPoint s = .next t.lineChoice ∧ s.AtBuildPoint t := by
  by_cases on : s.bld.air = .on
  · exact ⟨_, exec_buildPoint due fresh on, s.built_atBuildPoint on⟩
  · have moment : s.atMoment Config.buildPosition = _ := atMoment_of_reaches due
    obtain ⟨_, _, only⟩ := s.planned_only
    have off : s.planned.bld.air ≠ .on := by rw [only]; exact on
    have planned : s.pastBuild.buildPointEvent = s.planned := buildPointEvent_of_off (s := s.pastBuild) off
    refine ⟨s.planned, ?_, s.planned_atBuildPoint⟩
    show execBuildPoint s = _
    rw [execBuildPoint, moment, ← planned]
    dsimp only
    rw [if_neg (by simp [fresh])]
    rfl

theorem exec_buildPoint_idle {s : State} (idle : ¬s.reaches 40000 ∨ s.clk.buildPassed = true) :
    exec .buildPoint s = .next s.lineChoice := by
  show execBuildPoint s = _
  unfold execBuildPoint
  split
  · rename_i u moment
    have reached : s.reaches 40000 := by
      by_contra never
      have none : s.atMoment Config.buildPosition = none :=
        atMoment_of_not_reaches (by rw [Config.buildPosition]; omega) never
      rw [none] at moment
      cases moment
    exact if_pos (idle.resolve_left (not_not.2 reached))
  · rfl

/-- Settings that a build point takes into force lie in the ranges of those in force and pending. -/
theorem settings_inRange {s t : State} (inRange : s.plansInRange) (built : s.AtBuildPoint t) :
    (∀ z < 8, (t.zone z).settings.settle ≤ 127) ∧ ∀ g < 4, (t.group g).settings.inRange := by
  obtain ⟨zones, groups, -⟩ := inRange
  refine ⟨fun z hz => ?zone, fun g hg => ?group⟩
  case zone =>
    have settings : (t.zone z).settings = (s.zone z).settingsDue := congrArg Zone.settings (built.zone z hz)
    rw [settings, Zone.settingsDue]
    split
    · exact (zones z).2.1
    · exact (zones z).1.1
  case group =>
    have settings : (t.group g).settings = if (s.group g).pendingFlag then (s.group g).pending else (s.group g).settings :=
      congrArg Group.settings (built.group g hg)
    rw [settings]
    split
    · exact (groups g).2
    · exact (groups g).1

/-- The zone as the statement gives it: settings, alarm and service record by their own formulas. -/
theorem zone_atBuild {s t : State} {z : Nat} (zone : t.zone z = (s.zone z).atBuild) {v : ZoneSettings} {a : Alarm}
    {recorded : ServiceStatus} (settings : v = (s.zone z).settingsDue) (alarm : a = (s.zone z).alarmDue)
    (record : recorded = (t.zone z).recorded) :
    t.zone z = { s.zone z with
      settings := v, pendingFlag := false, alarm := a, recorded := recorded,
      faulted := if (s.zone z).pendingFlag = true ∧ v.enabled = true then false else (s.zone z).faulted,
      keyed := if a ≠ (s.zone z).alarm ∧ a = .active then false else (s.zone z).keyed,
      port := if a ≠ (s.zone z).alarm ∧ a = .active then none else (s.zone z).port,
      flags := (s.zone z).flags ||| (if s.alarmHit t z then 1 else 0) |||
        (if recorded ≠ (s.zone z).recorded then 2 else 0) } := by
  have same : (t.zone z).recorded = (s.zone z).atBuild.recorded := congrArg Zone.recorded zone
  have flags : (s.zone z).atBuild.flags = (s.zone z).flags ||| (if s.alarmHit t z then 1 else 0) |||
      (if (t.zone z).recorded ≠ (s.zone z).recorded then 2 else 0) := by
    have alarmFlag := alarmEvent_eq zone
    have serviceFlag := serviceEvent_eq zone
    simp only [decide_eq_true_eq] at serviceFlag
    exact congrArg₂ (fun a b => (s.zone z).flags ||| a ||| b) alarmFlag serviceFlag
  subst settings alarm record
  calc t.zone z = { (s.zone z).atBuild with flags := (s.zone z).atBuild.flags } := zone
    _ = _ := by rw [flags, same]; rfl

end State

/-- Settles O37: the zone controller turns every zone on its own, the plans are read off the zones it leaves, and a build adds
notices of deliveries and of the journal alone. -/
theorem buildPointMakesPlans : Obligations.BuildPointMakesPlans := by
  unfold Obligations.BuildPointMakesPlans
  refine ⟨fun s => State.exec_buildPoint_idle, fun s due fresh inRange => ?_⟩
  obtain ⟨u, ran, built⟩ := State.exec_buildPoint_due due fresh
  obtain ⟨settle, range⟩ := State.settings_inRange inRange built
  refine ⟨u.lineChoice, ran, built.clk, fun g hg => ?group, fun z hz v a recorded hv ha hr => ?zone, ?lnk, built.idle⟩
  case group =>
    have here := built.group g hg
    refine ⟨congrArg Group.settings here, congrArg Group.pendingFlag here, (congrArg Group.current here :),
      u.planFor g (s.clk.serial + 1), congrArg Group.next here, rfl, rfl, rfl, rfl, rfl, rfl,
      fun z hz => State.getLsbD_memberSet hz, fun z hz member => ?longest, fun some => ?attained, fun none => ?empty,
      State.planFor_fills settle (range g hg) _⟩
    case longest =>
      have least : (u.zone z).settings.settle ≤ u.largestSettle (u.memberSet g) := State.settle_le_largestSettle hz member
      show (u.zone z).settings.settle ≤ 5 * ((u.largestSettle (u.memberSet g) + 4) / 5)
      omega
    case attained =>
      obtain ⟨z, hz, member, largest⟩ := State.largestSettle_of_member (s := u) some
      exact ⟨z, hz, member, congrArg (fun n => (n + 4) / 5) largest⟩
    case empty =>
      have members : u.memberSet g = 0 := none
      show (u.largestSettle (u.memberSet g) + 4) / 5 = 0
      rw [members, State.largestSettle_zero]
  case zone =>
    have turned := built.zone z hz
    refine State.zone_atBuild turned hv (ha.trans ?_) (hr.trans ?_)
    · rw [← Zone.alarmOf_eq, hv]; rfl
    · show (if (u.zone z).inService = true then _ else _) = (u.zone z).recorded
      rw [turned, Zone.atBuild_recorded]
  case lnk =>
    obtain ⟨more, raised, kinds, off⟩ := built.lnk
    refine ⟨more, ?_, kinds, off⟩
    rw [State.lineChoice_lnk, raised, State.buildNotices_eq built.zone]
    rfl

end Sys2Proof.Machine
end

section
/-! PROOFS. What steps leave of the settings, the plans and the images: the words of a delivery, which no event after intake
changes (R36, R53), and the plans, which change at build points and boundaries alone (R105, R109 to R112). -/

namespace Sys2Proof.Machine

namespace State

variable {s t u : State} {n : Nat} {d e : Delivery}

/-! ### The words of a delivery (R36, R53) -/

/-- Between two states no delivery came up, and each that stays has as many words as before. -/
structure SameWords (s t : State) : Prop where
  words : ∀ n d, t.live n = some d → ∃ e, s.live n = some e ∧ e.words = d.words

namespace SameWords

theorem of_live (live : ∀ n, t.live n = s.live n) : s.SameWords t :=
  ⟨fun n d found => ⟨d, live n ▸ found, rfl⟩⟩

theorem of_dlv (dlv : t.dlv = s.dlv) : s.SameWords t := of_live fun n => by rw [live, record, dlv]; rfl

theorem refl (s : State) : s.SameWords s := of_live fun _ => rfl

theorem trans (h : s.SameWords t) (g : t.SameWords u) : s.SameWords u := by
  refine ⟨fun n d found => ?_⟩
  obtain ⟨e, found, words⟩ := g.words n d found
  obtain ⟨e', found, words'⟩ := h.words n e found
  exact ⟨e', found, words'.trans words⟩

theorem foldl {α : Type} {f : State → α → State} (h : ∀ (s : State) (a : α), s.SameWords (f s a)) (l : List α)
    (s : State) :
    s.SameWords (l.foldl f s) := by
  induction l generalizing s with
  | nil => exact refl s
  | cons a l ih => exact (h s a).trans (ih _)

/-- Only delivery `n` is touched: it is gone, or keeps its words. -/
theorem of_one (live : s.live n = some d) (others : ∀ m, m ≠ n → t.live m = s.live m)
    (words : ∀ e, t.live n = some e → e.words = d.words) : s.SameWords t := by
  refine ⟨fun m e found => ?_⟩
  by_cases same : m = n
  · subst m; exact ⟨d, live, (words e found).symm⟩
  · exact ⟨e, others m same ▸ found, rfl⟩

theorem setLive (live : s.live n = some d) (words : e.words = d.words := by rfl) : s.SameWords (s.setLive n e) :=
  of_one live (fun m other => by rw [live_setLive, if_neg other])
    fun e' found => by rw [live_setLive, if_pos rfl] at found; cases found; exact words

theorem endDelivery (s : State) (n : Nat) (d : Delivery) (x : Ending) (r : Reason) : s.SameWords (s.endDelivery n d x r) := by
  refine ⟨fun m e found => ?_⟩
  rw [endDelivery_live] at found
  split at found
  · cases found
  · exact ⟨e, found, rfl⟩

theorem refile (live : s.live n = some d) (due : Serial) (words : e.words = d.words := by rfl) :
    s.SameWords (s.refile n e due) :=
  of_one live (fun m other => by rw [refile_live, if_neg other]) fun e' found => by
    rw [refile_live, if_pos rfl] at found
    split at found
    · cases found
    · cases found; exact words

theorem revert (live : s.live n = some d) : s.SameWords (s.revert n d) := by
  have words : d.reverted.words = d.words := by unfold Delivery.reverted; cases d.kind <;> rfl
  have written := s.writeAttempt_live .empty d.last
  rw [revert_eq]
  exact (of_live written).trans (refile ((written n).trans live) _ words)

theorem launchOne (kept : GroupSet) (s : State) (n : Nat) : s.SameWords (launchOne kept s n) := by
  unfold Machine.launchOne
  split
  · exact refl s
  · rename_i d live
    split
    · split
      · exact revert live
      · exact setLive live
    · exact refl s

theorem endFrameOne (s : State) (n : Nat) : s.SameWords (endFrameOne s n) := by
  unfold Machine.endFrameOne
  split
  · exact refl s
  · rename_i d live
    split
    · split
      · exact setLive live
      · dsimp only
        split
        · exact endDelivery ..
        · exact refile live _
    · exact refl s

theorem resolveOne (s : State) (n : Nat) : s.SameWords (resolveOne s n) := by
  unfold Machine.resolveOne
  split
  · exact refl s
  · rename_i d live
    have counted : s.SameWords s.countMiss := of_dlv rfl
    have expired (u : State) : u.SameWords u.countExpired := of_dlv rfl
    have noted (u : State) (k : Byte) (f : List Byte) : u.SameWords (u.notice k f) := of_dlv rfl
    have live' : s.countMiss.live n = some d := live
    split
    · dsimp only
      split
      · exact (counted.trans (endDelivery ..)).trans (expired _)
      · split
        · exact (counted.trans (refile live' _)).trans (expired _)
        · split
          · exact (counted.trans (refile live' _)).trans (noted ..)
          · exact counted.trans (refile live' _)
    · exact refl s

theorem endingStep (w : BoundaryWork) (s : State) (g : EndingGroup) : s.SameWords (endingStep w s g) := by
  cases g with
  | ended => exact foldl endFrameOne _ _
  | missed => exact foldl resolveOne _ _
  | dropped => exact foldl (launchOne w.kept) _ _

theorem cancelOne (s : State) (n : Nat) : s.SameWords (cancelOne s n) := by
  unfold Machine.cancelOne
  split
  · exact endDelivery ..
  · exact refl s

theorem place (live : s.live n = some d) (x : Serial) (cand : GroupSet) : s.SameWords (s.place n d x cand) :=
  of_one live (fun m other => by rw [State.live, s.place_record n d x cand other]; rfl)
    fun e found => by rw [place_live] at found; cases found; rfl

theorem visit (x : Serial) (s : State) (n : Nat) : s.SameWords (visit x s n) := by
  unfold Machine.visit
  split
  · exact refl s
  rename_i d live
  split
  · exact refl s
  split
  · exact endDelivery ..
  split
  · unfold tryPlace
    dsimp only
    split
    · exact place live ..
    · exact refile live _
  · exact refile live _

theorem checkInOne (k : Nat) (s : State) (n : Nat) : s.SameWords (checkInOne k s n) := by
  unfold Machine.checkInOne
  split
  · exact refl s
  rename_i d live
  split
  · split
    · exact refile live _
    · exact setLive live
    · exact setLive live
    · exact refl s
    · exact refl s
  · exact refl s

theorem takeReceipt (s : State) (zone frame slot reply : Nat) (check : Byte) :
    s.SameWords (s.takeReceipt zone frame slot reply check) := by
  unfold State.takeReceipt
  split
  · exact of_dlv rfl
  · exact of_dlv rfl
  · exact of_dlv rfl
  · rw [deliver_eq]
    refine SameWords.trans (of_dlv ?_) (endDelivery ..)
    exact s.writeAttempt_dlv ..

end SameWords

/-- Every live delivery has the words of its address and descriptor at least (R36). -/
def wordsHeld (s : State) : Prop := ∀ n d, s.live n = some d → 2 ≤ d.words

theorem SameWords.wordsHeld (h : s.SameWords t) (held : s.wordsHeld) : t.wordsHeld := by
  intro n d found
  obtain ⟨e, found, words⟩ := h.words n d found
  exact words ▸ held n e found

/-- Intake gives a delivery two words and those of its body (R36, R53). -/
theorem accept_wordsHeld (held : s.wordsHeld) (n : Nat) (x : Submission) (o : Option Nat) :
    (s.accept n x o).state.wordsHeld := by
  intro m d found
  have record : (s.takeBody x o).1.record m = s.record m := by rw [State.record, takeBody_dlv]; rfl
  rw [State.live, State.accept, enroll_record, record] at found
  split at found
  · cases found; exact Nat.le_add_right 2 _
  · exact held m d found

end State

end Sys2Proof.Machine
end

section
/-! PROOFS. What steps leave of the settings, the plans and the images: each event of the zone controller, of a build and of a
boundary by itself (R104, R105, R109 to R112, R125, R127, R129, R133, R134). -/

namespace Sys2Proof.Machine

/-! ### Settings taken into force, and plans that stand (R105, R109) -/

/-- The settings of a zone after an event: those in force before it or those then pending, and the same pending (R105). -/
structure Zone.Follows (z r : Zone) : Prop where
  settings : r.settings = z.settings ∨ r.settings = z.pending
  pending : r.pending = z.pending

theorem Zone.Follows.trans {z r q : Zone} (h : z.Follows r) (g : r.Follows q) : z.Follows q where
  settings := by
    obtain force | pending := g.settings
    · rw [force]; exact h.settings
    · exact .inr (pending.trans h.pending)
  pending := g.pending.trans h.pending

/-- The settings of a group after an event, in the same way, with its plans as they stood (R109). -/
structure Group.Follows (r q : Group) : Prop where
  settings : q.settings = r.settings ∨ q.settings = r.pending
  pending : q.pending = r.pending
  next : q.next = r.next
  current : q.current = r.current

theorem Group.Follows.trans {r q p : Group} (h : r.Follows q) (g : q.Follows p) : r.Follows p where
  settings := by
    obtain force | pending := g.settings
    · rw [force]; exact h.settings
    · exact .inr (pending.trans h.pending)
  pending := g.pending.trans h.pending
  next := g.next.trans h.next
  current := g.current.trans h.current

theorem Zone.Follows.refl (z : Zone) : z.Follows z := ⟨.inl rfl, rfl⟩

theorem Group.Follows.refl (r : Group) : r.Follows r := ⟨.inl rfl, rfl, rfl, rfl⟩

namespace State

variable {s t u : State}

/-- Between two states settings were taken into force at most, and every plan stands. -/
structure Settles (s t : State) : Prop where
  zone : ∀ z, (s.zone z).Follows (t.zone z)
  group : ∀ g, (s.group g).Follows (t.group g)

namespace Settles

theorem of_zon (zon : t.zon = s.zon) : s.Settles t where
  zone z := by rw [zone_of_zon zon]; exact .refl _
  group g := by rw [group_of_zon zon]; exact .refl _

theorem refl (s : State) : s.Settles s := of_zon rfl

theorem trans (h : s.Settles t) (g : t.Settles u) : s.Settles u where
  zone z := (h.zone z).trans (g.zone z)
  group k := (h.group k).trans (g.group k)

theorem foldl {α : Type} {f : State → α → State} (h : ∀ (s : State) (a : α), s.Settles (f s a)) (l : List α) (s : State) :
    s.Settles (l.foldl f s) := by
  induction l generalizing s with
  | nil => exact refl s
  | cons a l ih => exact (h s a).trans (ih _)

theorem setZone {n : Nat} {r : Zone} (follows : (s.zone n).Follows r) : s.Settles (s.setZone n r) where
  zone z := by
    rw [zone_setZone]
    split
    · subst z; exact follows
    · exact .refl _
  group _ := .refl _

theorem setGroup {g : Nat} {r : Group} (follows : (s.group g).Follows r) : s.Settles (s.setGroup g r) where
  zone _ := .refl _
  group k := by
    rw [group_setGroup]
    split
    · subst k; exact follows
    · exact .refl _

theorem flagZone {n : Nat} {z : Zone} (e : BitVec 3) (follows : (s.zone n).Follows z) : s.Settles (s.flagZone n z e) := by
  have flagged : s.Settles (s.setZone n { z with flags := z.flags ||| e }) := setZone ⟨follows.settings, follows.pending⟩
  unfold State.flagZone
  dsimp only
  split
  · exact flagged.trans (of_zon rfl)
  · exact flagged

theorem followAlarm {n : Nat} {z : Zone} (follows : (s.zone n).Follows z) : s.Settles (s.followAlarm n z) := by
  have taken (a : Alarm) : (s.zone n).Follows (z.takeAlarm a) := by
    cases a <;> exact ⟨follows.settings, follows.pending⟩
  unfold State.followAlarm
  dsimp only
  split
  · exact setZone follows
  · exact flagZone _ (taken _)

theorem takeZoneSettings (s : State) (n : Nat) : s.Settles (s.takeZoneSettings n) := by
  unfold State.takeZoneSettings
  dsimp only
  split
  · split
    · exact setZone ⟨.inr rfl, rfl⟩
    · exact followAlarm ⟨.inr rfl, rfl⟩
  · exact refl s

theorem takeGroupSettings (s : State) (g : Nat) : s.Settles (s.takeGroupSettings g) := by
  unfold State.takeGroupSettings
  dsimp only
  split
  · exact setGroup ⟨.inr rfl, rfl, rfl, rfl⟩
  · exact refl s

theorem testService (s : State) (n : Nat) : s.Settles (s.testService n) := by
  unfold State.testService
  dsimp only
  split
  · exact refl s
  · exact flagZone _ ⟨.inl rfl, rfl⟩

theorem readied (s : State) : s.Settles s.readied :=
  ((foldl takeZoneSettings _ _).trans (foldl takeGroupSettings _ _)).trans (foldl testService _ _)

theorem keyZone (s : State) (n : Nat) : s.Settles (s.keyZone n) := by
  unfold State.keyZone
  dsimp only
  split <;> exact setZone ⟨.inl rfl, rfl⟩

theorem judgeAt (k : Nat) (s : State) (n : Nat) : s.Settles (judgeAt k s n) := by
  unfold Machine.judgeAt judge
  split
  · split
    · dsimp only
      split
      · exact setZone ⟨.inl rfl, rfl⟩
      · exact flagZone _ ⟨.inl rfl, rfl⟩
    · exact refl s
  · exact refl s

theorem offerAt (k : Nat) (s : State) (n : Nat) : s.Settles (offerAt k s n) := by
  unfold Machine.offerAt
  split
  · exact refl s
  · split
    · split
      · exact setZone ⟨.inl rfl, rfl⟩
      · exact refl s
    · exact refl s

theorem plansInRange (h : s.Settles t) (inRange : s.plansInRange) : t.plansInRange := by
  obtain ⟨zones, groups, plans⟩ := inRange
  refine ⟨fun z => ?_, fun g => ?_, fun g p held => ?_⟩
  · rw [(h.zone z).pending]
    refine ⟨?_, (zones z).2⟩
    obtain force | pending := (h.zone z).settings
    · exact force ▸ (zones z).1
    · exact pending ▸ (zones z).2
  · rw [(h.group g).pending]
    refine ⟨?_, (groups g).2⟩
    obtain force | pending := (h.group g).settings
    · exact force ▸ (groups g).1
    · exact pending ▸ (groups g).2
  · rw [(h.group g).next, (h.group g).current] at held
    exact plans g p held

theorem plansDisjoint (h : s.Settles t) (disjoint : s.plansDisjoint) : t.plansDisjoint := by
  intro g hg k hk other p q
  rw [(h.group g).next, (h.group k).next, (h.group g).current, (h.group k).current]
  exact disjoint g hg k hk other p q

end Settles

/-! ### Writes of settings and plans (R104, R109, R111, R112) -/

theorem setZone_plansInRange (inRange : s.plansInRange) {n : Nat} {r : Zone} (settings : r.settings.inRange)
    (pending : r.pending.inRange) : (s.setZone n r).plansInRange := by
  refine ⟨fun z => ?_, inRange.2⟩
  rw [zone_setZone]
  split
  · exact ⟨settings, pending⟩
  · exact inRange.1 z

theorem setGroup_plansInRange (inRange : s.plansInRange) {g : Nat} {r : Group} (settings : r.settings.inRange)
    (pending : r.pending.inRange) (plans : ∀ p, r.next = some p ∨ r.current = some p → p.fillsFrame) :
    (s.setGroup g r).plansInRange := by
  refine ⟨inRange.1, fun k => ?_, fun k p => ?_⟩
  all_goals
    rw [group_setGroup]
    split
  · exact ⟨settings, pending⟩
  · exact inRange.2.1 k
  · exact plans p
  · exact inRange.2.2 k p

theorem setGroup_plansDisjoint (disjoint : s.plansDisjoint) {g : Nat} {r : Group}
    (next : r.next = (s.group g).next ∨ r.next = none) (current : r.current = (s.group g).current ∨ r.current = none) :
    (s.setGroup g r).plansDisjoint := by
  have plans (k : Nat) : (((s.setGroup g r).group k).next = (s.group k).next ∨ ((s.setGroup g r).group k).next = none) ∧
      (((s.setGroup g r).group k).current = (s.group k).current ∨ ((s.setGroup g r).group k).current = none) := by
    rw [group_setGroup]
    split
    · subst k; exact ⟨next, current⟩
    · exact ⟨.inl rfl, .inl rfl⟩
  intro h hh k hk other p q
  obtain ⟨next, current⟩ := disjoint h hh k hk other p q
  refine ⟨fun hp hq => next ?_ ?_, fun hp hq => current ?_ ?_⟩
  · exact ((plans h).1.resolve_right (by simp [hp])).symm.trans hp
  · exact ((plans k).1.resolve_right (by simp [hq])).symm.trans hq
  · exact ((plans h).2.resolve_right (by simp [hp])).symm.trans hp
  · exact ((plans k).2.resolve_right (by simp [hq])).symm.trans hq

/-- A plan made from settings in range fills its frame, D in 334..495 (R111). -/
theorem planFor_fillsFrame (inRange : s.plansInRange) (g : Nat) (x : Serial) : (s.planFor g x).fillsFrame := by
  have settle (z : Nat) : (s.zone z).settings.settle ≤ 127 := (inRange.1 z).1.1
  have largest : s.largestSettle (s.memberSet g) ≤ 127 := by
    obtain none | ⟨z, -, -, attained⟩ := s.largestSettle_attained (s.memberSet g)
    · omega
    · exact attained ▸ settle z
  have short : (s.planFor g x).settle ≤ 26 := by show (s.largestSettle (s.memberSet g) + 4) / 5 ≤ 26; omega
  have sum := planFor_fills (fun z _ => settle z) (inRange.2.1 g).1 x
  obtain ⟨-, least, most, slots⟩ := (inRange.2.1 g).1
  have guard : (s.planFor g x).guard = (s.group g).settings.guard := rfl
  have count : (s.planFor g x).slotCount = (s.group g).settings.slotCount := rfl
  exact ⟨short, sum, by omega, by omega⟩

theorem makePlan_plansInRange (s : State) (g : Nat) (inRange : s.plansInRange) : (s.makePlan g).plansInRange :=
  setGroup_plansInRange inRange (inRange.2.1 g).1 (inRange.2.1 g).2 fun p held => by
    obtain made | current := held
    · cases made; exact planFor_fillsFrame inRange ..
    · exact inRange.2.2 g p (.inr current)

theorem startPlan_plansInRange (s : State) (g : Nat) (inRange : s.plansInRange) : (s.startPlan g).plansInRange :=
  setGroup_plansInRange inRange (inRange.2.1 g).1 (inRange.2.1 g).2 fun p held => by
    obtain none | started := held
    · cases none
    · exact inRange.2.2 g p (.inl started)

theorem dropPlans_plansInRange (s : State) (g : Nat) (inRange : s.plansInRange) : (s.dropPlans g).plansInRange :=
  setGroup_plansInRange inRange (inRange.2.1 g).1 (inRange.2.1 g).2 fun p held => by
    obtain none | none := held <;> cases none

/-- A zone in service stands in the members of its in-force group alone (R110). -/
theorem memberSet_disjoint (s : State) {g h : Nat} (other : g ≠ h) : s.memberSet g &&& s.memberSet h = 0 := by
  refine BitVec.eq_of_getLsbD_eq fun z hz => Eq.trans ?_ BitVec.getLsbD_zero.symm
  rw [BitVec.getLsbD_and, Bool.and_eq_false_iff]
  by_contra both
  rw [not_or, Bool.not_eq_false, Bool.not_eq_false] at both
  obtain ⟨-, mine⟩ := (getLsbD_memberSet hz).1 both.1
  obtain ⟨-, theirs⟩ := (getLsbD_memberSet hz).1 both.2
  exact other (Option.some.inj (mine.symm.trans theirs))

/-- The zone controller at a build point replaces every next plan (R110, R111). -/
theorem zoneBuildPoint_plans (s : State) : (s.plansInRange → s.zoneBuildPoint.plansInRange) ∧
    (s.plansDisjoint → s.zoneBuildPoint.plansDisjoint) := by
  refine ⟨fun inRange => foldl_keeps makePlan_plansInRange groupNumbers s.readied ((Settles.readied s).plansInRange inRange),
    fun disjoint => ?_⟩
  obtain ⟨-, group, -⟩ := s.zoneBuildPoint_eq
  generalize s.zoneBuildPoint = b at group ⊢
  generalize s.clk.serial + 1 = x at group
  have current {k : Nat} (hk : k < 4) : (b.group k).current = (s.group k).current := by rw [group k hk]; rfl
  have members {k : Nat} (hk : k < 4) {p : Plan} (hp : (b.group k).next = some p) : p.members = b.memberSet k := by
    rw [group k hk] at hp
    cases hp
    rfl
  intro g hg h hh other p q
  rw [current hg, current hh]
  refine ⟨fun hp hq => ?_, (disjoint g hg h hh other p q).2⟩
  rw [members hg hp, members hh hq]
  exact b.memberSet_disjoint other

/-- A boundary begins the next plans (R112). -/
theorem turned_plans (s : State) : (s.plansInRange → s.turned.plansInRange) ∧ (s.plansDisjoint → s.turned.plansDisjoint) := by
  refine ⟨fun inRange => ?_, fun disjoint => ?_⟩
  · have keyed : s.begun.Settles s.turned :=
      (Settles.foldl Settles.keyZone zoneNumbers s.begun).trans (.of_zon s.turned_zon)
    exact keyed.plansInRange (foldl_keeps startPlan_plansInRange _ _ inRange)
  · intro g hg h hh other p q
    rw [s.turned_group hg, s.turned_group hh]
    exact ⟨nofun, (disjoint g hg h hh other p q).1⟩

end State

/-! ### Images within their fields (R127) -/

/-- Each image of a group fits its field (R127). -/
def GroupImages.fit (r : GroupImages) : Prop := ∀ i, r.next = some i ∨ r.current = some i → i.used ≤ i.capacity

namespace GroupImages

variable {r : GroupImages}

/-- A next image replaced by one that fits. -/
theorem fit_of_next {q : GroupImages} (fit : r.fit) (current : q.current = r.current)
    (next : ∀ i, q.next = some i → i.used ≤ i.capacity) : q.fit := fun i held => by
  rw [current] at held
  exact held.elim (next i) fun stands => fit i (.inr stands)

theorem fit_handOver (fit : r.fit) (launch : Bool) : (r.handOver launch).fit := by
  intro i held
  unfold handOver at held
  split at held
  · exact held.elim (fun h => fit i (.inl h)) nofun
  · rename_i j next
    split at held
    · exact held.elim nofun fun h => fit i (.inl (next.trans h))
    · exact held.elim nofun nofun

/-- An image with no page takes nothing of its field. -/
theorem used_of_empty {i : Image} (empty : i.pages = []) : i.used = 0 := by
  have padded : paddedTo i.depth 0 = 0 := by
    obtain zero | positive := Nat.eq_zero_or_pos i.depth
    · simp [paddedTo, zero]
    · rw [paddedTo, Nat.div_eq_of_lt (by omega), Nat.zero_mul]
  simp [Image.used, Image.p, Image.padded, Image.m, empty, padded]

theorem fit_opened (fit : r.fit) (g : Nat) (o : Option Plan) : (r.opened g o).fit := by
  refine fit_of_next fit (opened_besides r g o).1 fun i held => ?_
  unfold opened at held
  split at held
  · exact fit i (.inl held)
  · split at held
    · exact fit i (.inl held)
    · cases held
      exact (used_of_empty rfl).trans_le (Nat.zero_le _)

/-- A page for which the room test found room (R127); its words are its descriptor, its body words and its address. -/
theorem fit_paged (fit : r.fit) {words : Nat} (held : 2 ≤ words) {e : PageEntry} (body : e.bodyWords = words - 2)
    (room : ∀ i, r.next = some i → i.p + 1 + paddedTo i.depth (i.m + words - 1) ≤ i.capacity) : (r.paged e).fit := by
  refine fit_of_next fit rfl fun i next => ?_
  obtain ⟨j, before, rfl⟩ := Option.map_eq_some_iff.1 next
  have sum : Image.m { j with pages := j.pages ++ [e] } = j.m + words - 1 := by
    simp only [Image.m, List.map_append, List.sum_append, List.map_cons, List.map_nil, List.sum_cons, List.sum_nil, body]
    omega
  have count : Image.p { j with pages := j.pages ++ [e] } = j.p + 1 := by simp [Image.p]
  rw [Image.used, Image.padded, sum, count]
  exact room j before

/-- The words of an image are no part of the test. -/
theorem fit_laidOut (fit : r.fit) (words : Image → List Word) :
    ({ r with next := r.next.map (fun i => { i with words := words i }) } : GroupImages).fit :=
  fit_of_next fit rfl fun i next => by
    obtain ⟨j, before, rfl⟩ := Option.map_eq_some_iff.1 next
    exact fit j (.inl before)

theorem fit_emptied (fit : r.fit) : ({ r with next := r.next.map Image.emptied } : GroupImages).fit :=
  fit_of_next fit rfl fun i next => by
    obtain ⟨j, -, rfl⟩ := Option.map_eq_some_iff.1 next
    exact (used_of_empty rfl).trans_le (Nat.zero_le _)

theorem fit_discarded (fit : r.fit) : ({ r with next := none } : GroupImages).fit := fit_of_next fit rfl nofun

end GroupImages

namespace State

variable {s t : State}

/-- Every image held fits its field (R127). -/
def imagesHeld (s : State) : Prop := ∀ g, (s.images g).fit

theorem imagesHeld_of_bld (bld : t.bld = s.bld) (held : s.imagesHeld) : t.imagesHeld := fun g => by
  rw [images_of_bld bld]; exact held g

theorem setImages_held (held : s.imagesHeld) {g : Nat} {r : GroupImages} (fit : r.fit) : (s.setImages g r).imagesHeld := by
  intro k
  rw [images_setImages]
  split
  · exact fit
  · exact held k

theorem handOverGroup_held (kept : GroupSet) (s : State) (g : Nat) (held : s.imagesHeld) :
    (handOverGroup kept s g).imagesHeld := setImages_held held (GroupImages.fit_handOver (held g) _)

theorem turned_held (held : s.imagesHeld) : s.turned.imagesHeld := by
  have handed : s.handedOver.imagesHeld :=
    foldl_keeps (handOverGroup_held s.keptGroups) groupNumbers _ (imagesHeld_of_bld s.keyedUp_bld held)
  intro g
  rw [turned, images_withAir]
  exact handed g

theorem openGroup_held (s : State) (g : Nat) (held : s.imagesHeld) : (s.openGroup g).imagesHeld := by
  intro k
  rw [openGroup_images]
  split
  · exact GroupImages.fit_opened (held k) _ _
  · exact held k

theorem completeGroup_held (s : State) (g : Nat) (held : s.imagesHeld) : (s.completeGroup g).imagesHeld := by
  intro k
  rw [completeGroup_images]
  split
  · exact GroupImages.fit_laidOut (held k) _
  · exact held k

theorem emptyNext_held (s : State) (g : Nat) (held : s.imagesHeld) : (emptyNext s g).imagesHeld :=
  setImages_held held (GroupImages.fit_emptied (held g))

theorem discardNext_held (s : State) (g : Nat) (held : s.imagesHeld) : (discardNext s g).imagesHeld :=
  setImages_held held (GroupImages.fit_discarded (held g))

/-- A visit places an entry only where the room test passed, in every group that it carries (R127, R129). -/
theorem visit_held (x : Serial) (s : State) (n : Nat) (words : s.wordsHeld) (held : s.imagesHeld) :
    (visit x s n).imagesHeld := by
  by_cases placed : ∃ d, Placeable x s n d
  · obtain ⟨d, placed⟩ := placed
    intro g
    rw [placed.visit_eq, place_images]
    split
    · rename_i listed
      obtain ⟨⟨i, next, room⟩, -⟩ := (s.groupPasses_iff d g).1 (placed.pass g listed)
      refine GroupImages.fit_paged (held g) (words n d placed.live) rfl fun j found => ?_
      cases next.symm.trans found
      exact room
    · exact held g
  · push Not at placed
    exact imagesHeld_of_bld (visit_unplaced placed).1 held

theorem walked_fit (s : State) (x : Serial) (fit : s.imagesFit) : (s.walked x).imagesFit := by
  have opened : s.opened.dlv = s.dlv := dlv_foldl openGroup_dlv groupNumbers s
  exact foldl_keeps (P := State.imagesFit) (fun s n fit =>
    ⟨(SameWords.visit x s n).wordsHeld fit.1, visit_held x s n fit.1 fit.2⟩) _ _
    ⟨(SameWords.of_dlv opened).wordsHeld fit.1, foldl_keeps openGroup_held groupNumbers s fit.2⟩

theorem build_fit (s : State) (x : Serial) (fit : s.imagesFit) : (s.build x).imagesFit := by
  have walked := s.walked_fit x fit
  rw [build_eq_completed]
  exact ⟨(SameWords.of_dlv (dlv_foldl completeGroup_dlv ..)).wordsHeld walked.1,
    foldl_keeps completeGroup_held groupNumbers _ walked.2⟩

end State

end Sys2Proof.Machine
end

section
/-! PROOFS. Every step keeps settings in range, plans disjoint and images within their fields: the requests and the commands
(R102, R108, R110, R111, R127). -/

namespace Sys2Proof.Machine

namespace State

variable {s t u : State}

/-- The step from `s` to `t` keeps what R102, R108, R110, R111 and R127 say of settings, plans and images. -/
structure KeepsPlans (s t : State) : Prop where
  range : s.plansInRange → t.plansInRange
  disjoint : s.plansDisjoint → t.plansDisjoint
  fit : s.imagesFit → t.imagesFit

namespace KeepsPlans

theorem refl (s : State) : s.KeepsPlans s := ⟨id, id, id⟩

theorem trans (h : s.KeepsPlans t) (g : t.KeepsPlans u) : s.KeepsPlans u :=
  ⟨g.range ∘ h.range, g.disjoint ∘ h.disjoint, g.fit ∘ h.fit⟩

/-- An event that takes settings into force at most, touches no image, and brings up no delivery. -/
theorem of_settles (settles : s.Settles t) (words : s.SameWords t) (bld : t.bld = s.bld) : s.KeepsPlans t :=
  ⟨settles.plansInRange, settles.plansDisjoint, fun fit => ⟨words.wordsHeld fit.1, imagesHeld_of_bld bld fit.2⟩⟩

theorem of_same (zon : t.zon = s.zon) (bld : t.bld = s.bld) (dlv : t.dlv = s.dlv) : s.KeepsPlans t :=
  of_settles (.of_zon zon) (.of_dlv dlv) bld

/-- An event of the deliveries and images alone. -/
theorem of_zon (zon : t.zon = s.zon) (fit : s.imagesFit → t.imagesFit) : s.KeepsPlans t :=
  ⟨(Settles.of_zon zon).plansInRange, (Settles.of_zon zon).plansDisjoint, fit⟩

end KeepsPlans

theorem ZonesOnly.bld (h : s.ZonesOnly t) : t.bld = s.bld := by obtain ⟨_, _, rfl⟩ := h; rfl

/-- An event of the zone controller that takes settings into force at most. -/
theorem ZonesOnly.keepsPlans (only : s.ZonesOnly t) (settles : s.Settles t) : s.KeepsPlans t :=
  .of_settles settles (.of_dlv only.dlv) only.bld

theorem ZonesOnly.imagesFit (only : s.ZonesOnly t) (fit : s.imagesFit) : t.imagesFit :=
  ⟨(SameWords.of_dlv only.dlv).wordsHeld fit.1, imagesHeld_of_bld only.bld fit.2⟩

/-- Counters, flags and queues of a zone are no settings of it. -/
theorem setZone_keepsPlans {n : Nat} {r : Zone} (follows : (s.zone n).Follows r) : s.KeepsPlans (s.setZone n r) :=
  (s.setZone_zonesOnly n r).keepsPlans (.setZone follows)

theorem boundaryEvent_keepsPlans (s : State) (o : EndingOrder) : s.KeepsPlans (s.boundaryEvent o) := by
  have turned : s.KeepsPlans s.turned := ⟨s.turned_plans.1, s.turned_plans.2, fun fit =>
    ⟨(SameWords.of_dlv s.turned_dlv).wordsHeld fit.1, turned_held fit.2⟩⟩
  have settled : s.turned.KeepsPlans (s.settled o) :=
    .of_settles (.of_zon (s.settled_touched o).zon) (SameWords.foldl (SameWords.endingStep s.work) _ _) (endings_bld ..)
  obtain ⟨maps, moved⟩ := moved_only s.keptGroups (s.settled o)
  rw [boundaryEvent_eq_settled, moved]
  exact (turned.trans settled).trans (.of_same rfl rfl rfl)

theorem buildPointEvent_keepsPlans (s : State) : s.KeepsPlans s.buildPointEvent := by
  have zones : s.KeepsPlans s.zoneBuildPoint :=
    ⟨s.zoneBuildPoint_plans.1, s.zoneBuildPoint_plans.2, s.zoneBuildPoint_zonesOnly.imagesFit⟩
  unfold buildPointEvent
  dsimp only
  split
  · exact zones.trans (.of_zon (build_frame ..).2.1 (build_fit _ _))
  · exact zones

theorem dropPlans_keepsPlans (s : State) (g : Nat) : s.KeepsPlans (s.dropPlans g) :=
  ⟨s.dropPlans_plansInRange g, fun disjoint => setGroup_plansDisjoint disjoint (.inr rfl) (.inr rfl),
    (s.setGroup_zonesOnly g _).imagesFit⟩

/-- STOP CLOCK drops every plan (R112). -/
theorem stopped_keepsPlans (s : State) : s.KeepsPlans s.stopped := by
  have stop : s.KeepsPlans (s.withClk s.clk.stop) := .of_same rfl rfl rfl
  have plans (l : List Nat) (t : State) : t.KeepsPlans (l.foldl dropPlans t) :=
    foldl_keeps (P := t.KeepsPlans) (fun u g held => held.trans (u.dropPlans_keepsPlans g)) l t (.refl t)
  have maps (l : List Nat) (t : State) : t.KeepsPlans (l.foldl dropMaps t) := by
    refine foldl_keeps (P := t.KeepsPlans) (fun u g held => held.trans ?_) l t (.refl t)
    exact .of_same rfl rfl rfl
  exact (stop.trans (plans _ _)).trans (maps _ _)

/-- AIR OFF discards the next images (R124). -/
theorem airOff_keepsPlans (s : State) : s.KeepsPlans s.airOff := by
  refine .of_zon s.airOff_standing.2.1 fun fit => ?_
  have stopping : s.SameWords (s.withBld { s.bld with air := .stopping }) := .of_dlv rfl
  have words : s.SameWords s.offAir := stopping.trans (SameWords.foldl (SameWords.launchOne 0) s.placedNumbers _)
  have held : s.offAir.imagesHeld := fun g => by rw [images, offAir_bld]; exact fit.2 g
  have dlv : s.airOff.dlv = s.offAir.dlv := foldl_fixed (f := discardNext) (read := State.dlv) (fun _ _ => rfl) _ _
  exact ⟨(words.trans (.of_dlv dlv)).wordsHeld fit.1, foldl_keeps discardNext_held _ _ held⟩

/-- TRAFFIC RESET ends every delivery and empties the next images (R175). -/
theorem trafficReset_keepsPlans (s : State) : s.KeepsPlans s.trafficReset := by
  have ended : s.SameWords (s.liveNumbers.foldl cancelOne s) := SameWords.foldl SameWords.cancelOne _ _
  obtain ⟨images, maps, only⟩ := s.trafficReset_only
  have zon : s.trafficReset.zon = s.zon := by
    rw [only]; exact (Touched.foldl Touched.cancelOne s.liveNumbers s).zon
  have dlv : s.trafficReset.dlv = (s.liveNumbers.foldl cancelOne s).dlv := by rw [only]; rfl
  refine .of_zon zon fun fit => ⟨(ended.trans (.of_dlv dlv)).wordsHeld fit.1, foldl_keeps emptyNext_held _ _ ?_⟩
  refine imagesHeld_of_bld ?_ fit.2
  exact (foldl_fixed (f := emptyMaps) (read := State.bld) (fun _ _ => rfl) _ _).trans
    (foldl_fixed (f := cancelOne) (read := State.bld) (fun t n => t.cancelOne_bld n) _ _)

/-- Every zone that the resets leave has the settings of power-on (R119). -/
theorem resetBlocks_zone (s : State) (z : Nat) : ∃ high, s.resetBlocks.zone z = .powerOn high := by
  have := Table.read_foldl_put (.powerOn false) (fun n => Zone.powerOn (s.zone n).input) zoneNumbers [] z
  split at this
  · exact ⟨_, this⟩
  · exact ⟨_, this⟩

theorem resetBlocks_keepsPlans (s : State) (l : Link) : s.KeepsPlans (s.resetBlocks.withLnk l) where
  range _ := by
    refine ⟨fun z => ?_, reset_plansInRange.2⟩
    obtain ⟨high, powerOn⟩ := s.resetBlocks_zone z
    exact powerOn ▸ reset_plansInRange.1 z
  disjoint _ _ _ _ _ _ _ _ := ⟨nofun, nofun⟩
  fit _ := reset_imagesFit

/-! ### Return records -/

theorem takeReceipt_keepsPlans (s : State) (zone frame slot reply : Nat) (check : Byte) :
    s.KeepsPlans (s.takeReceipt zone frame slot reply check) := by
  refine .of_settles ?_ (SameWords.takeReceipt ..) ?_
  · unfold takeReceipt
    split
    · have counted : s.Settles (s.setZone zone { s.zone zone with
          strayReceipts := satAdd Config.count16Max (s.zone zone).strayReceipts 1 }) := .setZone ⟨.inl rfl, rfl⟩
      exact counted.trans (.of_zon rfl)
    · exact .of_zon rfl
    · exact .of_zon rfl
    · rw [deliver_eq]
      generalize attempt : s.writeAttempt _ _ = w
      have written : s.Settles w := .of_zon (by simp [← attempt])
      have counted : w.Settles (w.setZone zone { w.zone zone with
          receiptsHeard := satAdd Config.count16Max (w.zone zone).receiptsHeard 1 }) := .setZone ⟨.inl rfl, rfl⟩
      exact (written.trans counted).trans (.of_zon (by rw [endDelivery_zon]; rfl))
  · unfold takeReceipt
    split
    · rfl
    · rfl
    · rfl
    · exact deliver_bld ..

theorem checkInOne_zon_bld (k : Nat) (s : State) (n : Nat) :
    (checkInOne k s n).zon = s.zon ∧ (checkInOne k s n).bld = s.bld := by
  unfold checkInOne
  split
  · exact ⟨rfl, rfl⟩
  split
  · split
    · exact ⟨refile_zon .., refile_bld ..⟩
    · exact ⟨rfl, rfl⟩
    · exact ⟨rfl, rfl⟩
    · exact ⟨rfl, rfl⟩
    · exact ⟨rfl, rfl⟩
  · exact ⟨rfl, rfl⟩

theorem takeCheckIn_keepsPlans (s : State) (zone : Nat) (a : Word) (x : Serial) (g : Option Nat) :
    s.KeepsPlans (s.takeCheckIn zone a x g) := by
  have counted : s.KeepsPlans (s.setZone zone { s.zone zone with
      checkIns := satAdd Config.count16Max (s.zone zone).checkIns 1 }) := setZone_keepsPlans ⟨.inl rfl, rfl⟩
  unfold takeCheckIn
  dsimp only
  split
  · exact counted.trans (.of_same rfl rfl rfl)
  · rename_i n _
    have one (u : State) (m : Nat) : u.KeepsPlans (checkInOne n u m) :=
      .of_settles (.of_zon (checkInOne_zon_bld n u m).1) (.checkInOne n u m) (checkInOne_zon_bld n u m).2
    have all (l : List Nat) (u : State) : u.KeepsPlans (l.foldl (checkInOne n) u) :=
      foldl_keeps (P := u.KeepsPlans) (fun v m held => held.trans (one v m)) l u (.refl u)
    refine counted.trans (KeepsPlans.trans ?_ (all _ _))
    exact .of_same rfl rfl rfl

end State

/-! ### The requests -/

/-- A request that keeps the invariants of settings, plans and images. -/
def ServiceKeepsPlans (serve : List Byte → State → State × Answer) : Prop :=
  ∀ (p : List Byte) (s : State), s.KeepsPlans (serve p s).1

theorem LeavesAir.keepsPlans {serve : List Byte → State → State × Answer} (air : LeavesAir serve)
    (deliveries : LeavesDeliveries serve) : ServiceKeepsPlans serve :=
  fun p s => .of_same (air p s).2.1 (air p s).2.2 (deliveries p s)

theorem ReadsOnly.keepsPlans {serve : List Byte → State → State × Answer} (h : ReadsOnly serve) : ServiceKeepsPlans serve :=
  fun p s => by rw [h p s]; exact .refl s

/-- A request of the deliveries: it need only keep their words. -/
theorem LeavesAir.keepsPlans_of_words {serve : List Byte → State → State × Answer} (air : LeavesAir serve)
    (words : ∀ p s, s.wordsHeld → (serve p s).1.wordsHeld) : ServiceKeepsPlans serve :=
  fun p s => .of_zon (air p s).2.1 fun fit => ⟨words p s fit.1, State.imagesHeld_of_bld (air p s).2.2 fit.2⟩

theorem serveSubmitPage_keepsPlans : ServiceKeepsPlans serveSubmitPage := by
  refine serveSubmitPage_leavesAir.keepsPlans_of_words fun p s held => ?_
  unfold serveSubmitPage
  split
  · exact held
  split
  · exact held
  · exact State.accept_wordsHeld held _ _ _

/-- The members of a group page, each taken in by itself (R60). -/
theorem takeMembers_wordsHeld (x : Submission) (l : List Nat) (g : GroupProgress) (held : g.state.wordsHeld) :
    (l.foldl (takeMember x) g).state.wordsHeld := by
  induction l generalizing g with
  | nil => exact held
  | cons n l ih =>
    refine ih _ ?_
    unfold takeMember
    split
    · exact held
    · exact State.accept_wordsHeld held _ _ _

theorem serveSubmitGroupPage_keepsPlans : ServiceKeepsPlans serveSubmitGroupPage := by
  refine serveSubmitGroupPage_leavesAir.keepsPlans_of_words fun p s held => ?_
  unfold serveSubmitGroupPage
  split
  · exact held
  · exact takeMembers_wordsHeld _ _ { state := s, body := none, accepted := 0, entries := [] } held

theorem serveCancel_keepsPlans : ServiceKeepsPlans serveCancel := by
  refine serveCancel_leavesAir.keepsPlans_of_words fun p s held => ?_
  unfold serveCancel
  dsimp only
  repeat' split
  · exact held
  · exact held
  · exact (State.SameWords.endDelivery ..).wordsHeld held
  · exact held

theorem serveSetClock_keepsPlans : ServiceKeepsPlans serveSetClock := by
  intro p s
  unfold serveSetClock
  repeat' split
  all_goals exact .of_same rfl rfl rfl

theorem serveSetTrim_keepsPlans : ServiceKeepsPlans serveSetTrim := by
  intro p s
  unfold serveSetTrim
  split
  all_goals exact .of_same rfl rfl rfl

theorem serveStartClock_keepsPlans : ServiceKeepsPlans serveStartClock := by
  intro p s
  unfold serveStartClock
  repeat' split
  · exact .refl s
  · exact .refl s
  · have started : s.KeepsPlans (s.withClk s.clk.start) := .of_same rfl rfl rfl
    exact started.trans (State.boundaryEvent_keepsPlans _ _)

theorem serveStopClock_keepsPlans : ServiceKeepsPlans serveStopClock := by
  intro p s
  unfold serveStopClock
  repeat' split
  · exact .refl s
  · exact .refl s
  · exact .refl s
  · exact s.stopped_keepsPlans

theorem zoneSettingsOf_settle {p : List Byte} {z : ZoneSettings} (h : zoneSettingsOf p = some z) : z.settle ≤ 127 := by
  unfold zoneSettingsOf at h
  split at h
  · cases h; exact Nat.min_le_right ..
  · cases h

theorem lt_of_zoneGroupOfCode {n g : Nat} (h : zoneGroupOfCode n = some (some g)) : g < 4 := by
  unfold zoneGroupOfCode at h
  split at h
  · cases h; omega
  · split at h <;> cases h

theorem serveSetZone_keepsPlans : ServiceKeepsPlans serveSetZone := by
  intro p s
  unfold serveSetZone
  repeat' split
  · exact .refl s
  · exact .refl s
  · exact .refl s
  · exact .refl s
  · rename_i coded _ _ _ group
    have settle := zoneSettingsOf_settle coded
    exact ⟨fun inRange => State.setZone_plansInRange inRange (inRange.1 _).1
      ⟨settle, fun _ member => lt_of_zoneGroupOfCode (group.trans (congrArg some member))⟩,
      id, id⟩

theorem depthDefined_iff {n : Nat} : depthDefined n = true ↔ n = 1 ∨ n = 2 ∨ n = 4 ∨ n = 8 := by
  simp [depthDefined, or_assoc]

theorem serveSetGroup_keepsPlans : ServiceKeepsPlans serveSetGroup := by
  intro p s
  unfold serveSetGroup
  repeat' split
  · exact .refl s
  · exact .refl s
  · exact .refl s
  · exact .refl s
  · rename_i depth
    have depth := depthDefined_iff.1 (Bool.of_not_eq_false depth)
    exact ⟨fun inRange => State.setGroup_plansInRange inRange (inRange.2.1 _).1
      ⟨depth, Nat.le_max_left .., max_le (by decide) (Nat.min_le_right ..), Nat.min_le_right ..⟩ (inRange.2.2 _),
      fun disjoint => State.setGroup_plansDisjoint disjoint (.inl rfl) (.inl rfl), id⟩

theorem serveClearZoneFlags_keepsPlans : ServiceKeepsPlans serveClearZoneFlags := by
  intro p s
  unfold serveClearZoneFlags
  repeat' split
  · exact .refl s
  · exact .refl s
  · exact State.setZone_keepsPlans ⟨.inl rfl, rfl⟩

theorem serveAirOn_keepsPlans : ServiceKeepsPlans serveAirOn := by
  intro p s
  unfold serveAirOn
  repeat' split
  all_goals exact .of_zon rfl id

theorem serveAirOff_keepsPlans : ServiceKeepsPlans serveAirOff := by
  intro p s
  cases p with
  | cons b p => exact .refl s
  | nil =>
    cases air : s.bld.air with
    | halted => simpa [serveAirOff, air, refuse] using State.KeepsPlans.refl s
    | stopping => simpa [serveAirOff, air, refuse] using State.KeepsPlans.refl s
    | on => rw [serveAirOff_of_on air]; exact s.airOff_keepsPlans

theorem serveTrafficReset_keepsPlans : ServiceKeepsPlans serveTrafficReset := by
  intro p s
  unfold serveTrafficReset
  split
  · exact .refl s
  · exact s.trafficReset_keepsPlans

theorem serveFullReset_keepsPlans : ServiceKeepsPlans serveFullReset := by
  intro p s
  unfold serveFullReset
  split
  · exact .refl s
  · exact s.resetBlocks_keepsPlans s.lnk

/-! ### The commands -/

section Events

variable {s t u : State}

theorem event_keepsPlans (kept : s.KeepsPlans u) (h : event u = .next t) : s.KeepsPlans t := by
  cases h
  exact kept.trans (.of_same rfl rfl rfl)

theorem request_keepsPlans {kind tag : Byte} {p : List Byte} {serve : List Byte → State → State × Answer}
    (serves : ServiceKeepsPlans serve) (h : request kind tag p serve s = .next t) : s.KeepsPlans t := by
  obtain ⟨u, reached, idle | ⟨-, served⟩⟩ := request_cases kind tag p serve s
  all_goals
    have arrived : s.KeepsPlans u := by
      rcases reached with rfl | rfl
      · exact .refl u
      · rw [arrival_eq]; exact .of_same rfl rfl rfl
  · exact event_keepsPlans arrived (idle.symm.trans h)
  · cases served.symm.trans h
    have taken : u.KeepsPlans u.taken := .of_same rfl rfl rfl
    exact ((arrived.trans taken).trans (serves p u.taken)).trans (.of_same (by simp) (by simp) (by simp))

/-- To come to a moment of the frame moves the clock alone (log 3). -/
theorem atMoment_keepsPlans {q : Nat} (h : s.atMoment q = some u) : s.KeepsPlans u := by
  obtain ⟨-, -, -, rfl⟩ := State.atMoment_eq_some h
  exact .of_same rfl rfl rfl

/-- An event at a moment of the frame, where the frame reaches it. -/
theorem atMoment_acts_keepsPlans {q : Nat} {f : State → Host.Outcome State Fault Refusal}
    (acts : ∀ u, s.atMoment q = some u → f u = .next t → u.KeepsPlans t)
    (h : (match s.atMoment q with | some u => f u | none => event s) = .next t) : s.KeepsPlans t := by
  cases moment : s.atMoment q with
  | none => simp only [moment] at h; exact event_keepsPlans (.refl s) h
  | some u =>
    simp only [moment] at h
    exact (atMoment_keepsPlans moment).trans (acts u moment h)

theorem execUnknownKindRequest_keepsPlans {kind tag : Byte} {p : List Byte} (h : execUnknownKindRequest kind tag p s = .next t) :
    s.KeepsPlans t := by
  unfold execUnknownKindRequest at h
  split at h
  · exact event_keepsPlans (.refl s) h
  · exact request_keepsPlans (fun _ s => State.KeepsPlans.refl s) h

theorem execFramingError_keepsPlans (h : execFramingError s = .next t) : s.KeepsPlans t := by
  have entered (c : LinkCause) (r : Receiver) (l : List Byte) : s.KeepsPlans (s.enterLinkError c r l) := by
    rw [enterLinkError_eq]
    exact .of_same rfl rfl rfl
  unfold execFramingError at h
  split at h
  · exact event_keepsPlans (entered ..) h
  · exact event_keepsPlans (entered ..) h
  · exact event_keepsPlans (.refl s) h

theorem execBoundary_keepsPlans {o : EndingOrder} (h : execBoundary o s = .next t) : s.KeepsPlans t :=
  atMoment_acts_keepsPlans (fun u _ ran => by
    have frame : u.KeepsPlans (u.withClk u.clk.nextFrame) := .of_same rfl rfl rfl
    exact event_keepsPlans (frame.trans (State.boundaryEvent_keepsPlans _ o)) ran) h

theorem execBuildPoint_keepsPlans (h : execBuildPoint s = .next t) : s.KeepsPlans t := by
  unfold execBuildPoint at h
  split at h
  · rename_i u moment
    split at h
    · exact event_keepsPlans (.refl s) h
    · have passed : u.KeepsPlans (u.withClk { u.clk with buildPassed := true }) := .of_same rfl rfl rfl
      exact (atMoment_keepsPlans moment).trans (event_keepsPlans (passed.trans (State.buildPointEvent_keepsPlans _)) h)
  · exact event_keepsPlans (.refl s) h

theorem execWordOffer_keepsPlans {k : Nat} (h : execWordOffer k s = .next t) : s.KeepsPlans t := by
  unfold execWordOffer at h
  split at h
  · exact atMoment_acts_keepsPlans (fun u _ ran => event_keepsPlans
      (State.ZonesOnly.keepsPlans (.foldl (State.offerAt_zonesOnly k) zoneNumbers u) (.foldl (.offerAt k) _ _)) ran) h
  · exact event_keepsPlans (.refl s) h

theorem execDataFieldEnd_keepsPlans {k : Nat} (h : execDataFieldEnd k s = .next t) : s.KeepsPlans t := by
  unfold execDataFieldEnd at h
  split at h
  · exact atMoment_acts_keepsPlans (fun u _ ran => event_keepsPlans
      (State.ZonesOnly.keepsPlans (.foldl (State.judgeAt_zonesOnly k) zoneNumbers u) (.foldl (.judgeAt k) _ _)) ran) h
  · exact event_keepsPlans (.refl s) h

theorem execWordTaken_keepsPlans {z : Fin 8} (h : execWordTaken z s = .next t) : s.KeepsPlans t := by
  unfold execWordTaken at h
  dsimp only at h
  split at h
  · refine event_keepsPlans ?_ h; exact State.setZone_keepsPlans ⟨.inl rfl, rfl⟩
  · exact event_keepsPlans (.refl s) h

theorem execReturnRecordArrival_keepsPlans {z : Fin 8} {l : List Byte} (h : execReturnRecordArrival z l s = .next t) :
    s.KeepsPlans t := by
  unfold execReturnRecordArrival at h
  dsimp only at h
  split at h
  · refine event_keepsPlans ?_ h; exact State.setZone_keepsPlans ⟨.inl rfl, rfl⟩
  · split at h
    · refine event_keepsPlans ?_ h; exact .of_same rfl rfl rfl
    · refine event_keepsPlans ?_ h; exact State.setZone_keepsPlans ⟨.inl rfl, rfl⟩

theorem execReceiptTaken_keepsPlans {z : Fin 8} (h : execReceiptTaken z s = .next t) : s.KeepsPlans t := by
  unfold execReceiptTaken at h
  split at h
  · rename_i rest _
    have taken : s.KeepsPlans (s.setQueue z.val rest) := .of_same rfl rfl rfl
    exact event_keepsPlans (taken.trans (State.takeReceipt_keepsPlans ..)) h
  · exact event_keepsPlans (.refl s) h

theorem execCheckInTaken_keepsPlans {z : Fin 8} (h : execCheckInTaken z s = .next t) : s.KeepsPlans t := by
  unfold execCheckInTaken at h
  split at h
  · rename_i rest _
    have taken : s.KeepsPlans (s.setQueue z.val rest) := .of_same rfl rfl rfl
    exact event_keepsPlans (taken.trans (State.takeCheckIn_keepsPlans ..)) h
  · exact event_keepsPlans (.refl s) h

theorem execTick_keepsPlans (h : execTick s = .next t) : s.KeepsPlans t := by
  unfold execTick at h
  split at h
  · refine event_keepsPlans ?_ h; exact .of_same rfl rfl rfl
  · exact event_keepsPlans (.refl s) h

end Events

/-- Every command keeps the invariants of settings, plans and images. -/
theorem exec_keepsPlans {c : Instr} {s t : State} (h : exec c s = .next t) : s.KeepsPlans t := by
  cases c with
  | assignSubscriber tag p =>
    exact request_keepsPlans (serveAssignSubscriber_leavesAir.keepsPlans serveAssignSubscriber_leavesDeliveries) h
  | modifySubscriber tag p =>
    exact request_keepsPlans (serveModifySubscriber_leavesAir.keepsPlans serveModifySubscriber_leavesDeliveries) h
  | suspend tag p => exact request_keepsPlans (serveSuspend_leavesAir.keepsPlans serveSuspend_leavesDeliveries) h
  | resume tag p => exact request_keepsPlans (serveResume_leavesAir.keepsPlans serveResume_leavesDeliveries) h
  | release tag p => exact request_keepsPlans (serveRelease_leavesAir.keepsPlans serveRelease_leavesDeliveries) h
  | querySubscriber tag p => exact request_keepsPlans serveQuerySubscriber_readsOnly.keepsPlans h
  | openAccount tag p => exact request_keepsPlans (serveOpenAccount_leavesAir.keepsPlans serveOpenAccount_leavesDeliveries) h
  | adjustAccount tag p => exact request_keepsPlans (serveAdjustAccount_leavesAir.keepsPlans serveAdjustAccount_leavesDeliveries) h
  | setCredit tag p => exact request_keepsPlans (serveSetCredit_leavesAir.keepsPlans serveSetCredit_leavesDeliveries) h
  | setTariffClass tag p =>
    exact request_keepsPlans (serveSetTariffClass_leavesAir.keepsPlans serveSetTariffClass_leavesDeliveries) h
  | lock tag p => exact request_keepsPlans (serveLock_leavesAir.keepsPlans serveLock_leavesDeliveries) h
  | unlock tag p => exact request_keepsPlans (serveUnlock_leavesAir.keepsPlans serveUnlock_leavesDeliveries) h
  | close tag p => exact request_keepsPlans (serveClose_leavesAir.keepsPlans serveClose_leavesDeliveries) h
  | queryAccount tag p => exact request_keepsPlans serveQueryAccount_readsOnly.keepsPlans h
  | loadTariff tag p => exact request_keepsPlans (serveLoadTariff_leavesAir.keepsPlans serveLoadTariff_leavesDeliveries) h
  | queryTariff tag p => exact request_keepsPlans serveQueryTariff_readsOnly.keepsPlans h
  | setPriorityProfile tag p =>
    exact request_keepsPlans (serveSetPriorityProfile_leavesAir.keepsPlans serveSetPriorityProfile_leavesDeliveries) h
  | queryProfile tag p => exact request_keepsPlans serveQueryProfile_readsOnly.keepsPlans h
  | submitPage tag p => exact request_keepsPlans serveSubmitPage_keepsPlans h
  | submitGroupPage tag p => exact request_keepsPlans serveSubmitGroupPage_keepsPlans h
  | queryStore tag p => exact request_keepsPlans serveQueryStore_readsOnly.keepsPlans h
  | cancel tag p => exact request_keepsPlans serveCancel_keepsPlans h
  | queryDelivery tag p => exact request_keepsPlans serveQueryDelivery_readsOnly.keepsPlans h
  | queryClock tag p => exact request_keepsPlans serveQueryClock_readsOnly.keepsPlans h
  | setClock tag p => exact request_keepsPlans serveSetClock_keepsPlans h
  | startClock tag p => exact request_keepsPlans serveStartClock_keepsPlans h
  | stopClock tag p => exact request_keepsPlans serveStopClock_keepsPlans h
  | setTrim tag p => exact request_keepsPlans serveSetTrim_keepsPlans h
  | setZone tag p => exact request_keepsPlans serveSetZone_keepsPlans h
  | setGroup tag p => exact request_keepsPlans serveSetGroup_keepsPlans h
  | clearZoneFlags tag p => exact request_keepsPlans serveClearZoneFlags_keepsPlans h
  | queryZone tag p => exact request_keepsPlans serveQueryZone_readsOnly.keepsPlans h
  | airOn tag p => exact request_keepsPlans serveAirOn_keepsPlans h
  | airOff tag p => exact request_keepsPlans serveAirOff_keepsPlans h
  | queryAir tag p => exact request_keepsPlans serveQueryAir_readsOnly.keepsPlans h
  | queryReceipts tag p => exact request_keepsPlans serveQueryReceipts_readsOnly.keepsPlans h
  | takeUsage tag p => exact request_keepsPlans (serveTakeUsage_leavesAir.keepsPlans serveTakeUsage_leavesDeliveries) h
  | setWatermark tag p => exact request_keepsPlans (serveSetWatermark_leavesAir.keepsPlans serveSetWatermark_leavesDeliveries) h
  | queryJournal tag p => exact request_keepsPlans serveQueryJournal_readsOnly.keepsPlans h
  | trafficReset tag p => exact request_keepsPlans serveTrafficReset_keepsPlans h
  | queryLink tag p => exact request_keepsPlans (serveQueryLink_leavesAir.keepsPlans serveQueryLink_leavesDeliveries) h
  | fullReset tag p => exact request_keepsPlans serveFullReset_keepsPlans h
  | unknownKindRequest kind tag p => exact execUnknownKindRequest_keepsPlans h
  | powerOn rate => exact event_keepsPlans (s.resetBlocks_keepsPlans _) h
  | inboundByte b =>
    have received : s.KeepsPlans (s.receive b) := by rw [receive_eq]; exact .of_same rfl rfl rfl
    exact event_keepsPlans received h
  | framingError => exact execFramingError_keepsPlans h
  | breakLine => exact event_keepsPlans (u := s.withLnk { s.lnk with receiver := .hunt, assembling := [] }) (.of_same rfl rfl rfl) h
  | recordTransmissionEnd => exact event_keepsPlans (u := s.withLnk { s.lnk with sending := none }) (.of_same rfl rfl rfl) h
  | boundary order => exact execBoundary_keepsPlans h
  | buildPoint => exact execBuildPoint_keepsPlans h
  | markEdge => exact event_keepsPlans (u := s.withClk s.clk.mark) (.of_same rfl rfl rfl) h
  | alarmEdge z high =>
    have settles : s.Settles (s.followAlarm z.val { s.zone z.val with input := high }) := .followAlarm ⟨.inl rfl, rfl⟩
    exact event_keepsPlans ((s.zonesOnly_of_followAlarm _ _).keepsPlans settles) h
  | wordOffer k => exact execWordOffer_keepsPlans h
  | wordTaken z => exact execWordTaken_keepsPlans h
  | dataFieldEnd k => exact execDataFieldEnd_keepsPlans h
  | returnRecordArrival z l => exact execReturnRecordArrival_keepsPlans h
  | receiptTaken z => exact execReceiptTaken_keepsPlans h
  | checkInTaken z => exact execCheckInTaken_keepsPlans h
  | tick => exact execTick_keepsPlans h

/-- Settles O59: each command either takes settings into force at most and brings up no delivery, or writes plans and images
that are in range, disjoint and within their fields. -/
theorem stepKeepsPlansAndImages : Obligations.StepKeepsPlansAndImages := by
  unfold Obligations.StepKeepsPlansAndImages
  intro s t h
  have kept : s.KeepsPlans t := by
    unfold step at h
    split at h
    · cases h; exact .refl s
    · rename_i rest _
      have fetched : s.KeepsPlans (s.withPending rest) := .of_same rfl rfl rfl
      exact fetched.trans (exec_keepsPlans h)
  exact ⟨kept.range, kept.disjoint, kept.fit⟩

end Sys2Proof.Machine
end

section
/-! PROOFS. SET ZONE, SET GROUP and CLEAR ZONE FLAGS (R104, R109, R116): what their payloads say, what each writes, and what
each refuses. -/

namespace Sys2Proof.Machine

/-! ### The payload of SET ZONE (R104) -/

theorem boolOfCode_eq_none_iff (n : Nat) : boolOfCode n = none ↔ 2 ≤ n := by
  unfold boolOfCode; split <;> simp_all; omega

theorem Polarity.ofCode_eq_none_iff (n : Nat) : Polarity.ofCode n = none ↔ 2 ≤ n := by
  unfold ofCode; split <;> simp_all; omega

theorem NoticeEdge.ofCode_eq_none_iff (n : Nat) : NoticeEdge.ofCode n = Option.none ↔ 4 ≤ n := by
  unfold ofCode; split <;> simp_all; omega

theorem OrderMode.ofCode_eq_none_iff (n : Nat) : OrderMode.ofCode n = none ↔ 2 ≤ n := by
  unfold ofCode; split <;> simp_all; omega

theorem zoneGroupOfCode_eq_none_iff (n : Nat) : zoneGroupOfCode n = none ↔ 4 ≤ n ∧ n ≠ 255 := by
  unfold zoneGroupOfCode; split
  · simp; omega
  · split <;> simp_all; omega

/-- Check 1 of R104: one of the five codes is undefined. -/
theorem zoneSettingsOf_eq_none_iff (p : List Byte) :
    zoneSettingsOf p = none ↔ 2 ≤ get1 p 1 ∨ 2 ≤ get1 p 4 ∨ 4 ≤ get1 p 5 ∨ 2 ≤ get1 p 6 ∨ 2 ≤ get1 p 7 := by
  rw [← boolOfCode_eq_none_iff, ← Polarity.ofCode_eq_none_iff, ← NoticeEdge.ofCode_eq_none_iff,
    ← boolOfCode_eq_none_iff (get1 p 6), ← boolOfCode_eq_none_iff (get1 p 7)]
  unfold zoneSettingsOf
  split
  · simp_all
  · rename_i undefined
    refine iff_of_true rfl ?_
    by_contra defined
    simp only [not_or, ← ne_eq, Option.ne_none_iff_exists'] at defined
    obtain ⟨⟨a, ha⟩, ⟨b, hb⟩, ⟨c, hc⟩, ⟨d, hd⟩, e, he⟩ := defined
    exact undefined a b c d e ha hb hc hd he

/-- The group of a zone reads back from its byte (R194). -/
theorem zoneGroup1_eq {o : Option Nat} (h : ∀ g, o = some g → g < 4) :
    ∃ b : Byte, zoneGroup1 o = [b] ∧ zoneGroupOfCode b.toNat = some o := by
  cases o with
  | none => exact ⟨0xFF, rfl, rfl⟩
  | some g =>
    have small : g < 4 := h g rfl
    refine ⟨BitVec.ofNat 8 g, rfl, ?_⟩
    rw [BitVec.toNat_ofNat, Nat.mod_eq_of_lt (by omega)]
    exact if_pos (by omega)

theorem toNat_byte {n : Nat} (h : n < 256) : (BitVec.ofNat 8 n).toNat = n := Nat.mod_eq_of_lt h

/-- The settings that SET ZONE makes pending, of those that its payload names (R104). -/
def ZoneSettings.clamped (v : ZoneSettings) : ZoneSettings := { v with settle := min v.settle 127 }

theorem serveSetZone_accepts (s : State) {z : Nat} {v : ZoneSettings} (number : z < 8)
    (group : ∀ g, v.group = some g → g < 4) (settle : v.settle < 256) :
    serveSetZone (num1 z ++ v.bytes) s =
      (s.setZone z { s.zone z with pending := v.clamped, pendingFlag := true },
        { status := .ok, clamped := 127 < v.settle, saturated := false, data := v.clamped.bytes }) := by
  obtain ⟨b, byte, read⟩ := zoneGroup1_eq group
  have payload : num1 z ++ v.bytes = [BitVec.ofNat 8 z, if v.enabled then 1 else 0, b, BitVec.ofNat 8 v.settle,
      BitVec.ofNat 8 v.polarity.code, BitVec.ofNat 8 v.edge.code, if v.autoRemove then 1 else 0,
      if v.noticeEnable then 1 else 0] := by simp only [ZoneSettings.bytes, byte]; rfl
  have first : get1 (num1 z ++ v.bytes) 0 = z := get1_num1 (by omega) _
  have third : get1 (num1 z ++ v.bytes) 3 = v.settle := by rw [payload]; exact toNat_byte settle
  have code : zoneGroupOfCode (get1 (num1 z ++ v.bytes) 2) = some v.group := by rw [payload]; exact read
  have settings : zoneSettingsOf (num1 z ++ v.bytes) = some { v with group := none, settle := min v.settle 127 } := by
    unfold zoneSettingsOf
    rw [third, payload]
    simp only [get1_cons_zero, get1_cons_succ, boolOfCode_flag, toNat_byte v.polarity.code_lt, toNat_byte v.edge.code_lt,
      Polarity.ofCode_code, NoticeEdge.ofCode_code]
  have length : (num1 z ++ v.bytes).length = 8 := by rw [payload]; rfl
  unfold serveSetZone
  rw [if_neg (not_not.2 length), settings]
  dsimp only
  rw [first, third, if_neg (by omega), code]
  rfl

theorem serveSetZone_refuses {p : List Byte} {s : State} {x : Status}
    (h : firstFailing [
      (p.length ≠ 8, .badRequest),
      (2 ≤ get1 p 1 || 2 ≤ get1 p 4 || 4 ≤ get1 p 5 || 2 ≤ get1 p 6 || 2 ≤ get1 p 7, .badRequest),
      (8 ≤ get1 p 0, .noSuch),
      (4 ≤ get1 p 2 && decide (get1 p 2 ≠ 255), .outOfRange) ] = some x) :
    serveSetZone p s = refuse s x := by
  simp only [firstFailing_cons, firstFailing_nil, decide_eq_true_eq, Bool.or_eq_true, Bool.and_eq_true, or_assoc,
    ← zoneSettingsOf_eq_none_iff, ← zoneGroupOfCode_eq_none_iff] at h
  unfold serveSetZone
  split at h
  · cases h; rw [if_pos ‹_›]
  rw [if_neg ‹_›]
  split at h
  · rename_i undefined; cases h; rw [undefined]
  rename_i defined
  obtain ⟨v, settings⟩ := Option.ne_none_iff_exists'.1 defined
  simp only [settings]
  split at h
  · cases h; rw [if_pos ‹_›]
  rw [if_neg ‹_›]
  split at h
  · rename_i undefined; cases h; rw [undefined]
  · cases h

/-! ### SET GROUP (R109) -/

/-- The settings that SET GROUP makes pending, of those that its payload names (R109). -/
def GroupSettings.clamped (v : GroupSettings) : GroupSettings :=
  { v with guard := if v.guard = 0 then 1 else if 8 < v.guard then 8 else v.guard,
           slotCount := if 16 < v.slotCount then 16 else v.slotCount }

theorem GroupSettings.clamped_guard (v : GroupSettings) : v.clamped.guard = max 1 (min v.guard 8) := by
  show (if v.guard = 0 then 1 else if 8 < v.guard then 8 else v.guard) = _
  split_ifs <;> omega

theorem GroupSettings.clamped_slotCount (v : GroupSettings) : v.clamped.slotCount = min v.slotCount 16 := by
  show (if 16 < v.slotCount then 16 else v.slotCount) = _
  split_ifs <;> omega

/-- Only G and A can be clamped. -/
theorem GroupSettings.clamped_ne_iff (v : GroupSettings) :
    v.clamped ≠ v ↔ v.clamped.guard ≠ v.guard ∨ v.clamped.slotCount ≠ v.slotCount := by
  rw [← not_and_or, not_iff_not]
  refine ⟨fun same => ⟨congrArg guard same, congrArg slotCount same⟩, fun ⟨same, same'⟩ => ?_⟩
  cases v
  simp only [clamped] at same same' ⊢
  rw [same, same']

theorem serveSetGroup_accepts (s : State) {g : Nat} {v : GroupSettings} (number : g < 4)
    (depth : v.depth = 1 ∨ v.depth = 2 ∨ v.depth = 4 ∨ v.depth = 8) (guard : v.guard < 256) (count : v.slotCount < 256) :
    serveSetGroup (num1 g ++ v.bytes) s =
      (s.setGroup g { s.group g with pending := v.clamped, pendingFlag := true },
        { status := .ok, clamped := v.clamped ≠ v, saturated := false, data := v.clamped.bytes }) := by
  have payload : num1 g ++ v.bytes = [BitVec.ofNat 8 g, BitVec.ofNat 8 v.depth, BitVec.ofNat 8 v.order.code,
      BitVec.ofNat 8 v.guard, BitVec.ofNat 8 v.slotCount] ++ slots2 v.mask := rfl
  have first : get1 (num1 g ++ v.bytes) 0 = g := get1_num1 (by omega) _
  have second : get1 (num1 g ++ v.bytes) 1 = v.depth := by rw [payload]; exact toNat_byte (by omega)
  have third : get1 (num1 g ++ v.bytes) 2 = v.order.code := by rw [payload]; exact toNat_byte v.order.code_lt
  have fourth : get1 (num1 g ++ v.bytes) 3 = v.guard := by rw [payload]; exact toNat_byte guard
  have fifth : get1 (num1 g ++ v.bytes) 4 = v.slotCount := by rw [payload]; exact toNat_byte count
  have mask : BitVec.ofNat 16 (get2 (num1 g ++ v.bytes) 5) = v.mask := by
    have last : get2 (slots2 v.mask) 0 = v.mask.toNat := get2_num2_self v.mask.isLt
    rw [payload]
    exact (congrArg (BitVec.ofNat 16) last).trans ((BitVec.ofNat_toNat ..).trans (BitVec.setWidth_eq _))
  have settings : { v with guard := max 1 (min v.guard 8), slotCount := min v.slotCount 16 } = v.clamped := by
    rw [← v.clamped_guard, ← v.clamped_slotCount]
    rfl
  have flag : (decide (max 1 (min v.guard 8) ≠ v.guard) || decide (min v.slotCount 16 ≠ v.slotCount)) =
      decide (v.clamped ≠ v) := by
    rw [← Bool.decide_or, decide_eq_decide, v.clamped_ne_iff, v.clamped_guard, v.clamped_slotCount]
  have length : (num1 g ++ v.bytes).length = 7 := rfl
  unfold serveSetGroup
  rw [if_neg (not_not.2 length), third, OrderMode.ofCode_code]
  dsimp only
  rw [first, second, fourth, fifth, mask, if_neg (by omega), if_neg (by simp [depthDefined_iff.2 depth])]
  simp only [settings, flag]

theorem serveSetGroup_refuses {p : List Byte} {s : State} {x : Status}
    (h : firstFailing [
      (p.length ≠ 7, .badRequest),
      (2 ≤ get1 p 2, .badRequest),
      (4 ≤ get1 p 0, .noSuch),
      (!decide (get1 p 1 ∈ [1, 2, 4, 8]), .outOfRange) ] = some x) :
    serveSetGroup p s = refuse s x := by
  have depth : decide (get1 p 1 ∈ [1, 2, 4, 8]) = depthDefined (get1 p 1) := by
    rw [Bool.eq_iff_iff, depthDefined_iff, decide_eq_true_eq]; simp
  simp only [firstFailing_cons, firstFailing_nil, decide_eq_true_eq, depth, Bool.not_eq_true',
    ← OrderMode.ofCode_eq_none_iff] at h
  unfold serveSetGroup
  split at h
  · cases h; rw [if_pos ‹_›]
  rw [if_neg ‹_›]
  split at h
  · rename_i undefined; cases h; rw [undefined]
  rename_i defined
  obtain ⟨order, code⟩ := Option.ne_none_iff_exists'.1 defined
  simp only [code]
  split at h
  · cases h; rw [if_pos ‹_›]
  rw [if_neg ‹_›]
  split at h
  · cases h; rw [if_pos ‹_›]
  · cases h

/-! ### CLEAR ZONE FLAGS (R116) -/

theorem serveClearZoneFlags_accepts (s : State) {z : Nat} (number : z < 8) (flags : Byte) :
    serveClearZoneFlags (num1 z ++ [flags]) s =
      (s.setZone z { s.zone z with flags := (s.zone z).flags &&& ~~~(flags.setWidth 3) },
        .accept (flags1 (s.zone z).flags ++ flags1 ((s.zone z).flags &&& ~~~(flags.setWidth 3)))) := by
  have first : get1 (num1 z ++ [flags]) 0 = z := get1_num1 (by omega) _
  have length : (num1 z ++ [flags]).length = 2 := rfl
  unfold serveClearZoneFlags
  rw [if_neg (not_not.2 length), first, if_neg (by omega)]
  rfl

theorem serveClearZoneFlags_refuses {p : List Byte} {s : State} {x : Status}
    (h : firstFailing [(p.length ≠ 2, .badRequest), (8 ≤ get1 p 0, .noSuch)] = some x) :
    serveClearZoneFlags p s = refuse s x := by
  simp only [firstFailing_cons, firstFailing_nil, decide_eq_true_eq] at h
  unfold serveClearZoneFlags
  split at h
  · cases h; rw [if_pos ‹_›]
  rw [if_neg ‹_›]
  split at h
  · cases h; rw [if_pos ‹_›]
  · cases h

/-- CLEAR ZONE FLAGS of a zone (R116). -/
theorem exec_clearZoneFlags {s : State} {tag flags : Byte} {z : Nat} (number : z < 8)
    (ready : s.ready { kind := 0x52, tag := tag, payload := num1 z ++ [flags] }) :
    ∃ t : State, exec (.clearZoneFlags tag (num1 z ++ [flags])) s = .next t ∧
      t = (s.withZon { s.zon with zones := t.zon.zones }).withLnk t.lnk ∧
      t.lnk = s.lnk.answered { kind := 0x52, tag := tag, payload := num1 z ++ [flags] }
        (.accept (flags1 (s.zone z).flags ++ flags1 ((s.zone z).flags &&& ~~~(flags.setWidth 3)))) ∧
      ∀ y, t.zone y =
        if y = z then { s.zone y with flags := (s.zone z).flags &&& ~~~(flags.setWidth 3) } else s.zone y := by
  have served := serveClearZoneFlags_accepts s.taken number flags
  refine ⟨_, exec_of_served (serve := serveClearZoneFlags) rfl ready served, rfl, answered_lnk rfl _ _, fun y => ?_⟩
  refine (s.taken.zone_setZone z y _).trans ?_
  split
  · subst y; rfl
  · rfl

/-- Settles O39: an accepted request writes its field of one zone or group; a refused one fails a check. -/
theorem zoneRequestsWriteTheirFields : Obligations.ZoneRequestsWriteTheirFields := by
  unfold Obligations.ZoneRequestsWriteTheirFields
  refine ⟨fun s tag => ⟨?setZone, ?setGroup⟩, ?clear,
    fun s tag p x => ⟨fun ready h => ?_, fun ready h => ?_, fun ready h => ?_⟩⟩
  case setZone =>
    intro z v number group settle ready
    have served := serveSetZone_accepts s.taken number group settle
    exact ⟨_, exec_of_served (serve := serveSetZone) rfl ready served, rfl, answered_lnk rfl _ _,
      fun y => (s.taken.zone_setZone z y _).trans (by
        split
        · subst y; rfl
        · rfl)⟩
  case setGroup =>
    rintro g v _ number depth guard count rfl ready
    have served := serveSetGroup_accepts s.taken number depth guard count
    exact ⟨_, exec_of_served (serve := serveSetGroup) rfl ready served, rfl, answered_lnk rfl _ _,
      fun h => (s.taken.group_setGroup g h _).trans (by
        split
        · subst h; rfl
        · rfl)⟩
  case clear =>
    intro s tag flags z number ready
    obtain ⟨t, run, only, lnk, zone⟩ := exec_clearZoneFlags number ready
    have cleared : (t.zone z).flags = (s.zone z).flags &&& ~~~(flags.setWidth 3) := by rw [zone, if_pos rfl]
    refine ⟨t, run, only, cleared ▸ lnk, fun i hi => ?_, cleared ▸ zone⟩
    rw [cleared, BitVec.getLsbD_and, BitVec.getLsbD_not, BitVec.getLsbD_setWidth]
    simp [hi]
  · exact refuses_of_served (serve := serveSetZone) rfl ready (serveSetZone_refuses h)
  · exact refuses_of_served (serve := serveSetGroup) rfl ready (serveSetGroup_refuses h)
  · exact refuses_of_served (serve := serveClearZoneFlags) rfl ready (serveClearZoneFlags_refuses h)

end Sys2Proof.Machine
end

section
/-! PROOFS. An edge of a site alarm (R106, R107, R115; log 25). -/

namespace Sys2Proof.Machine

namespace Zone

variable (z : Zone)

/-- The zone with its input at a level and the alarm state `a`: a zone that goes ACTIVE is unkeyed (R106, R107). -/
def levelled (high : Bool) (a : Alarm) : Zone :=
  { z with
    input := high, alarm := a,
    keyed := if a = .active then false else z.keyed,
    port := if a = .active then none else z.port }

theorem takeAlarm_input (high : Bool) (a : Alarm) : ({ z with input := high } : Zone).takeAlarm a = z.levelled high a := by
  cases a with
  | active => rfl
  | inactive => rfl

/-- The zone after an alarm edge to `a` (R106, R107, R115). -/
def edged (high : Bool) (a : Alarm) (hit : Bool) : Zone :=
  { z.levelled high a with flags := if hit then z.flags ||| 1 else z.flags }

theorem levelled_flagged (high : Bool) (a : Alarm) (hit : Bool) :
    { z.levelled high a with flags := (z.levelled high a).flags ||| if hit then alarmChange else 0 } = z.edged high a hit := by
  cases hit with
  | true => rfl
  | false => simp [edged, levelled]

end Zone

namespace State

variable {s : State} {n : Nat} {z : Zone} {e added : BitVec 3}

/-- A zone written with a new flag, where notices are enabled (R115). -/
theorem flagZone_of_new (new : addedFlags z.flags e = added) (nonzero : added ≠ 0) (enabled : z.settings.noticeEnable = true) :
    s.flagZone n z e = (s.setZone n { z with flags := z.flags ||| e }).notice 0x83
      (zoneNoticeFields n added { z with flags := z.flags ||| e } s.clk.serial) := by
  subst new
  exact if_pos ⟨nonzero, enabled⟩

/-- A zone written with no new flag, or with no notice to raise (R115). -/
theorem flagZone_of_quiet (quiet : addedFlags z.flags e = 0 ∨ z.settings.noticeEnable = false) :
    s.flagZone n z e = s.setZone n { z with flags := z.flags ||| e } := by
  refine if_neg fun ⟨new, enabled⟩ => ?_
  obtain none | disabled := quiet
  · exact new none
  · exact Bool.noConfusion (disabled.symm.trans enabled)

theorem followAlarm_of_still (still : alarmOf z.settings.polarity z.input = z.alarm) : s.followAlarm n z = s.setZone n z :=
  if_pos still

/-- An input whose level gives a new alarm state is an alarm edge (R106). -/
theorem followAlarm_of_edge {high : Bool} {a : Alarm} (alarm : alarmOf z.settings.polarity high = a) (edge : a ≠ z.alarm) :
    s.followAlarm n { z with input := high } =
      s.flagZone n (z.levelled high a) (if z.settings.edge.hits a then alarmChange else 0) := by
  subst alarm
  rw [← Zone.takeAlarm_input]
  exact if_neg edge

end State

/-- The level of an input against the polarity gives the alarm state (R106). -/
theorem alarmOf_level (p : Polarity) (high : Bool) :
    alarmOf p high = if high = (p = .normal) then .active else .inactive := by
  rw [Zone.alarmOf_eq]
  cases p <;> cases high <;> rfl

theorem addedFlags_alarm (f : BitVec 3) (hit : Bool) :
    addedFlags f (if hit then alarmChange else 0) = if hit && !f.getLsbD 0 then 1 else 0 := by
  cases hit with
  | false => exact BitVec.zero_and
  | true =>
    refine (Zone.addedFlags_alarmChange f).trans ?_
    cases f.getLsbD 0 <;> rfl

/-- Settles O40: the input's level gives the alarm state; where it is no new one the zone is written with its input alone, and
else as after an edge, with the notice of a new flag. -/
theorem alarmEdgeUnkeysAndFlags : Obligations.AlarmEdgeUnkeysAndFlags := by
  unfold Obligations.AlarmEdgeUnkeysAndFlags
  intro s z high a hit after ha hhit hafter
  have alarm : alarmOf (s.zone z.val).settings.polarity high = a := (alarmOf_level ..).trans ha.symm
  have hits : (s.zone z.val).settings.edge.hits a = hit := by
    rw [hhit]
    cases (s.zone z.val).settings.edge <;> rfl
  have run : exec (.alarmEdge z high) s =
      .next (s.followAlarm z.val { s.zone z.val with input := high }).lineChoice := rfl
  refine ⟨fun still => ?still, fun change => ?change⟩
  case still => rw [run, State.followAlarm_of_still (alarm.trans still)]
  case change =>
    obtain rfl : (s.zone z.val).edged high a hit = after := hafter.symm
    have added := addedFlags_alarm (s.zone z.val).flags hit
    have flagged := (s.zone z.val).levelled_flagged high a hit
    rw [run, State.followAlarm_of_edge alarm change, hits]
    refine ⟨fun raised new enabled => ?new, fun quiet => ?quiet⟩
    case new =>
      rw [raised, new] at added
      rw [raised] at flagged ⊢
      rw [State.flagZone_of_new (z := (s.zone z.val).levelled high a) added (by decide) enabled, flagged]
      rfl
    case quiet =>
      have quiet : addedFlags (s.zone z.val).flags (if hit then alarmChange else 0) = 0 ∨
          (s.zone z.val).settings.noticeEnable = false := by
        obtain miss | old | disabled := quiet
        · exact .inl (by rw [added, miss]; rfl)
        · exact .inl (by rw [added, old, Bool.not_true, Bool.and_false]; rfl)
        · exact .inr disabled
      rw [State.flagZone_of_quiet (z := (s.zone z.val).levelled high a) quiet, flagged]

end Sys2Proof.Machine
end

section
/-! PROOFS. The word-times of a frame: events of every zone that write zones and raise notices, and the words offered (R113, R135;
logs 2, 3, 8, 24). -/

namespace Sys2Proof.Machine

namespace State

variable {s t u : State} {n k : Nat}

/-! ### Events that write zones and raise notices, and nothing else -/

/-- Between two states zones were written and notices raised. -/
def ZonesWritten (s t : State) : Prop := t = (s.withZon { s.zon with zones := t.zon.zones }).withLnk t.lnk

namespace ZonesWritten

theorem refl (s : State) : s.ZonesWritten s := rfl

theorem trans (h : s.ZonesWritten t) (g : t.ZonesWritten u) : s.ZonesWritten u := by
  rw [ZonesWritten] at h g
  rw [h] at g
  exact g

theorem setZone (s : State) (n : Nat) (z : Zone) : s.ZonesWritten (s.setZone n z) := rfl

theorem flagZone (s : State) (n : Nat) (z : Zone) (e : BitVec 3) : s.ZonesWritten (s.flagZone n z e) := by
  unfold State.flagZone
  dsimp only
  split
  · exact rfl
  · exact rfl

theorem eq (h : s.ZonesWritten t) : t = (s.withZon { s.zon with zones := t.zon.zones }).withLnk t.lnk := h

theorem clk (h : s.ZonesWritten t) : t.clk = s.clk := by rw [h.eq]; rfl

theorem group (h : s.ZonesWritten t) (g : Nat) : t.group g = s.group g := by rw [h.eq]; rfl

theorem images (h : s.ZonesWritten t) (g : Nat) : t.images g = s.images g := by rw [h.eq]; rfl

theorem planGroup (h : s.ZonesWritten t) (z : Nat) : t.planGroup z = s.planGroup z := by rw [h.eq]; rfl

theorem zonePlan (h : s.ZonesWritten t) (z : Nat) : t.zonePlan z = s.zonePlan z := by rw [h.eq]; rfl

/-- The line's choice after such an event (R187). -/
theorem withLnk (h : s.ZonesWritten t) (l : Link) :
    t.withLnk l = (s.withZon { s.zon with zones := t.zon.zones }).withLnk l := by
  calc t.withLnk l = ((s.withZon { s.zon with zones := t.zon.zones }).withLnk t.lnk).withLnk l :=
        congrArg (State.withLnk · l) h.eq
    _ = _ := rfl

end ZonesWritten

/-- Events of zones one after another, each of which turns its own zone as it would from the state before them all: the zones
are turned, and the notices come in the order of the zones. -/
theorem turns_foldl_of_written {f : State → Nat → State} {F : Nat → Zone} {R : Nat → List (Byte × List Byte)} {s : State}
    (writes : ∀ (t : State) (n : Nat), t.ZonesWritten (f t n))
    (each : ∀ (t : State) (n : Nat), s.ZonesWritten t → t.zone n = s.zone n → t.Turns (f t n) n (F n) (R n))
    {l : List Nat} (nodup : l.Nodup) {t : State} (written : s.ZonesWritten t) (fresh : ∀ n ∈ l, t.zone n = s.zone n) :
    s.ZonesWritten (l.foldl f t) ∧ (∀ k, (l.foldl f t).zone k = if k ∈ l then F k else t.zone k) ∧
    (l.foldl f t).lnk = t.lnk.raise (l.flatMap R) := by
  induction l generalizing t with
  | nil => exact ⟨written, fun k => (if_neg (List.not_mem_nil)).symm, rfl⟩
  | cons n l ih =>
    obtain ⟨new, rest⟩ := List.nodup_cons.1 nodup
    have turned := each t n written (fresh n (List.mem_cons_self ..))
    have still (m : Nat) (listed : m ∈ l) : (f t n).zone m = s.zone m := by
      rw [turned.zone, if_neg fun same : m = n => new (same ▸ listed)]
      exact fresh m (List.mem_cons_of_mem n listed)
    obtain ⟨written', zones, lnk⟩ := ih rest (written.trans (writes t n)) still
    refine ⟨written', fun k => (zones k).trans ?_, ?_⟩
    · rw [turned.zone]
      by_cases here : k = n
      · subst k; simp [new]
      · simp [here]
    · exact lnk.trans (by rw [turned.lnk, List.flatMap_cons, Link.raise_append])

/-- A word-time that the frame does not come to (logs 2, 3). -/
theorem atMoment_of_wordTime {s : State} {k : Nat} (hk : k < 500) (never : ¬s.reaches (100 * k)) :
    s.atMoment (Config.wordTicks * k) = none :=
  atMoment_of_not_reaches (by rw [Config.wordTicks]; omega) never

/-! ### Words offered (R135) -/

/-- At word-time `k` zone `n` offers a word of image `i` of its group, whose plan is `p` (R113, R135). -/
structure Offers (s : State) (k n : Nat) (p : Plan) (i : Image) : Prop where
  image : ∃ g, s.planGroup n = some g ∧ (s.group g).current = some p ∧ (s.images g).current = some i
  keyed : (s.zone n).keyed = true
  after : p.settle ≤ k
  before : k < p.settle + 4 + p.capacity

theorem offerAt_of_offers {p : Plan} {i : Image} (offers : s.Offers k n p i) : offerAt k s n = s.setZone n
    { s.zone n with offered := k - p.settle + 1, port := i.words[i.offeredIndex (k - p.settle)]? } := by
  obtain ⟨⟨g, group, plan, image⟩, keyed, after, before⟩ := offers
  simp only [offerAt, group, plan, image]
  exact if_pos ⟨keyed, after, before⟩

theorem offerAt_of_idle (idle : ∀ p i, ¬s.Offers k n p i) : offerAt k s n = s := by
  unfold offerAt
  split
  · rfl
  · rename_i g group
    split
    · rename_i p i plan image
      exact if_neg fun ⟨keyed, after, before⟩ => idle p i ⟨⟨g, group, plan, image⟩, keyed, after, before⟩
    · rfl

theorem offers_congr (written : s.ZonesWritten t) (same : t.zone n = s.zone n) (p : Plan) (i : Image) :
    t.Offers k n p i ↔ s.Offers k n p i := by
  have image (g : Nat) : (t.planGroup n = some g ∧ (t.group g).current = some p ∧ (t.images g).current = some i) ↔
      (s.planGroup n = some g ∧ (s.group g).current = some p ∧ (s.images g).current = some i) := by
    rw [written.planGroup, written.group, written.images]
  constructor
  · rintro ⟨⟨g, plan⟩, keyed, after, before⟩
    exact ⟨⟨g, (image g).1 plan⟩, same ▸ keyed, after, before⟩
  · rintro ⟨⟨g, plan⟩, keyed, after, before⟩
    exact ⟨⟨g, (image g).2 plan⟩, same.symm ▸ keyed, after, before⟩

theorem offerAt_written (k : Nat) (t : State) (n : Nat) : t.ZonesWritten (offerAt k t n) := by
  by_cases offers : ∃ p i, t.Offers k n p i
  · obtain ⟨p, i, offers⟩ := offers
    rw [offerAt_of_offers offers]
    exact .setZone ..
  · push Not at offers
    rw [offerAt_of_idle offers]
    exact .refl t

theorem turns_offerAt (written : s.ZonesWritten t) (same : t.zone n = s.zone n) :
    t.Turns (offerAt k t n) n ((offerAt k s n).zone n) [] := by
  by_cases offers : ∃ p i, s.Offers k n p i
  · obtain ⟨p, i, offers⟩ := offers
    rw [offerAt_of_offers offers, offerAt_of_offers ((offers_congr written same p i).2 offers), same, zone_setZone_same]
    exact t.turns_setZone n _
  · push Not at offers
    rw [offerAt_of_idle offers, offerAt_of_idle fun p i now => offers p i ((offers_congr written same p i).1 now), ← same]
    exact t.turns_self n

/-- Every zone's offer at a word-time. -/
theorem offers_foldl (k : Nat) (s : State) : s.ZonesWritten (zoneNumbers.foldl (offerAt k) s) ∧
    (∀ z, (zoneNumbers.foldl (offerAt k) s).zone z = if z < 8 then (offerAt k s z).zone z else s.zone z) ∧
    (zoneNumbers.foldl (offerAt k) s).lnk = s.lnk := by
  obtain ⟨written, zones, lnk⟩ := turns_foldl_of_written (F := fun n => (offerAt k s n).zone n) (R := fun _ => [])
    (offerAt_written k) (fun t n written same => turns_offerAt written same) nodup_zoneNumbers (.refl s) fun _ _ => rfl
  exact ⟨written, fun z => (zones z).trans (if_congr (mem_zoneNumbers z) rfl rfl), lnk⟩

/-- A zone that offers no word at a word-time is left as it was. -/
theorem offers_foldl_idle (idle : ∀ p i, ¬s.Offers k n p i) :
    (zoneNumbers.foldl (offerAt k) s).zone n = s.zone n := by
  obtain ⟨-, zones, -⟩ := s.offers_foldl k
  rw [zones, offerAt_of_idle idle, ite_self]

/-- The state that a word-time of the frame finds (R92). -/
def atWord (s : State) (k : Nat) : State := s.withClk { s.clk with position := 100 * k }

theorem exec_wordOffer (hk : k < 500) (reached : s.reaches (100 * k)) :
    exec (.wordOffer k) s = .next (zoneNumbers.foldl (offerAt k) (s.atWord k)).lineChoice := by
  have moment : s.atMoment (Config.wordTicks * k) = some (s.atWord k) := atMoment_of_reaches reached
  show execWordOffer k s = _
  unfold execWordOffer
  rw [if_pos hk, moment]
  rfl

theorem exec_wordOffer_idle (idle : 500 ≤ k ∨ ¬s.reaches (100 * k)) : exec (.wordOffer k) s = .next s.lineChoice := by
  show execWordOffer k s = _
  unfold execWordOffer
  split
  · rename_i hk
    rw [atMoment_of_wordTime hk (idle.resolve_left (Nat.not_le.2 hk))]
    rfl
  · rfl

end State

/-- Settles O41: at a word-time each zone's offer is its own, and writes its port alone. -/
theorem wordOfferDrivesKeyedPorts : Obligations.WordOfferDrivesKeyedPorts := by
  unfold Obligations.WordOfferDrivesKeyedPorts
  refine ⟨fun s k hk reached => ?_, fun s k idle => State.exec_wordOffer_idle idle⟩
  obtain ⟨written, zones, lnk⟩ := (s.atWord k).offers_foldl k
  have idle (z : Nat) (idle : ∀ p i, ¬(s.atWord k).Offers k z p i) :
      (zoneNumbers.foldl (offerAt k) (s.atWord k)).zone z = s.zone z := State.offers_foldl_idle idle
  refine ⟨_, State.exec_wordOffer hk reached, ?frame, ?offers, fun z unkeyed => idle z ?unkeyed,
    fun z none => idle z ?unplanned, fun z g p group plan apart => idle z ?apart⟩
  case frame =>
    rw [State.lineChoice, lnk]
    exact written.withLnk s.lnk.choose
  case offers =>
    intro z hz g p i group plan image keyed after before
    have offers : (s.atWord k).Offers k z p i := ⟨⟨g, group, plan, image⟩, keyed, after, before⟩
    refine (zones z).trans ((if_pos hz).trans ?_)
    rw [State.offerAt_of_offers offers, State.zone_setZone_same]
    rfl
  case unkeyed => exact fun p i offers => Bool.noConfusion (unkeyed.symm.trans offers.keyed)
  case unplanned =>
    rintro p i ⟨⟨g, group, -⟩, -⟩
    cases none.symm.trans group
  case apart =>
    rintro p' i ⟨⟨g', group', plan', image⟩, -, after, before⟩
    cases group.symm.trans group'
    cases plan.symm.trans plan'
    obtain early | late | none := apart
    · omega
    · omega
    · cases none.symm.trans image

end Sys2Proof.Machine
end

section
/-! PROOFS. The words taken, and the judgement at the end of a data field (R113 to R115; logs 2, 3, 8, 25). -/

namespace Sys2Proof.Machine

namespace Zone

variable (z : Zone)

/-- The zone unkeyed and judged on its words taken, of a data field of `c` words past the first four (R114). -/
def judged (c : Nat) : Zone :=
  { z with
    keyed := false, port := none,
    alignFaults := if z.wordsTaken = 4 + c then z.alignFaults else min (z.alignFaults + 1) 65535,
    flags := if z.wordsTaken = 4 + c then z.flags else z.flags ||| 4,
    faulted := if z.wordsTaken ≠ 4 + c ∧ z.settings.autoRemove = true then true else z.faulted }

theorem judged_of_whole {c : Nat} (whole : z.wordsTaken = 4 + c) : z.judged c = z.unkey := by simp [judged, whole, unkey]

theorem judged_of_fault {c : Nat} (short : z.wordsTaken ≠ 4 + c) : z.judged c =
    { z.unkey with alignFaults := satAdd Config.count16Max z.unkey.alignFaults 1,
                   faulted := if z.unkey.settings.autoRemove then true else z.unkey.faulted,
                   flags := z.flags ||| alignFault } := by
  have faulted : (if z.wordsTaken ≠ 4 + c ∧ z.settings.autoRemove = true then true else z.faulted) =
      if z.settings.autoRemove then true else z.faulted := if_congr (and_iff_right short) rfl rfl
  rw [judged, faulted, if_neg short, if_neg short]
  rfl

theorem addedFlags_alignFault : ∀ f : BitVec 3, addedFlags f alignFault = if f.getLsbD 2 then 0 else 4 := by decide

end Zone

/-- The notice of a judgement: of a fault, where its flag is new and notices are enabled (R115; log 25). -/
def judgeNotice (n : Nat) (x : Serial) (z r : Zone) : List (Byte × List Byte) :=
  if !z.flags.getLsbD 2 && r.flags.getLsbD 2 && z.settings.noticeEnable then [zoneNotice n 4 (z.flags ||| 4) r x] else []

theorem judgeNotice_self (n : Nat) (x : Serial) (z : Zone) : judgeNotice n x z z = [] :=
  if_neg (by simp)

/-- A fault raises the notice of its flag. -/
theorem raised_judged (n : Nat) (x : Serial) (z : Zone) {c : Nat} (short : z.wordsTaken ≠ 4 + c) :
    Zone.raised n x z.flags alignFault (z.judged c) = judgeNotice n x z (z.judged c) := by
  have flags : (z.judged c).flags = z.flags ||| 4 := if_neg short
  have fault : ∀ f : BitVec 3, (f ||| 4).getLsbD 2 = true := by decide
  have settings : (z.judged c).settings = z.settings := rfl
  rw [Zone.raised, judgeNotice, Zone.addedFlags_alignFault, flags, fault, settings, Bool.and_true]
  cases z.flags.getLsbD 2 with
  | true => simp
  | false =>
    cases z.settings.noticeEnable with
    | false => simp
    | true => simp [zoneNotice, zoneNoticeFields, flags]

namespace State

variable {s t u : State} {n k : Nat} {p : Plan}

theorem turns_judge (s : State) (n : Nat) (p : Plan) : s.Turns (s.judge n p) n ((s.zone n).judged p.capacity)
    (judgeNotice n s.clk.serial (s.zone n) ((s.zone n).judged p.capacity)) := by
  unfold judge
  dsimp only
  split
  · rename_i whole
    have same : ((s.zone n).judged p.capacity).flags = (s.zone n).flags := by 
      rw [Zone.judged_of_whole (s.zone n) whole]; rfl
    have quiet : judgeNotice n s.clk.serial (s.zone n) ((s.zone n).judged p.capacity) = [] := by
      rw [judgeNotice, same]
      exact if_neg (by simp)
    rw [quiet, Zone.judged_of_whole (s.zone n) whole]
    exact s.turns_setZone n _
  · rename_i short
    rw [← raised_judged n s.clk.serial (s.zone n) short, Zone.judged_of_fault (s.zone n) short]
    exact s.turns_flagZone n _ alignFault

/-! ### Judgements of every zone (R114) -/

/-- At word-time `k` the data field of zone `n`, still keyed, ends in its plan `p` (R114). -/
structure FieldEnds (s : State) (k n : Nat) (p : Plan) : Prop where
  plan : s.zonePlan n = some p
  keyed : (s.zone n).keyed = true
  ends : p.settle + 4 + p.capacity = k

theorem judgeAt_of_ends (ends : s.FieldEnds k n p) : judgeAt k s n = s.judge n p := by
  obtain ⟨plan, keyed, ends⟩ := ends
  simp only [judgeAt, plan]
  exact if_pos ⟨keyed, ends⟩

theorem judgeAt_of_idle (idle : ∀ p, ¬s.FieldEnds k n p) : judgeAt k s n = s := by
  unfold judgeAt
  split
  · rename_i p plan
    exact if_neg fun ⟨keyed, ends⟩ => idle p ⟨plan, keyed, ends⟩
  · rfl

theorem fieldEnds_congr (written : s.ZonesWritten t) (same : t.zone n = s.zone n) (p : Plan) :
    t.FieldEnds k n p ↔ s.FieldEnds k n p := by
  constructor
  · rintro ⟨plan, keyed, ends⟩
    exact ⟨written.zonePlan n ▸ plan, same ▸ keyed, ends⟩
  · rintro ⟨plan, keyed, ends⟩
    exact ⟨(written.zonePlan n).trans plan, same.symm ▸ keyed, ends⟩

theorem judge_written (s : State) (n : Nat) (p : Plan) : s.ZonesWritten (s.judge n p) := by
  unfold judge
  dsimp only
  split
  · exact .setZone ..
  · exact .flagZone ..

theorem judgeAt_written (k : Nat) (t : State) (n : Nat) : t.ZonesWritten (judgeAt k t n) := by
  by_cases ends : ∃ p, t.FieldEnds k n p
  · obtain ⟨p, ends⟩ := ends
    rw [judgeAt_of_ends ends]
    exact t.judge_written n p
  · push Not at ends
    rw [judgeAt_of_idle ends]
    exact .refl t

theorem turns_judgeAt (written : s.ZonesWritten t) (same : t.zone n = s.zone n) :
    t.Turns (judgeAt k t n) n ((judgeAt k s n).zone n)
      (judgeNotice n s.clk.serial (s.zone n) ((judgeAt k s n).zone n)) := by
  by_cases ends : ∃ p, s.FieldEnds k n p
  · obtain ⟨p, ends⟩ := ends
    have after := ((s.turns_judge n p).zone n).trans (if_pos rfl)
    rw [judgeAt_of_ends ends, judgeAt_of_ends ((fieldEnds_congr written same p).2 ends), after, ← same, ← written.clk]
    exact t.turns_judge n p
  · push Not at ends
    rw [judgeAt_of_idle ends, judgeAt_of_idle fun p now => ends p ((fieldEnds_congr written same p).1 now), judgeNotice_self,
      ← same]
    exact t.turns_self n

/-- Every zone's judgement at a word-time. -/
theorem judge_foldl (k : Nat) (s : State) : s.ZonesWritten (zoneNumbers.foldl (judgeAt k) s) ∧
    (∀ z, (zoneNumbers.foldl (judgeAt k) s).zone z = if z < 8 then (judgeAt k s z).zone z else s.zone z) ∧
    (zoneNumbers.foldl (judgeAt k) s).lnk =
      s.lnk.raise (zoneNumbers.flatMap fun n => judgeNotice n s.clk.serial (s.zone n) ((judgeAt k s n).zone n)) := by
  obtain ⟨written, zones, lnk⟩ := turns_foldl_of_written (F := fun n => (judgeAt k s n).zone n)
    (judgeAt_written k) (fun t n written same => turns_judgeAt written same) nodup_zoneNumbers (.refl s) fun _ _ => rfl
  exact ⟨written, fun z => (zones z).trans (if_congr (mem_zoneNumbers z) rfl rfl), lnk⟩

/-- A zone with no judgement at a word-time is left as it was. -/
theorem judge_foldl_idle (idle : ∀ p, ¬s.FieldEnds k n p) : (zoneNumbers.foldl (judgeAt k) s).zone n = s.zone n := by
  obtain ⟨-, zones, -⟩ := s.judge_foldl k
  rw [zones, judgeAt_of_idle idle, ite_self]

theorem exec_dataFieldEnd (hk : k < 500) (reached : s.reaches (100 * k)) :
    exec (.dataFieldEnd k) s = .next (zoneNumbers.foldl (judgeAt k) (s.atWord k)).lineChoice := by
  have moment : s.atMoment (Config.wordTicks * k) = some (s.atWord k) := atMoment_of_reaches reached
  show execDataFieldEnd k s = _
  unfold execDataFieldEnd
  rw [if_pos hk, moment]
  rfl

theorem exec_dataFieldEnd_idle (idle : 500 ≤ k ∨ ¬s.reaches (100 * k)) : exec (.dataFieldEnd k) s = .next s.lineChoice := by
  show execDataFieldEnd k s = _
  unfold execDataFieldEnd
  split
  · rename_i hk
    rw [atMoment_of_wordTime hk (idle.resolve_left (Nat.not_le.2 hk))]
    rfl
  · rfl

end State

/-- A site's word is counted where the zone is keyed and an offered word remains (R113; logs 2, 8). -/
theorem exec_wordTaken_counted {s : State} {z : Fin 8} (keyed : (s.zone z.val).keyed = true)
    (offered : (s.zone z.val).wordsTaken < (s.zone z.val).offered) : exec (.wordTaken z) s =
      .next (s.setZone z.val { s.zone z.val with wordsTaken := (s.zone z.val).wordsTaken + 1 }).lineChoice :=
  if_pos ⟨keyed, offered⟩

theorem exec_wordTaken_idle {s : State} {z : Fin 8}
    (idle : (s.zone z.val).keyed = false ∨ (s.zone z.val).offered ≤ (s.zone z.val).wordsTaken) :
    exec (.wordTaken z) s = .next s.lineChoice := by
  refine if_neg fun ⟨keyed, offered⟩ => ?_
  obtain unkeyed | none := idle
  · exact Bool.noConfusion (unkeyed.symm.trans keyed)
  · omega

/-- A filtered list of single notices, notice by notice. -/
theorem map_filter_eq_flatMap {α β : Type} (p : α → Bool) (m : α → β) (l : List α) :
    (l.filter p).map m = l.flatMap fun a => if p a then [m a] else [] := by
  induction l with
  | nil => rfl
  | cons a l ih => cases h : p a <;> simp [h, ih]

/-- Settles O43: a word is counted by one event of its zone; at a word-time each zone's judgement is its own, and raises its
notice in its turn. -/
theorem wordsTakenAreCountedAndJudged : Obligations.WordsTakenAreCountedAndJudged := by
  unfold Obligations.WordsTakenAreCountedAndJudged
  refine ⟨fun s z => ⟨exec_wordTaken_counted, exec_wordTaken_idle⟩, fun s k hk reached => ?_,
    fun s k idle => State.exec_dataFieldEnd_idle idle⟩
  obtain ⟨written, zones, lnk⟩ := (s.atWord k).judge_foldl k
  have idle (z : Nat) (idle : ∀ p, ¬(s.atWord k).FieldEnds k z p) :
      (zoneNumbers.foldl (judgeAt k) (s.atWord k)).zone z = s.zone z := State.judge_foldl_idle idle
  refine ⟨_, State.exec_dataFieldEnd hk reached, written.withLnk _, ?judged, fun z unkeyed => idle z ?unkeyed,
    fun z p plan apart => idle z ?apart, fun z none => idle z ?unplanned, ?notices⟩
  case judged =>
    intro z hz p plan keyed ends
    have ends : (s.atWord k).FieldEnds k z p := ⟨plan, keyed, ends⟩
    refine (zones z).trans ((if_pos hz).trans ?_)
    rw [State.judgeAt_of_ends ends]
    exact (((s.atWord k).turns_judge z p).zone z).trans (if_pos rfl)
  case unkeyed => exact fun p ends => Bool.noConfusion (unkeyed.symm.trans ends.keyed)
  case apart =>
    rintro p' ⟨plan', -, ends⟩
    cases plan.symm.trans plan'
    exact apart ends
  case unplanned =>
    rintro p ⟨plan, -⟩
    cases none.symm.trans plan
  case notices =>
    rw [map_filter_eq_flatMap, State.lineChoice_lnk, lnk]
    refine congrArg (fun l => (s.lnk.raise l).choose) (List.flatMap_congr fun z listed => ?_)
    have after := (zones z).trans (if_pos ((mem_zoneNumbers z).1 listed))
    rw [← after]
    rfl

end Sys2Proof.Machine
end

section
/-! PROOFS. The order in which the words of an image are offered (R135). -/

namespace Sys2Proof.Machine

namespace Image

variable {i : Image} {k n o : Nat}

/-- The logical offset that a block of the image sends at offset `o` (R135). -/
def logicalOffset (i : Image) (o : Nat) : Nat :=
  match i.order with
  | .sequential => (frameNumber i.serial % i.depth + o) % i.depth
  | .interleaved => frameNumber i.serial % i.depth ^^^ o

/-- A block sends its own offsets: the exclusive or keeps below a power of two. -/
theorem logicalOffset_lt (power : i.depth = 2 ^ n) (inBlock : o < i.depth) : i.logicalOffset o < i.depth := by
  have rotation : frameNumber i.serial % i.depth < i.depth := Nat.mod_lt _ (Nat.zero_lt_of_lt inBlock)
  unfold logicalOffset
  split
  · exact Nat.mod_lt _ (Nat.zero_lt_of_lt inBlock)
  · rw [power] at inBlock rotation ⊢
    exact Nat.xor_lt_two_pow rotation inBlock

/-- A rotation cancels modulo the block length, and an exclusive or cancels outright. -/
theorem logicalOffset_injOn (i : Image) : Set.InjOn i.logicalOffset (Set.Iio i.depth) := by
  intro a ha b hb same
  unfold logicalOffset at same
  split at same
  · exact (Nat.ModEq.add_left_cancel' _ same).eq_of_lt_of_lt ha hb
  · exact Nat.xor_right_injective same

/-- The indices of the message field (R135). -/
def InField (i : Image) (k : Nat) : Prop := 4 + i.p ≤ k ∧ k < 4 + i.used

/-- The header, the address words and the trailing fill keep their places. -/
theorem offeredIndex_outside (outside : ¬i.InField k) : i.offeredIndex k = k := by
  unfold InField used at outside
  exact if_pos (by omega)

/-- An index of the message field stays in its block, and its offset is the logical one. -/
theorem offeredIndex_inside (inside : i.InField k) : i.offeredIndex k =
    4 + i.p + (i.depth * ((k - (4 + i.p)) / i.depth) + i.logicalOffset ((k - (4 + i.p)) % i.depth)) := by
  obtain ⟨start, stop⟩ := inside
  unfold used at stop
  have parts := Nat.div_add_mod (k - (4 + i.p)) i.depth
  have field : i.offeredIndex k =
      k - (k - (4 + i.p)) % i.depth + i.logicalOffset ((k - (4 + i.p)) % i.depth) := if_neg (by omega)
  omega

/-- The field is whole blocks, so the index sent is an index of the field, in the same block. -/
theorem offeredIndex_in_block (power : i.depth = 2 ^ n) (inside : i.InField k) : i.InField (i.offeredIndex k) ∧
    (i.offeredIndex k - (4 + i.p)) / i.depth = (k - (4 + i.p)) / i.depth ∧
    (i.offeredIndex k - (4 + i.p)) % i.depth = i.logicalOffset ((k - (4 + i.p)) % i.depth) := by
  have positive : 0 < i.depth := power ▸ Nat.two_pow_pos n
  have offset := logicalOffset_lt power (Nat.mod_lt (k - (4 + i.p)) positive)
  have block : (i.offeredIndex k - (4 + i.p)) / i.depth = (k - (4 + i.p)) / i.depth := by
    rw [offeredIndex_inside inside, Nat.add_sub_cancel_left, Nat.mul_add_div positive,
      Nat.div_eq_of_lt offset, Nat.add_zero]
  refine ⟨?field, block, ?offset⟩
  case field =>
    obtain ⟨start, stop⟩ := inside
    have before : (k - (4 + i.p)) / i.depth < (i.m + i.depth - 1) / i.depth :=
      (Nat.div_lt_iff_lt_mul positive).2 (show _ < i.padded by unfold used at stop; omega)
    have after : i.offeredIndex k - (4 + i.p) < i.padded := (Nat.div_lt_iff_lt_mul positive).1 (block ▸ before)
    have sent := offeredIndex_inside ⟨start, stop⟩
    unfold InField used
    omega
  case offset =>
    rw [offeredIndex_inside inside, Nat.add_sub_cancel_left, Nat.mul_add_mod, Nat.mod_eq_of_lt offset]

theorem inField_offeredIndex_iff (power : i.depth = 2 ^ n) : i.InField (i.offeredIndex k) ↔ i.InField k := by
  by_cases inside : i.InField k
  · exact iff_of_true (offeredIndex_in_block power inside).1 inside
  · rw [offeredIndex_outside inside]

/-- Indices sent to one place are both in the field or both outside it; in the field they share block and offset. -/
theorem offeredIndex_injective (power : i.depth = 2 ^ n) : Function.Injective i.offeredIndex := by
  intro a b same
  have side : i.InField a ↔ i.InField b := by
    rw [← inField_offeredIndex_iff power, same, inField_offeredIndex_iff power]
  by_cases inside : i.InField a
  · have positive : 0 < i.depth := power ▸ Nat.two_pow_pos n
    obtain ⟨-, blockA, offsetA⟩ := offeredIndex_in_block power inside
    obtain ⟨-, blockB, offsetB⟩ := offeredIndex_in_block power (side.1 inside)
    rw [same] at blockA offsetA
    have offsets := i.logicalOffset_injOn (Nat.mod_lt _ positive) (Nat.mod_lt _ positive) (offsetA.symm.trans offsetB)
    have places : a - (4 + i.p) = b - (4 + i.p) := by
      rw [← Nat.div_add_mod (a - (4 + i.p)) i.depth, ← blockA, blockB, offsets, Nat.div_add_mod]
    have startA := inside.1
    have startB := (side.1 inside).1
    omega
  · rwa [offeredIndex_outside inside, offeredIndex_outside (side.not.1 inside)] at same

end Image

/-- Settles O42: the reordering permutes each block of the message field, a block being a power of two long. -/
theorem offerOrderIsPermutation : Obligations.OfferOrderIsPermutation := by
  unfold Obligations.OfferOrderIsPermutation
  intro i depth
  obtain ⟨n, power⟩ : ∃ n, i.depth = 2 ^ n := by
    obtain one | two | four | eight := depth
    exacts [⟨0, one⟩, ⟨1, two⟩, ⟨2, four⟩, ⟨3, eight⟩]
  refine ⟨Image.offeredIndex_injective power, fun k head => ?head, fun k fill => ?fill, fun k start stop => ?field⟩
  case head => exact Image.offeredIndex_outside fun inside => absurd inside.1 (Nat.not_le.2 head)
  case fill => exact Image.offeredIndex_outside fun inside => absurd inside.2 (Nat.not_lt.2 fill)
  case field =>
    obtain ⟨⟨sentStart, sentStop⟩, block, offset⟩ := Image.offeredIndex_in_block power ⟨start, stop⟩
    exact ⟨sentStart, sentStop, block, offset⟩

end Sys2Proof.Machine
end

section
/-! PROOFS. Return records: their arrival and queues (R141, R196), and the receipts that match nothing (R146, R147, R149). -/

namespace Sys2Proof.Machine

/-! ### Records read from their bytes (R196) -/

/-- The two bits below the frame number of a RECEIPT say nothing (R196). -/
theorem readReturn_receiptWith {frame ignored slot reply : Nat} (hf : frame < 64) (hi : ignored < 4) (hs : slot < 16)
    (hr : reply < 16) (check : Byte) :
    readReturn (Payload.receiptWith frame ignored slot reply check) = some (.receipt frame slot reply check) := by
  have sum : byteSum (Payload.receiptWith frame ignored slot reply check) = 0 := byteSum_check _
  have read (a b c d : Byte) (sum : byteSum [0x31, 3, a, b, c, d] = 0) : readReturn [0x31, 3, a, b, c, d] =
      some (.receipt (a.toNat / 4) (b.toNat / 16) (b.toNat % 16) c) := if_pos sum
  refine (read _ _ _ _ sum).trans ?_
  simp only [Option.some.injEq, ReturnFields.receipt.injEq, BitVec.toNat_ofNat]
  refine ⟨?_, ?_, ?_, trivial⟩ <;> omega

/-- A bad record: its sum is not 0, its kind is neither of the two, or its length is not that of its kind (R141; log 17). -/
def BadReturn (bytes : List Byte) : Prop :=
  byteSum bytes ≠ 0 ∨ (bytes.head? ≠ some 0x31 ∧ bytes.head? ≠ some 0x32) ∨
    (bytes.head? = some 0x31 ∧ (bytes[1]? ≠ some 3 ∨ bytes.length ≠ 6)) ∨
    (bytes.head? = some 0x32 ∧ (bytes[1]? ≠ some 2 ∨ bytes.length ≠ 5))

theorem readReturn_of_bad {bytes : List Byte} (bad : BadReturn bytes) : readReturn bytes = none := by
  unfold readReturn
  split
  · rename_i sum
    have form := bad.resolve_left (not_not.2 sum)
    split
    · simp at form
    · simp at form
    · rfl
  · rfl

/-! ### Arrival (R141) -/

section Arrival

variable {s : State} {z : Fin 8} {bytes : List Byte} {fields : ReturnFields}

theorem exec_returnRecordArrival_queued (read : readReturn bytes = some fields) (place : (s.queue z.val).length < 8) :
    exec (.returnRecordArrival z bytes) s =
      .next (s.setQueue z.val (s.queue z.val ++ [s.stamp z.val fields])).lineChoice := by
  show execReturnRecordArrival z bytes s = _
  rw [execReturnRecordArrival, read]
  exact if_pos place

theorem exec_returnRecordArrival_overrun (read : readReturn bytes = some fields) (full : 8 ≤ (s.queue z.val).length) :
    exec (.returnRecordArrival z bytes) s =
      .next (s.setZone z.val { s.zone z.val with overruns := min ((s.zone z.val).overruns + 1) 65535 }).lineChoice := by
  show execReturnRecordArrival z bytes s = _
  rw [execReturnRecordArrival, read]
  exact if_neg (Nat.not_lt.2 full)

theorem exec_returnRecordArrival_bad (read : readReturn bytes = none) :
    exec (.returnRecordArrival z bytes) s =
      .next (s.setZone z.val { s.zone z.val with
        recordErrors := min ((s.zone z.val).recordErrors + 1) 65535 }).lineChoice := by
  show execReturnRecordArrival z bytes s = _
  rw [execReturnRecordArrival, read]
  rfl

end Arrival

/-- Settles O46: what the bytes read as and the length of the queue decide what becomes of the record. -/
theorem returnRecordsAreQueuedOrCounted : Obligations.ReturnRecordsAreQueuedOrCounted := by
  unfold Obligations.ReturnRecordsAreQueuedOrCounted
  refine fun s z => ⟨fun frame ignored slot reply check hf hi hs hr place => ?receipt, fun a place => ?checkIn,
    fun frame ignored slot reply check a bytes hf hi hs hr full good => ?overrun, fun bytes bad => ?bad⟩
  case receipt => exact exec_returnRecordArrival_queued (readReturn_receiptWith hf hi hs hr check) place
  case checkIn => exact exec_returnRecordArrival_queued (Payload.readReturn_checkIn a) place
  case overrun =>
    rcases good with rfl | rfl
    · exact exec_returnRecordArrival_overrun (readReturn_receiptWith hf hi hs hr check) full
    · exact exec_returnRecordArrival_overrun (Payload.readReturn_checkIn a) full
  case bad => exact exec_returnRecordArrival_bad (readReturn_of_bad bad)

/-! ### The map that a receipt names (R146) -/

namespace State

variable {s t : State} {zone frame slot : Nat} {check : Byte} {m : ReceiptMap}

/-- A receipt from the zone for the frame number names the map: it is CURRENT or PREVIOUS, of that frame number, and the zone
is a member of its plan (R146). -/
def Names (s : State) (zone frame : Nat) (m : ReceiptMap) : Prop :=
  (∃ g < 4, (s.maps g).current = some m ∨ (s.maps g).previous = some m) ∧ frameNumber m.serial = frame ∧
    m.members.getLsbD zone = true

/-- The maps that receipts are looked up in, group by group. -/
theorem mem_heldMaps (s : State) (m : ReceiptMap) : m ∈ groupNumbers.flatMap (fun g => (s.maps g).held) ↔
    ∃ g < 4, (s.maps g).current = some m ∨ (s.maps g).previous = some m := by
  simp [GroupMaps.held, mem_groupNumbers]

theorem names_of_heldMap (found : s.heldMap zone frame = some m) : s.Names zone frame m := by
  have agrees := List.find?_some found
  rw [Bool.and_eq_true, decide_eq_true_eq] at agrees
  exact ⟨(s.mem_heldMaps m).1 (List.mem_of_find?_eq_some found), agrees⟩

theorem heldMap_eq_none_iff : s.heldMap zone frame = none ↔ ∀ m, ¬s.Names zone frame m := by
  rw [heldMap, List.find?_eq_none]
  refine forall_congr' fun m => ?_
  rw [mem_heldMaps, Bool.and_eq_true, decide_eq_true_eq]
  exact not_and.symm

/-- Where maps named share no member but with themselves, the one looked up is the one named. -/
theorem heldMap_eq_some_iff
    (apart : ∀ m n, s.Names zone frame m → s.Names zone frame n → m.members &&& n.members ≠ 0 → m = n) :
    s.heldMap zone frame = some m ↔ s.Names zone frame m := by
  refine ⟨names_of_heldMap, fun named => ?_⟩
  cases found : s.heldMap zone frame with
  | none => exact absurd named (heldMap_eq_none_iff.1 found m)
  | some n =>
    have named' := names_of_heldMap found
    have shared : n.members &&& m.members ≠ 0 := fun none => by
      have bit : (n.members &&& m.members).getLsbD zone = true := by
        rw [BitVec.getLsbD_and, named'.2.2, named.2.2, Bool.and_self]
      simp [none] at bit
    rw [apart n m named' named shared]

theorem heldMap_congr (held : ∀ g, (t.maps g).current = (s.maps g).current ∧ (t.maps g).previous = (s.maps g).previous) :
    t.heldMap zone frame = s.heldMap zone frame := by
  have held (g : Nat) : (t.maps g).held = (s.maps g).held := by rw [GroupMaps.held, (held g).1, (held g).2]; rfl
  simp only [heldMap, held]

/-! ### The judgement of a receipt (R146, R147, R149) -/

/-- The judgement reads maps, deliveries and addresses, and no queue. -/
theorem judgeReceipt_setQueue (s : State) (z : Nat) (q : List ReturnRecord) :
    (s.setQueue z q).judgeReceipt zone frame slot check = s.judgeReceipt zone frame slot check := rfl

theorem judgeReceipt_of_no_map (none : s.heldMap zone frame = none) : s.judgeReceipt zone frame slot check = .stray := by
  rw [judgeReceipt, none]

/-- A slot that is empty or not usable (R146). -/
theorem judgeReceipt_of_no_claim (found : s.heldMap zone frame = some m)
    (free : m.slot slot = .empty ∨ m.usable.getLsbD slot = false) : s.judgeReceipt zone frame slot check = .stray := by
  rcases free with empty | unusable
  · simp [judgeReceipt, found, empty]
  · simp [judgeReceipt, found, unusable]

/-- A slot that was answered before (R149). -/
theorem judgeReceipt_of_answered {k : Ticket} {kept : Byte} (found : s.heldMap zone frame = some m)
    (usable : m.usable.getLsbD slot = true) (answered : m.slot slot = .answered k kept) :
    s.judgeReceipt zone frame slot check = if check = kept then .duplicate else .mismatch := by
  simp [judgeReceipt, found, usable, answered]

/-- A claimed slot whose unit has another address check (R147). -/
theorem judgeReceipt_of_other_check {k : Ticket} {d : Delivery} (found : s.heldMap zone frame = some m)
    (usable : m.usable.getLsbD slot = true) (claimed : m.slot slot = .claimed k) (named : s.named k = some d)
    (other : check ≠ (s.sub d.subscriber).address.setWidth 8) : s.judgeReceipt zone frame slot check = .mismatch := by
  simp [judgeReceipt, found, usable, claimed, named, other]

theorem takeReceipt_of_stray {reply : Nat} (judged : s.judgeReceipt zone frame slot check = .stray) :
    s.takeReceipt zone frame slot reply check = s.countStray zone := by rw [takeReceipt, judged]

theorem takeReceipt_of_mismatch {reply : Nat} (judged : s.judgeReceipt zone frame slot check = .mismatch) :
    s.takeReceipt zone frame slot reply check = s.countMismatch := by rw [takeReceipt, judged]

theorem takeReceipt_of_duplicate {reply : Nat} (judged : s.judgeReceipt zone frame slot check = .duplicate) :
    s.takeReceipt zone frame slot reply check = s.countDuplicate := by rw [takeReceipt, judged]

end State

/-- The receipt at the head of a queue leaves it and is judged (R142, R146). -/
theorem exec_receiptTaken {s t : State} {z : Fin 8} {frame slot reply : Nat} {check : Byte} {rest : List ReturnRecord}
    (head : s.queue z.val = .receipt frame slot reply check :: rest)
    (taken : (s.setQueue z.val rest).takeReceipt z.val frame slot reply check = t) :
    exec (.receiptTaken z) s = .next t.lineChoice := by
  show execReceiptTaken z s = _
  rw [execReceiptTaken, head, ← taken]
  rfl

/-- Settles O47: the judgement of each receipt names its counters; the map looked up is the first one named. -/
theorem unmatchedReceiptsAreCounted : Obligations.UnmatchedReceiptsAreCounted := by
  unfold Obligations.UnmatchedReceiptsAreCounted
  refine ⟨fun s u z frame slot reply check rest _ head taken => ?judged, fun s z f found names => ?looked⟩
  case judged =>
    subst taken
    have unqueued := s.judgeReceipt_setQueue (zone := z.val) (frame := frame) (slot := slot) (check := check) z.val rest
    have mismatch (judged : s.judgeReceipt z.val frame slot check = .mismatch) : exec (.receiptTaken z) s = _ :=
      exec_receiptTaken head (State.takeReceipt_of_mismatch (unqueued.trans judged))
    refine ⟨fun free => ?free, fun m k kept held usable answered => ⟨fun other => ?other, fun same => ?same⟩,
      fun m k d held usable claimed named other => ?claimed⟩
    case free =>
      have judged : s.judgeReceipt z.val frame slot check = .stray := by
        rcases free with none | ⟨m, held, free⟩
        · exact State.judgeReceipt_of_no_map none
        · exact State.judgeReceipt_of_no_claim held free
      exact exec_receiptTaken head (State.takeReceipt_of_stray (unqueued.trans judged))
    case other => exact mismatch ((State.judgeReceipt_of_answered held usable answered).trans (if_neg other))
    case same =>
      have judged := (State.judgeReceipt_of_answered held usable answered).trans (if_pos same)
      exact exec_receiptTaken head (State.takeReceipt_of_duplicate (unqueued.trans judged))
    case claimed => exact mismatch (State.judgeReceipt_of_other_check held usable claimed named other)
  case looked =>
    obtain rfl : found = s.Names z f := funext fun m => propext (names m)
    exact ⟨fun m => State.names_of_heldMap, State.heldMap_eq_none_iff, fun apart m => State.heldMap_eq_some_iff apart,
      fun t => State.heldMap_congr⟩

end Sys2Proof.Machine
end

section
/-! PROOFS. The queues of the link and of the ports: the events on deliveries, zones and frames, in which notices alone join a
queue, and that while it has a place (R188). -/

namespace Sys2Proof.Machine

namespace State

variable {s t u : State}

/-! ### Events that raise notices at most -/

/-- Between two states no queue but that of the notices has grown, and that one not beyond its places (R188). -/
structure NoticesJoin (s t : State) : Prop where
  requests : t.lnk.requests.length ≤ s.lnk.requests.length
  replies : t.lnk.replies.length ≤ s.lnk.replies.length
  notices : s.lnk.notices.length ≤ 64 → t.lnk.notices.length ≤ 64
  returns : ∀ z, (t.queue z).length ≤ (s.queue z).length

namespace NoticesJoin

theorem of_lnk (lnk : t.lnk = s.lnk) (queue : ∀ z, t.queue z = s.queue z) : s.NoticesJoin t where
  requests := by rw [lnk]
  replies := by rw [lnk]
  notices := by rw [lnk]; exact id
  returns z := by rw [queue]

theorem of_rcp (lnk : t.lnk = s.lnk) (rcp : t.rcp = s.rcp) : s.NoticesJoin t :=
  of_lnk lnk fun z => by rw [queue, rcp]; rfl

theorem refl (s : State) : s.NoticesJoin s := of_rcp rfl rfl

theorem trans (h : s.NoticesJoin t) (g : t.NoticesJoin u) : s.NoticesJoin u where
  requests := g.requests.trans h.requests
  replies := g.replies.trans h.replies
  notices := g.notices ∘ h.notices
  returns z := (g.returns z).trans (h.returns z)

theorem foldl {α : Type} {f : State → α → State} (h : ∀ (s : State) (a : α), s.NoticesJoin (f s a)) (l : List α)
    (s : State) : s.NoticesJoin (l.foldl f s) := by
  induction l generalizing s with
  | nil => exact refl s
  | cons a l ih => exact (h s a).trans (ih _)

theorem notice (s : State) (k : Byte) (f : List Byte) : s.NoticesJoin (s.notice k f) where
  requests := by simp
  replies := by simp
  notices := s.lnk.notice_notices_le k f
  returns _ := le_rfl

/-- Notices raised one after another. -/
theorem of_raise {raised : List (Byte × List Byte)} (lnk : t.lnk = s.lnk.raise raised)
    (queue : ∀ z, t.queue z = s.queue z) : s.NoticesJoin t := by
  have each (l : List (Byte × List Byte)) (s : State) : s.NoticesJoin (s.withLnk (s.lnk.raise l)) := by
    induction l generalizing s with
    | nil => exact refl s
    | cons m l ih => exact (notice s m.1 m.2).trans (ih _)
  have whole : (s.withLnk (s.lnk.raise raised)).NoticesJoin t := of_lnk lnk queue
  exact (each raised s).trans whole

theorem of_raises (raises : s.Raises t) (queue : ∀ z, t.queue z = s.queue z) : s.NoticesJoin t := by
  obtain ⟨_, lnk, -⟩ := raises
  exact of_raise lnk queue

/-- The idle line takes a reply or a notice from its queue (R187). -/
theorem lineChoice (s : State) : s.NoticesJoin s.lineChoice where
  requests := by simp
  replies := s.lnk.choose_replies_le
  notices := s.lnk.choose_notices_le.trans
  returns _ := le_rfl

theorem queuesInRange (h : s.NoticesJoin t) (inRange : s.queuesInRange) : t.queuesInRange := by
  obtain ⟨requests, replies, notices, returns⟩ := inRange
  exact ⟨h.requests.trans requests, h.replies.trans replies, h.notices notices, fun z => (h.returns z).trans (returns z)⟩

/-! ### Events on deliveries -/

theorem writeAttempt (s : State) (x : Slot) (o : Option Attempt) : s.NoticesJoin (s.writeAttempt x o) := by
  refine of_lnk ?_ fun z => by simp
  cases o with
  | none => rfl
  | some a => exact writeSlots_lnk ..

theorem endDelivery (s : State) (n : Nat) (d : Delivery) (e : Ending) (r : Reason) :
    s.NoticesJoin (s.endDelivery n d e r) :=
  of_raises (s.endDelivery_raises n d e r) (s.endDelivery_queue n d e r)

theorem refile (s : State) (n : Nat) (d : Delivery) (due : Serial) : s.NoticesJoin (s.refile n d due) :=
  of_raises (s.refile_raises n d due) fun z => by rw [queue, refile_rcp]; rfl

theorem setLive (s : State) (n : Nat) (d : Delivery) : s.NoticesJoin (s.setLive n d) := of_rcp rfl rfl

theorem setCounters (s : State) (c : ReceiptCounters) : s.NoticesJoin (s.setCounters c) := of_lnk rfl fun _ => rfl

theorem revert (s : State) (n : Nat) (d : Delivery) : s.NoticesJoin (s.revert n d) := by
  rw [revert_eq]
  exact (writeAttempt ..).trans (refile ..)

theorem launchOne (kept : GroupSet) (s : State) (n : Nat) : s.NoticesJoin (launchOne kept s n) := by
  unfold Machine.launchOne
  split
  · exact refl s
  · split
    · split
      · exact revert ..
      · exact setLive ..
    · exact refl s

theorem endFrameOne (s : State) (n : Nat) : s.NoticesJoin (endFrameOne s n) := by
  unfold Machine.endFrameOne
  split
  · exact refl s
  · split
    · split
      · exact setLive ..
      · dsimp only
        split
        · exact endDelivery ..
        · exact refile ..
    · exact refl s

theorem resolveOne (s : State) (n : Nat) : s.NoticesJoin (resolveOne s n) := by
  have counted : s.NoticesJoin s.countMiss := setCounters ..
  have expired (t : State) : t.NoticesJoin t.countExpired := setCounters ..
  unfold Machine.resolveOne
  split
  · exact refl s
  · split
    · dsimp only
      split
      · exact (counted.trans (endDelivery ..)).trans (expired _)
      · split
        · exact (counted.trans (refile ..)).trans (expired _)
        · split
          · exact (counted.trans (refile ..)).trans (notice ..)
          · exact counted.trans (refile ..)
    · exact refl s

theorem cancelOne (s : State) (n : Nat) : s.NoticesJoin (cancelOne s n) := by
  unfold Machine.cancelOne
  split
  · exact endDelivery ..
  · exact refl s

theorem endingStep (w : BoundaryWork) (s : State) (g : EndingGroup) : s.NoticesJoin (endingStep w s g) := by
  cases g with
  | ended => exact foldl endFrameOne _ _
  | missed => exact foldl resolveOne _ _
  | dropped => exact foldl (launchOne _) _ _

/-! ### The frame -/

/-- To come to a moment of the frame moves the clock alone (log 3). -/
theorem of_atMoment {q : Nat} (h : s.atMoment q = some u) : s.NoticesJoin u := by
  obtain ⟨-, -, -, rfl⟩ := atMoment_eq_some h
  exact of_rcp rfl rfl

theorem boundaryEvent (s : State) (o : EndingOrder) : s.NoticesJoin (s.boundaryEvent o) := by
  have turned : s.NoticesJoin s.turned := of_rcp s.turned_lnk s.turned_rcp
  have settled : s.turned.NoticesJoin (s.settled o) := foldl (endingStep _) _ _
  obtain ⟨_, moved⟩ := s.boundaryEvent_only o
  rw [moved]
  exact (turned.trans settled).trans (of_lnk rfl fun _ => rfl)

theorem build (s : State) (x : Serial) : s.NoticesJoin (s.build x) := by
  refine of_raises (s.build_raises x) fun z => ?_
  obtain ⟨_, _, opened⟩ := s.opened_only
  obtain ⟨_, completed⟩ := (s.walked x).completed_only
  have walk : (s.walked x).queue z = s.opened.queue z := (Touched.foldl (Touched.visit x) _ s.opened).queue z
  rw [build_eq_completed, completed, queue_withBld, walk, opened]
  rfl

theorem zoneBuildPoint (s : State) : s.NoticesJoin s.zoneBuildPoint := by
  obtain ⟨-, -, lnk⟩ := s.zoneBuildPoint_eq
  refine of_raise lnk fun z => ?_
  obtain ⟨_, _, only⟩ := s.zoneBuildPoint_zonesOnly
  rw [only]
  rfl

theorem buildPointEvent (s : State) : s.NoticesJoin s.buildPointEvent := by
  unfold State.buildPointEvent
  dsimp only
  split
  · exact (zoneBuildPoint s).trans (build ..)
  · exact zoneBuildPoint s

theorem stopped (s : State) : s.NoticesJoin s.stopped := by
  obtain ⟨_, _, dropped⟩ := s.dropped_only
  rw [dropped]
  exact of_lnk rfl fun _ => rfl

theorem airOff (s : State) : s.NoticesJoin s.airOff := by
  have stopping : s.NoticesJoin (s.withBld { s.bld with air := .stopping }) := of_rcp rfl rfl
  have reverted : s.NoticesJoin s.offAir := stopping.trans (foldl (launchOne 0) _ _)
  obtain ⟨_, _, discarded⟩ := s.airOff_only
  rw [discarded]
  exact reverted.trans (of_lnk rfl fun _ => rfl)

theorem trafficReset (s : State) : s.NoticesJoin s.trafficReset := by
  have ended : s.NoticesJoin (s.liveNumbers.foldl Machine.cancelOne s) := foldl cancelOne _ _
  obtain ⟨_, _, emptied⟩ := s.trafficReset_only
  rw [emptied]
  exact ended.trans (of_lnk rfl fun _ => rfl)

/-- The resets empty the queues of the ports (R163). -/
theorem resetBlocks (s : State) : s.NoticesJoin s.resetBlocks where
  requests := le_rfl
  replies := le_rfl
  notices := id
  returns _ := Nat.zero_le _

/-! ### Zones -/

theorem of_written (written : s.ZonesWritten t) {raised : List (Byte × List Byte)} (lnk : t.lnk = s.lnk.raise raised) :
    s.NoticesJoin t :=
  of_raise lnk fun z => by rw [written.eq]; rfl

theorem flagZone (s : State) (n : Nat) (z : Zone) (e : BitVec 3) : s.NoticesJoin (s.flagZone n z e) :=
  of_written (.flagZone s n z e) (s.turns_flagZone n z e).lnk

theorem followAlarm (s : State) (n : Nat) (z : Zone) : s.NoticesJoin (s.followAlarm n z) := by
  unfold State.followAlarm
  dsimp only
  split
  · exact of_rcp rfl rfl
  · exact flagZone ..

theorem offers (k : Nat) (s : State) : s.NoticesJoin (zoneNumbers.foldl (offerAt k) s) := by
  obtain ⟨written, -, lnk⟩ := s.offers_foldl k
  exact of_written (raised := []) written lnk

theorem judgements (k : Nat) (s : State) : s.NoticesJoin (zoneNumbers.foldl (judgeAt k) s) := by
  obtain ⟨written, -, lnk⟩ := s.judge_foldl k
  exact of_written written lnk

/-! ### Return records taken -/

/-- The oldest return record of a port leaves its queue (R142). -/
theorem dequeue {z : Nat} {r : ReturnRecord} {rest : List ReturnRecord} (head : s.queue z = r :: rest) :
    s.NoticesJoin (s.setQueue z rest) :=
  { refl s with
    returns := fun k => by
      rw [queue_setQueue]
      split
      · rename_i same; subst same; rw [head]; exact Nat.le_succ _
      · exact le_rfl }

theorem deliver (s : State) (zone : Nat) (m : ReceiptMap) (n : Nat) (d : Delivery) (reply : Nat) (check : Byte) :
    s.NoticesJoin (s.deliver zone m n d reply check) := by
  have written := writeAttempt s (.answered (s.ticket n) check) d.last
  rw [deliver_eq]
  generalize s.writeAttempt (.answered (s.ticket n) check) d.last = w at *
  have reported (v : Subscriber) : w.NoticesJoin ((w.setSub d.subscriber v).countDelivered zone) := of_lnk rfl fun _ => rfl
  exact (written.trans (reported _)).trans (endDelivery ..)

theorem takeReceipt (s : State) (zone frame slot reply : Nat) (check : Byte) :
    s.NoticesJoin (s.takeReceipt zone frame slot reply check) := by
  unfold State.takeReceipt
  split
  · exact of_lnk rfl fun _ => rfl
  · exact setCounters ..
  · exact setCounters ..
  · exact deliver ..

theorem checkInOne (k : Nat) (s : State) (n : Nat) : s.NoticesJoin (checkInOne k s n) := by
  unfold Machine.checkInOne
  split
  · exact refl s
  · split
    · split
      · exact refile ..
      · exact setLive ..
      · exact setLive ..
      · exact refl s
      · exact refl s
    · exact refl s

theorem takeCheckIn (s : State) (zone : Nat) (a : Word) (x : Serial) (g : Option Nat) :
    s.NoticesJoin (s.takeCheckIn zone a x g) := by
  have counted (z : Zone) : s.NoticesJoin (s.setZone zone z) := of_rcp rfl rfl
  unfold State.takeCheckIn
  dsimp only
  split
  · exact ((counted _).trans (setCounters ..)).trans (notice ..)
  · rename_i n _
    have reported (t : State) (v : Subscriber) : t.NoticesJoin (t.setSub n v) := of_rcp rfl rfl
    exact (((counted _).trans (setCounters ..)).trans (reported ..)).trans (foldl (checkInOne n) _ _)

end NoticesJoin

end State

end Sys2Proof.Machine
end

section
/-! PROOFS. The queues of the link and of the ports: the requests, the arrival of requests and of return records, and every
step (R141, R184, R185, R187, R188). -/

namespace Sys2Proof.Machine

open State

/-! ### The requests -/

/-- A request whose service raises notices at most. -/
def JoinsNotices (serve : List Byte → State → State × Answer) : Prop :=
  ∀ (p : List Byte) (s : State), s.NoticesJoin (serve p s).1

theorem ReadsOnly.joinsNotices {serve : List Byte → State → State × Answer} (h : ReadsOnly serve) : JoinsNotices serve :=
  fun p s => by rw [h p s]; exact .refl s

theorem serveAssignSubscriber_joinsNotices : JoinsNotices serveAssignSubscriber := by
  intro p s; unfold serveAssignSubscriber; repeat' split
  all_goals exact .of_rcp rfl rfl

theorem serveModifySubscriber_joinsNotices : JoinsNotices serveModifySubscriber := by
  have rekey (s : State) (n : Nat) (old new : Subscriber) : s.NoticesJoin (s.rekey n old new) := by
    unfold State.rekey; split <;> exact .of_rcp rfl rfl
  have relink (s : State) (old new : Nat) : s.NoticesJoin (s.relink old new) := by
    unfold State.relink; split <;> exact .of_rcp rfl rfl
  intro p s; unfold serveModifySubscriber; dsimp only; repeat' split
  case h_2.isFalse.isFalse.isFalse.isFalse.isFalse => exact (rekey ..).trans (relink ..)
  all_goals exact .refl s

theorem serveSuspend_joinsNotices : JoinsNotices serveSuspend := by
  intro p s; unfold serveSuspend; repeat' split
  all_goals exact .of_rcp rfl rfl

theorem serveResume_joinsNotices : JoinsNotices serveResume := by
  intro p s; unfold serveResume; repeat' split
  all_goals exact .of_rcp rfl rfl

theorem serveRelease_joinsNotices : JoinsNotices serveRelease := by
  intro p s; unfold serveRelease; dsimp only; repeat' split
  all_goals exact .of_rcp rfl rfl

theorem serveOpenAccount_joinsNotices : JoinsNotices serveOpenAccount := by
  intro p s; unfold serveOpenAccount; repeat' split
  all_goals exact .of_rcp rfl rfl

theorem serveAdjustAccount_joinsNotices : JoinsNotices serveAdjustAccount := by
  intro p s; unfold serveAdjustAccount; repeat' split
  all_goals exact .of_rcp rfl rfl

theorem serveSetCredit_joinsNotices : JoinsNotices serveSetCredit := by
  intro p s; unfold serveSetCredit; repeat' split
  all_goals exact .of_rcp rfl rfl

theorem serveSetTariffClass_joinsNotices : JoinsNotices serveSetTariffClass := by
  intro p s; unfold serveSetTariffClass; repeat' split
  all_goals exact .of_rcp rfl rfl

theorem serveLock_joinsNotices : JoinsNotices serveLock := by
  intro p s; unfold serveLock; repeat' split
  all_goals exact .of_rcp rfl rfl

theorem serveUnlock_joinsNotices : JoinsNotices serveUnlock := by
  intro p s; unfold serveUnlock; repeat' split
  all_goals exact .of_rcp rfl rfl

theorem serveClose_joinsNotices : JoinsNotices serveClose := by
  intro p s; unfold serveClose; dsimp only; repeat' split
  all_goals exact .of_rcp rfl rfl

theorem serveLoadTariff_joinsNotices : JoinsNotices serveLoadTariff := by
  intro p s; unfold serveLoadTariff; repeat' split
  all_goals exact .of_rcp rfl rfl

theorem serveSetPriorityProfile_joinsNotices : JoinsNotices serveSetPriorityProfile := by
  intro p s; unfold serveSetPriorityProfile; repeat' split
  · exact .refl s
  · exact .refl s
  · exact .of_rcp (setProfile_lnk ..) (setProfile_rcp ..)

/-- Intake leaves the link and the receipt unit alone (R52). -/
theorem State.NoticesJoin.accept (s : State) (n : Nat) (x : Submission) (o : Option Nat) :
    s.NoticesJoin (s.accept n x o).state := by
  unfold State.accept
  dsimp only
  rw [enroll_only, takeBody_only]
  exact .of_rcp rfl rfl

theorem serveSubmitPage_joinsNotices : JoinsNotices serveSubmitPage := by
  intro p s
  unfold serveSubmitPage
  split
  · exact .refl s
  split
  · exact .refl s
  · exact .accept ..

theorem takeMembers_noticesJoin (x : Submission) (l : List Nat) (g : GroupProgress) :
    g.state.NoticesJoin (l.foldl (takeMember x) g).state := by
  have one (g : GroupProgress) (n : Nat) : g.state.NoticesJoin (takeMember x g n).state := by
    unfold takeMember
    split
    · exact .refl g.state
    · exact .accept ..
  induction l generalizing g with
  | nil => exact .refl g.state
  | cons n l ih => exact (one g n).trans (ih _)

theorem serveSubmitGroupPage_joinsNotices : JoinsNotices serveSubmitGroupPage := by
  intro p s
  unfold serveSubmitGroupPage
  split
  · exact .refl s
  · exact takeMembers_noticesJoin _ _ { state := s, body := none, accepted := 0, entries := [] }

theorem serveCancel_joinsNotices : JoinsNotices serveCancel := by
  intro p s
  unfold serveCancel
  dsimp only
  repeat' split
  · exact .refl s
  · exact .refl s
  · exact .endDelivery ..
  · exact .refl s

theorem serveSetClock_joinsNotices : JoinsNotices serveSetClock := by
  intro p s; unfold serveSetClock; repeat' split
  all_goals exact .of_rcp rfl rfl

theorem serveSetTrim_joinsNotices : JoinsNotices serveSetTrim := by
  intro p s; unfold serveSetTrim; split
  all_goals exact .of_rcp rfl rfl

theorem serveStartClock_joinsNotices : JoinsNotices serveStartClock := by
  intro p s
  unfold serveStartClock
  repeat' split
  · exact .refl s
  · exact .refl s
  · have started : s.NoticesJoin (s.withClk s.clk.start) := .of_rcp rfl rfl
    exact started.trans (.boundaryEvent ..)

theorem serveStopClock_joinsNotices : JoinsNotices serveStopClock := by
  intro p s
  unfold serveStopClock
  repeat' split
  · exact .refl s
  · exact .refl s
  · exact .refl s
  · exact .stopped s

theorem serveSetZone_joinsNotices : JoinsNotices serveSetZone := by
  intro p s; unfold serveSetZone; repeat' split
  all_goals exact .of_rcp rfl rfl

theorem serveSetGroup_joinsNotices : JoinsNotices serveSetGroup := by
  intro p s; unfold serveSetGroup; repeat' split
  all_goals exact .of_rcp rfl rfl

theorem serveClearZoneFlags_joinsNotices : JoinsNotices serveClearZoneFlags := by
  intro p s; unfold serveClearZoneFlags; repeat' split
  all_goals exact .of_rcp rfl rfl

theorem serveAirOn_joinsNotices : JoinsNotices serveAirOn := by
  intro p s; unfold serveAirOn; repeat' split
  all_goals exact .of_rcp rfl rfl

theorem serveAirOff_joinsNotices : JoinsNotices serveAirOff := by
  intro p s
  cases p with
  | cons b p => exact .refl s
  | nil =>
    cases air : s.bld.air with
    | halted => simpa [serveAirOff, air, refuse] using NoticesJoin.refl s
    | stopping => simpa [serveAirOff, air, refuse] using NoticesJoin.refl s
    | on => rw [serveAirOff_of_on air]; exact .airOff s

theorem serveTakeUsage_joinsNotices : JoinsNotices serveTakeUsage := by
  intro p s; unfold serveTakeUsage; split
  all_goals exact .of_rcp rfl rfl

theorem serveSetWatermark_joinsNotices : JoinsNotices serveSetWatermark := by
  intro p s; unfold serveSetWatermark; split
  all_goals exact .of_rcp rfl rfl

theorem serveTrafficReset_joinsNotices : JoinsNotices serveTrafficReset := by
  intro p s
  unfold serveTrafficReset
  split
  · exact .refl s
  · exact .trafficReset s

/-- QUERY LINK clears counts and the signature, and no queue (R189). -/
theorem serveQueryLink_joinsNotices : JoinsNotices serveQueryLink := by
  intro p s
  unfold serveQueryLink
  split
  · exact .refl s
  · exact { NoticesJoin.refl s with }

theorem serveFullReset_joinsNotices : JoinsNotices serveFullReset := by
  intro p s
  unfold serveFullReset
  split
  · exact .refl s
  · exact .resetBlocks s

/-! ### Records that join a queue while it has a place (R141, R184, R185) -/

section Joining

variable {s t u : State}

/-- An offered record joins the request queue, or its refusal the reply queue, while there is a place (R184). -/
theorem offer_queuesInRange (r : LinkRecord) (inRange : s.queuesInRange) : (s.withLnk (s.lnk.offer r)).queuesInRange := by
  obtain ⟨requests, replies, notices, returns⟩ := inRange
  rcases s.lnk.offer_cases r with ⟨place, offered⟩ | ⟨-, place, offered⟩ | ⟨-, -, offered⟩
  · rw [offered]
    exact ⟨by simpa using place, replies, notices, returns⟩
  · rw [offered]
    exact ⟨requests, by simpa using place, notices, returns⟩
  · rw [offered]
    exact ⟨requests, replies, notices, returns⟩

/-- Entry to LINK ERROR raises its notice (R182). -/
theorem enterLinkError_noticesJoin (s : State) (c : LinkCause) (r : Receiver) (l : List Byte) :
    s.NoticesJoin (s.enterLinkError c r l) := by
  have entered (sig : Option Signature) (n : Nat) : s.NoticesJoin
      (s.withLnk { s.lnk with receiver := .linkError, assembling := [], signature := sig, linkErrors := n }) :=
    { NoticesJoin.refl s with }
  exact (entered _ _).trans (.notice ..)

theorem receive_queuesInRange (b : Byte) (inRange : s.queuesInRange) : (s.receive b).queuesInRange := by
  rcases receive_cases s b with still | ⟨-, -, started⟩ | ⟨-, stored | ⟨c, failed⟩ | offered⟩
  · rwa [still]
  · rw [started]; exact inRange
  · rw [stored]; exact inRange
  · rw [failed]; exact (enterLinkError_noticesJoin ..).queuesInRange inRange
  · rw [offered]
    exact offer_queuesInRange (s := s.withLnk { s.lnk with receiver := .hunt, assembling := [] }) _ inRange

theorem arrival_queuesInRange (r : LinkRecord) (inRange : s.queuesInRange) : (s.arrival r).queuesInRange :=
  arrival_keeps (fun _ b held => (NoticesJoin.lineChoice _).queuesInRange (receive_queuesInRange b held)) s r inRange

/-- The reply to a ready request has its place (R185). -/
theorem place_queuesInRange {r x : LinkRecord} (ready : s.ready r) (served : s.taken.NoticesJoin t)
    (inRange : s.queuesInRange) : (t.withLnk (t.lnk.place x)).queuesInRange := by
  have taken : s.taken.queuesInRange := by
    obtain ⟨requests, rest⟩ := inRange
    exact ⟨(List.drop_sublist ..).length_le.trans requests, rest⟩
  obtain ⟨requests, -, notices, returns⟩ := served.queuesInRange taken
  have place : t.lnk.replies.length < 16 := served.replies.trans_lt ready.2
  refine ⟨requests, ?_, notices, returns⟩
  show (t.lnk.replies ++ [x]).length ≤ 16
  simpa using place

/-- A return record joins its queue while there is a place (R141). -/
theorem enqueue_queuesInRange {z : Nat} (r : ReturnRecord) (place : (s.queue z).length < 8) (inRange : s.queuesInRange) :
    (s.setQueue z (s.queue z ++ [r])).queuesInRange := by
  obtain ⟨requests, replies, notices, returns⟩ := inRange
  refine ⟨requests, replies, notices, fun k => ?_⟩
  rw [queue_setQueue]
  split
  · simpa using place
  · exact returns k

end Joining

/-! ### The commands -/

/-- The outcome is an event's, from whose state the line makes its choice, and no queue of that state outgrows its places. -/
def KeepsQueues (s : State) (o : Host.Outcome State Fault Refusal) : Prop :=
  ∃ u, o = event u ∧ (s.queuesInRange → u.queuesInRange)

section Events

variable {s u : State}

theorem State.NoticesJoin.keepsQueues (h : s.NoticesJoin u) : KeepsQueues s (event u) := ⟨u, rfl, h.queuesInRange⟩

theorem event_keepsQueues (s : State) : KeepsQueues s (event s) := (NoticesJoin.refl s).keepsQueues

/-- A request's record comes in, and is served and answered if it is ready then (R184, R185). -/
theorem request_keepsQueues {kind tag : Byte} {p : List Byte} {serve : List Byte → State → State × Answer}
    (serves : JoinsNotices serve) (s : State) : KeepsQueues s (request kind tag p serve s) := by
  obtain ⟨u, reached, outcome⟩ := request_cases kind tag p serve s
  have arrived (inRange : s.queuesInRange) : u.queuesInRange := by
    rcases reached with rfl | rfl
    · exact inRange
    · exact arrival_queuesInRange _ inRange
  rcases outcome with idle | ⟨ready, served⟩
  · exact ⟨u, idle, arrived⟩
  · exact ⟨_, served, fun inRange => place_queuesInRange ready (serves p u.taken) (arrived inRange)⟩

theorem execUnknownKindRequest_keepsQueues (kind tag : Byte) (p : List Byte) (s : State) :
    KeepsQueues s (execUnknownKindRequest kind tag p s) := by
  unfold execUnknownKindRequest
  split
  · exact event_keepsQueues s
  · exact request_keepsQueues (fun _ s => NoticesJoin.refl s) s

theorem execFramingError_keepsQueues (s : State) : KeepsQueues s (execFramingError s) := by
  unfold execFramingError
  split
  · exact (enterLinkError_noticesJoin ..).keepsQueues
  · exact (enterLinkError_noticesJoin ..).keepsQueues
  · exact event_keepsQueues s

theorem execBoundary_keepsQueues (o : EndingOrder) (s : State) : KeepsQueues s (execBoundary o s) := by
  unfold execBoundary
  split
  · rename_i u moment
    have begun : u.NoticesJoin (u.withClk u.clk.nextFrame) := .of_rcp rfl rfl
    exact (((NoticesJoin.of_atMoment moment).trans begun).trans (.boundaryEvent _ o)).keepsQueues
  · exact event_keepsQueues s

theorem execBuildPoint_keepsQueues (s : State) : KeepsQueues s (execBuildPoint s) := by
  unfold execBuildPoint
  split
  · rename_i u moment
    split
    · exact event_keepsQueues s
    · have passed : u.NoticesJoin (u.withClk { u.clk with buildPassed := true }) := .of_rcp rfl rfl
      exact (((NoticesJoin.of_atMoment moment).trans passed).trans (.buildPointEvent _)).keepsQueues
  · exact event_keepsQueues s

theorem execWordOffer_keepsQueues (k : Nat) (s : State) : KeepsQueues s (execWordOffer k s) := by
  unfold execWordOffer
  split
  · split
    · rename_i moment
      exact ((NoticesJoin.of_atMoment moment).trans (.offers k _)).keepsQueues
    · exact event_keepsQueues s
  · exact event_keepsQueues s

theorem execDataFieldEnd_keepsQueues (k : Nat) (s : State) : KeepsQueues s (execDataFieldEnd k s) := by
  unfold execDataFieldEnd
  split
  · split
    · rename_i moment
      exact ((NoticesJoin.of_atMoment moment).trans (.judgements k _)).keepsQueues
    · exact event_keepsQueues s
  · exact event_keepsQueues s

theorem execWordTaken_keepsQueues (z : Fin 8) (s : State) : KeepsQueues s (execWordTaken z s) := by
  unfold execWordTaken
  dsimp only
  split
  · exact (NoticesJoin.of_rcp rfl rfl).keepsQueues
  · exact event_keepsQueues s

theorem execReturnRecordArrival_keepsQueues (z : Fin 8) (l : List Byte) (s : State) :
    KeepsQueues s (execReturnRecordArrival z l s) := by
  unfold execReturnRecordArrival
  dsimp only
  split
  · exact (NoticesJoin.of_rcp rfl rfl).keepsQueues
  · split
    · rename_i place
      exact ⟨_, rfl, enqueue_queuesInRange _ place⟩
    · exact (NoticesJoin.of_rcp rfl rfl).keepsQueues

theorem execReceiptTaken_keepsQueues (z : Fin 8) (s : State) : KeepsQueues s (execReceiptTaken z s) := by
  unfold execReceiptTaken
  split
  · rename_i head
    exact ((NoticesJoin.dequeue head).trans (.takeReceipt ..)).keepsQueues
  · exact event_keepsQueues s

theorem execCheckInTaken_keepsQueues (z : Fin 8) (s : State) : KeepsQueues s (execCheckInTaken z s) := by
  unfold execCheckInTaken
  split
  · rename_i head
    exact ((NoticesJoin.dequeue head).trans (.takeCheckIn ..)).keepsQueues
  · exact event_keepsQueues s

theorem execTick_keepsQueues (s : State) : KeepsQueues s (execTick s) := by
  unfold execTick
  split
  · exact (NoticesJoin.of_rcp rfl rfl).keepsQueues
  · exact event_keepsQueues s

/-- Power-on empties every queue (R191). -/
theorem execPowerOn_keepsQueues (rate : BitVec 2) (s : State) : KeepsQueues s (execPowerOn rate s) :=
  ⟨_, rfl, fun _ => ⟨Nat.zero_le _, Nat.zero_le _, Nat.zero_le _, fun _ => Nat.zero_le _⟩⟩

end Events

/-- Every command is an event that keeps the queues in their places. -/
theorem exec_keepsQueues (c : Instr) (s : State) : KeepsQueues s (exec c s) := by
  cases c with
  | assignSubscriber tag p => exact request_keepsQueues serveAssignSubscriber_joinsNotices s
  | modifySubscriber tag p => exact request_keepsQueues serveModifySubscriber_joinsNotices s
  | suspend tag p => exact request_keepsQueues serveSuspend_joinsNotices s
  | resume tag p => exact request_keepsQueues serveResume_joinsNotices s
  | release tag p => exact request_keepsQueues serveRelease_joinsNotices s
  | querySubscriber tag p => exact request_keepsQueues serveQuerySubscriber_readsOnly.joinsNotices s
  | openAccount tag p => exact request_keepsQueues serveOpenAccount_joinsNotices s
  | adjustAccount tag p => exact request_keepsQueues serveAdjustAccount_joinsNotices s
  | setCredit tag p => exact request_keepsQueues serveSetCredit_joinsNotices s
  | setTariffClass tag p => exact request_keepsQueues serveSetTariffClass_joinsNotices s
  | lock tag p => exact request_keepsQueues serveLock_joinsNotices s
  | unlock tag p => exact request_keepsQueues serveUnlock_joinsNotices s
  | close tag p => exact request_keepsQueues serveClose_joinsNotices s
  | queryAccount tag p => exact request_keepsQueues serveQueryAccount_readsOnly.joinsNotices s
  | loadTariff tag p => exact request_keepsQueues serveLoadTariff_joinsNotices s
  | queryTariff tag p => exact request_keepsQueues serveQueryTariff_readsOnly.joinsNotices s
  | setPriorityProfile tag p => exact request_keepsQueues serveSetPriorityProfile_joinsNotices s
  | queryProfile tag p => exact request_keepsQueues serveQueryProfile_readsOnly.joinsNotices s
  | submitPage tag p => exact request_keepsQueues serveSubmitPage_joinsNotices s
  | submitGroupPage tag p => exact request_keepsQueues serveSubmitGroupPage_joinsNotices s
  | queryStore tag p => exact request_keepsQueues serveQueryStore_readsOnly.joinsNotices s
  | cancel tag p => exact request_keepsQueues serveCancel_joinsNotices s
  | queryDelivery tag p => exact request_keepsQueues serveQueryDelivery_readsOnly.joinsNotices s
  | queryClock tag p => exact request_keepsQueues serveQueryClock_readsOnly.joinsNotices s
  | setClock tag p => exact request_keepsQueues serveSetClock_joinsNotices s
  | startClock tag p => exact request_keepsQueues serveStartClock_joinsNotices s
  | stopClock tag p => exact request_keepsQueues serveStopClock_joinsNotices s
  | setTrim tag p => exact request_keepsQueues serveSetTrim_joinsNotices s
  | setZone tag p => exact request_keepsQueues serveSetZone_joinsNotices s
  | setGroup tag p => exact request_keepsQueues serveSetGroup_joinsNotices s
  | clearZoneFlags tag p => exact request_keepsQueues serveClearZoneFlags_joinsNotices s
  | queryZone tag p => exact request_keepsQueues serveQueryZone_readsOnly.joinsNotices s
  | airOn tag p => exact request_keepsQueues serveAirOn_joinsNotices s
  | airOff tag p => exact request_keepsQueues serveAirOff_joinsNotices s
  | queryAir tag p => exact request_keepsQueues serveQueryAir_readsOnly.joinsNotices s
  | queryReceipts tag p => exact request_keepsQueues serveQueryReceipts_readsOnly.joinsNotices s
  | takeUsage tag p => exact request_keepsQueues serveTakeUsage_joinsNotices s
  | setWatermark tag p => exact request_keepsQueues serveSetWatermark_joinsNotices s
  | queryJournal tag p => exact request_keepsQueues serveQueryJournal_readsOnly.joinsNotices s
  | trafficReset tag p => exact request_keepsQueues serveTrafficReset_joinsNotices s
  | queryLink tag p => exact request_keepsQueues serveQueryLink_joinsNotices s
  | fullReset tag p => exact request_keepsQueues serveFullReset_joinsNotices s
  | unknownKindRequest kind tag p => exact execUnknownKindRequest_keepsQueues kind tag p s
  | powerOn rate => exact execPowerOn_keepsQueues rate s
  | inboundByte b => exact ⟨s.receive b, rfl, receive_queuesInRange b⟩
  | framingError => exact execFramingError_keepsQueues s
  | breakLine => exact ⟨_, rfl, id⟩
  | recordTransmissionEnd => exact ⟨_, rfl, id⟩
  | boundary order => exact execBoundary_keepsQueues order s
  | buildPoint => exact execBuildPoint_keepsQueues s
  | markEdge => exact ⟨_, rfl, id⟩
  | alarmEdge z high => exact (NoticesJoin.followAlarm ..).keepsQueues
  | wordOffer k => exact execWordOffer_keepsQueues k s
  | wordTaken z => exact execWordTaken_keepsQueues z s
  | dataFieldEnd k => exact execDataFieldEnd_keepsQueues k s
  | returnRecordArrival z l => exact execReturnRecordArrival_keepsQueues z l s
  | receiptTaken z => exact execReceiptTaken_keepsQueues z s
  | checkInTaken z => exact execCheckInTaken_keepsQueues z s
  | tick => exact execTick_keepsQueues s

/-- Settles O54: each command is an event that keeps every queue in its places; the line's choice, which ends it, leaves nothing
waiting on an idle line. -/
theorem stepKeepsQueuesAndLine : Obligations.StepKeepsQueuesAndLine := by
  unfold Obligations.StepKeepsQueuesAndLine
  intro s t h
  unfold step at h
  split at h
  · cases h
    exact ⟨id, id⟩
  · rename_i c rest _
    obtain ⟨u, ran, kept⟩ := exec_keepsQueues c (s.withPending rest)
    cases ran.symm.trans h
    exact ⟨fun inRange => (NoticesJoin.lineChoice u).queuesInRange (kept inRange), fun _ => u.lnk.lineBusy_choose⟩

end Sys2Proof.Machine
end

section
/-! PROOFS. The requests of the usage journal: TAKE USAGE and SET WATERMARK (R172, R173). -/

namespace Sys2Proof.Machine

/-- A clamp is flagged where the field falls outside the clamp's range. -/
theorem clampField_flag {top : Nat} (h : 1 ≤ top) (n : Nat) :
    decide (max 1 (min n top) ≠ n) = (decide (n = 0) || decide (top < n)) := by
  rw [← Bool.decide_or, decide_eq_decide]
  omega

/-! ### TAKE USAGE (R172) -/

/-- TAKE USAGE has no check after that of the length. -/
theorem serveTakeUsage_byte (b : Byte) (s : State) :
    serveTakeUsage [b] s =
      (s.withJnl { s.jnl with records := s.jnl.records.drop (clampTake b.toNat) },
        { status := .ok, clamped := b.toNat = 0 || 32 < b.toNat, saturated := false,
          data := num1 (min (clampTake b.toNat) s.jnl.records.length) ++
            num2 (s.jnl.records.length - clampTake b.toNat) ++ num2 s.jnl.reservation ++
            ((s.jnl.records.take (clampTake b.toNat)).map UsageRecord.bytes).flatten }) := by
  rw [← clampField_flag (by decide), ← List.length_take, ← List.length_drop]
  exact if_neg (not_not.2 rfl)

/-! ### SET WATERMARK (R173) -/

/-- SET WATERMARK has no check after that of the length. -/
theorem serveSetWatermark_num2 {v : Nat} (h : v < 65536) (s : State) :
    serveSetWatermark (num2 v) s =
      (s.withJnl { s.jnl with watermark := clampWatermark v },
        { status := .ok, clamped := v = 0 || 8192 < v, saturated := false,
          data := num2 (clampWatermark v) ++ num2 s.jnl.records.length }) := by
  rw [← clampField_flag (by decide), serveSetWatermark, get2_num2_self h]
  exact if_neg (not_not.2 rfl)

/-- Settles O51: each request has the check of its length alone, and its one field is clamped as a field of a profile is. -/
theorem journalRequestsClamp : Obligations.JournalRequestsClamp := by
  unfold Obligations.JournalRequestsClamp
  refine fun s tag => ⟨fun p length ready => refuses_of_served (serve := serveTakeUsage) rfl ready (if_pos length),
    fun b count clamped ready => ?take,
    fun p length ready => refuses_of_served (serve := serveSetWatermark) rfl ready (if_pos length),
    fun v w width clamped ready => ?watermark⟩
  case take =>
    obtain rfl : count = clampTake b.toNat := clamped.trans (clampField_eq (by decide) _)
    exact exec_of_served (serve := serveTakeUsage) rfl ready (serveTakeUsage_byte b s.taken)
  case watermark =>
    obtain rfl : w = clampWatermark v := clamped.trans (clampField_eq (by decide) _)
    exact exec_of_served (serve := serveSetWatermark) rfl ready (serveSetWatermark_num2 width s.taken)

end Sys2Proof.Machine
end

section
/-! PROOFS. The line events: the receiver byte by byte, the entry to LINK ERROR, BREAK and the end of a transmission, and the
requests of the link itself (R181 to R183, R185, R187, R189). -/

namespace Sys2Proof.Machine

/-! ### The bytes of a record in progress (R180, R181) -/

/-- The length bytes of a record stand before the last of four bytes or more. -/
theorem get2_concat {bytes : List Byte} (long : 3 ≤ bytes.length) (b : Byte) : get2 (bytes ++ [b]) 1 = get2 bytes 1 := by
  match bytes, long with
  | _ :: _ :: _ :: _, _ => rfl

theorem assembledLength_of_long {bytes : List Byte} (long : 3 ≤ bytes.length) : assembledLength bytes = get2 bytes 1 :=
  if_pos long

/-- The bytes of a record that neither test of R181 ends: once known, its length lies in its range and has not been reached. -/
def GoesOn (bytes : List Byte) : Prop :=
  3 ≤ bytes.length → (bytes.length = 3 → 2 ≤ get2 bytes 1 ∧ get2 bytes 1 ≤ 1024) ∧ bytes.length ≠ get2 bytes 1 + 4

namespace State

variable {s : State} {b : Byte}

/-! ### The idle line (R187) -/

/-- A line that is sending, or has nothing to send, stands. -/
theorem lineChoice_of_busy (busy : s.lnk.lineBusy) : s.lineChoice = s := by
  rw [lineChoice, Link.choose_of_lineBusy busy]
  rfl

/-! ### A byte in each state of the receiver (R181) -/

theorem receive_lead (hunt : s.lnk.receiver = .hunt) :
    s.receive 0xA5 = s.withLnk { s.lnk with receiver := .receiving, assembling := [0xA5] } := by
  simp [receive, hunt]

theorem receive_skipped (hunt : s.lnk.receiver = .hunt) (other : b ≠ 0xA5) : s.receive b = s := by
  rw [receive, hunt]
  exact if_neg other

theorem receive_of_receiving (receiving : s.lnk.receiver = .receiving) : s.receive b = s.storeByte b := by
  simp [receive, receiving]

/-- A byte that ends no record is stored. -/
theorem receive_stored (receiving : s.lnk.receiver = .receiving) (goesOn : GoesOn (s.lnk.assembling ++ [b])) :
    s.receive b = s.withLnk { s.lnk with assembling := s.lnk.assembling ++ [b] } := by
  rw [receive_of_receiving receiving, storeByte]
  generalize s.lnk.assembling ++ [b] = bytes at goesOn
  have inRange : ¬(bytes.length = 3 ∧ (assembledLength bytes < 2 ∨ 1024 < assembledLength bytes)) := by
    rintro ⟨three, bad⟩
    have range := (goesOn three.ge).1 three
    rw [assembledLength_of_long three.ge] at bad
    omega
  have unreached : ¬(3 ≤ bytes.length ∧ bytes.length = assembledLength bytes + 4) := by
    rintro ⟨long, reached⟩
    rw [assembledLength_of_long long] at reached
    exact (goesOn long).2 reached
  exact (if_neg inRange).trans (if_neg unreached)

/-- The second length byte of a record gives no length of a record. -/
theorem receive_badLength (receiving : s.lnk.receiver = .receiving) (three : (s.lnk.assembling ++ [b]).length = 3)
    (bad : get2 (s.lnk.assembling ++ [b]) 1 < 2 ∨ 1024 < get2 (s.lnk.assembling ++ [b]) 1) :
    s.receive b = s.enterLinkError .badLength .receiving (s.lnk.assembling ++ [b]) := by
  rw [← assembledLength_of_long three.ge] at bad
  rw [receive_of_receiving receiving, storeByte]
  exact if_pos ⟨three, bad⟩

/-- The byte that reaches the length of a record is its check byte: the record is offered where the sum is 0. -/
theorem receive_last (receiving : s.lnk.receiver = .receiving) (long : 4 ≤ (s.lnk.assembling ++ [b]).length)
    (reached : (s.lnk.assembling ++ [b]).length = get2 (s.lnk.assembling ++ [b]) 1 + 4) :
    s.receive b =
      if byteSum ((s.lnk.assembling ++ [b]).drop 1) = 0 then
        s.withLnk ({ s.lnk with receiver := .hunt, assembling := [] }.offer (recordOf (s.lnk.assembling ++ [b])))
      else s.enterLinkError .badCheck .receiving (s.lnk.assembling ++ [b]) := by
  rw [← assembledLength_of_long (by omega)] at reached
  rw [receive_of_receiving receiving, storeByte]
  exact (if_neg fun short => by omega).trans (if_pos ⟨by omega, reached⟩)

/-! ### The line events -/

theorem exec_framingError_hunt (hunt : s.lnk.receiver = .hunt) :
    exec .framingError s = event (s.enterLinkError .framing .hunt []) := by
  show execFramingError s = _
  simp [execFramingError, hunt]

theorem exec_framingError_receiving (receiving : s.lnk.receiver = .receiving) :
    exec .framingError s = event (s.enterLinkError .framing .receiving s.lnk.assembling) := by
  show execFramingError s = _
  simp [execFramingError, receiving]

theorem exec_framingError_linkError (error : s.lnk.receiver = .linkError) :
    exec .framingError s = .next s.lineChoice := by
  show execFramingError s = _
  simp [execFramingError, error, event]

theorem exec_inboundByte (s : State) (b : Byte) : exec (.inboundByte b) s = .next (s.receive b).lineChoice := rfl

theorem exec_breakLine (busy : s.lnk.lineBusy) :
    exec .breakLine s = .next (s.withLnk { s.lnk with receiver := .hunt, assembling := [] }) := by
  have still : (s.withLnk { s.lnk with receiver := .hunt, assembling := [] }).lnk.lineBusy := busy
  exact congrArg Host.Outcome.next (lineChoice_of_busy still)

/-- What an entry to LINK ERROR with a given signature leaves (R182). -/
theorem exec_of_linkError {c : Instr} {cause : LinkCause} {taken : Receiver} {bytes : List Byte} {g : Signature}
    (entry : exec c s = event (s.enterLinkError cause taken bytes)) (signed : g = signatureOf cause taken bytes s.clk.serial) :
    exec c s = .next
      ((s.withLnk { s.lnk with receiver := .linkError, assembling := [], signature := some g,
                               linkErrors := min (s.lnk.linkErrors + 1) 65535 }).notice 0x85
        (g.bytes ++ num2 (min (s.lnk.linkErrors + 1) 65535))).lineChoice := by
  rw [entry, signed]
  rfl

end State

open State

/-- Settles O5: each row of the receiver's table is what a byte does in one state of the receiver. -/
theorem receiverFollowsItsTable : Obligations.ReceiverFollowsItsTable := by
  unfold Obligations.ReceiverFollowsItsTable
  refine fun s b => ⟨fun hunt lead => ?lead, fun hunt other => ?skipped,
    fun error => ⟨?discarded, exec_framingError_linkError error⟩, fun receiving table => ?stored⟩
  case lead => rw [lead, exec_inboundByte, receive_lead hunt]
  case skipped => rw [exec_inboundByte, receive_skipped hunt other]
  case discarded => rw [exec_inboundByte, receive_of_linkError s b error]
  case stored =>
    have goesOn : GoesOn (s.lnk.assembling ++ [b]) := by
      intro long
      rw [List.length_append, List.length_singleton] at long ⊢
      obtain short | ⟨two, low, high⟩ | ⟨three, unreached⟩ := table
      · omega
      · exact ⟨fun _ => ⟨low, high⟩, by omega⟩
      · rw [get2_concat three]
        exact ⟨fun _ => by omega, unreached⟩
    rw [exec_inboundByte, receive_stored receiving goesOn]

/-- Settles O6: each cause enters LINK ERROR with the bytes that it leaves stored, and the signature is read off them. -/
theorem linkErrorEntry : Obligations.LinkErrorEntry := by
  unfold Obligations.LinkErrorEntry
  rintro s c ⟨cause, taken, count, length, kind, tag, serial⟩ signed entry
  dsimp only at signed entry
  obtain ⟨rfl, hunt, rfl, rfl, rfl, rfl, rfl, rfl⟩ | ⟨rfl, receiving, rfl, rfl, rfl, rfl, rfl, rfl⟩ |
    ⟨high, low, receiving, stored, rfl, bad, rfl, rfl, rfl, rfl, rfl, rfl⟩ |
    ⟨check, receiving, rfl, long, reached, sum, rfl, rfl, rfl, rfl, rfl, rfl⟩ := entry
  case inl => exact exec_of_linkError (exec_framingError_hunt hunt) (by rw [signed]; rfl)
  case inr.inl => exact exec_of_linkError (exec_framingError_receiving receiving) (by rw [signed]; rfl)
  case inr.inr.inl =>
    have ended : s.receive low = s.enterLinkError .badLength .receiving (s.lnk.assembling ++ [low]) :=
      receive_badLength receiving (by rw [stored]; rfl) (by rw [stored]; exact bad)
    refine exec_of_linkError (congrArg event ended) ?_
    rw [signed, stored]
    rfl
  case inr.inr.inr =>
    have length : (s.lnk.assembling ++ [check]).length = s.lnk.assembling.length + 1 := List.length_append
    have wrong : byteSum ((s.lnk.assembling ++ [check]).drop 1) ≠ 0 := by
      rw [List.drop_append_of_le_length (by omega)]
      simpa [byteSum] using sum
    have ended := receive_last (b := check) receiving (by omega) (by rw [length, get2_concat (by omega), reached])
    rw [if_neg wrong] at ended
    refine exec_of_linkError (congrArg event ended) ?_
    rw [signatureOf, length, assembledLength_of_long (by omega), get2_concat (by omega), signed]
    simp [List.getElem?_append_left (show 3 < s.lnk.assembling.length by omega),
      List.getElem?_append_left (show 4 < s.lnk.assembling.length by omega)]

/-- Settles O7: the line choice after a BREAK finds the line as it was, and the receiver is in HUNT for the next byte. -/
theorem breakReturnsToHunt : Obligations.BreakReturnsToHunt := by
  unfold Obligations.BreakReturnsToHunt
  refine fun s busy => ⟨exec_breakLine busy, fun hunt empty => ?still, fun t ran => ?lead⟩
  case still =>
    rw [exec_breakLine busy, ← hunt, ← empty]
    rfl
  case lead =>
    cases (exec_breakLine busy).symm.trans ran
    have still : (s.withLnk { s.lnk with receiver := .receiving, assembling := [0xA5] }).lnk.lineBusy := busy
    rw [exec_inboundByte, receive_lead rfl]
    exact congrArg Host.Outcome.next (lineChoice_of_busy still)

/-- Settles O8: the line, idle once its record is sent, chooses by what waits in the two queues. -/
theorem lineSendsRepliesFirst : Obligations.LineSendsRepliesFirst := by
  unfold Obligations.LineSendsRepliesFirst
  intro s
  have chosen : exec .recordTransmissionEnd s = .next (s.withLnk { s.lnk with sending := none }.choose) := rfl
  refine ⟨fun r rest replies => ?_, fun r rest replies notices => ?_, fun replies notices => ?_⟩
  · rw [chosen, Link.choose]; simp only [replies]
  · rw [chosen, Link.choose]; simp only [replies, notices]
  · rw [chosen, Link.choose]; simp only [replies, notices]

/-- Settles O9: QUERY LINK has the check of its length alone, and a record of an unknown kind is refused whatever it holds. -/
theorem linkServesItsOwnRequests : Obligations.LinkServesItsOwnRequests := by
  unfold Obligations.LinkServesItsOwnRequests
  refine ⟨fun s tag ready => exec_of_served (serve := serveQueryLink) rfl ready rfl,
    fun s tag p ready length => refuses_of_served (serve := serveQueryLink) rfl ready (if_pos length),
    fun s kind tag payload unknown ready => ?unknown⟩
  case unknown =>
    have run : exec (.unknownKindRequest kind tag payload) s =
        request kind tag payload (fun _ s => refuse s .badRequest) s := if_neg (by simpa using unknown)
    exact refuses_of_served run ready rfl

end Sys2Proof.Machine
end

section
/-! PROOFS. A record on the line: its bytes come in one by one and are offered as that record, and a request that cannot be taken
comes in so (R180, R181, R184, R185; log 1). -/

namespace Sys2Proof.Machine

/-! ### The bytes of a record (R180) -/

namespace LinkRecord

variable (r : LinkRecord)

/-- The bytes of a record before its check byte. -/
def front : List Byte := 0xA5 :: (num2 (r.payload.length + 2) ++ r.kind :: r.tag :: r.payload)

/-- The check byte of a record. -/
def check : Byte := BitVec.ofNat 8 (256 - byteSum (r.front.drop 1))

theorem bytes_eq : r.bytes = r.front ++ [r.check] := rfl

theorem length_front : r.front.length = r.payload.length + 5 := by simp [front, num2]

theorem byteSum_bytes : byteSum (r.bytes.drop 1) = 0 := byteSum_check (r.front.drop 1)

theorem recordOf_bytes : recordOf r.bytes = r := by
  have payload : (r.bytes.drop 5).dropLast = r.payload := List.dropLast_concat (l₁ := r.payload)
  rw [recordOf, payload]
  rfl

variable {r} {bytes : List Byte}

/-- The length of a record is known from its third byte on. -/
theorem get2_of_prefix (fits : r.payload.length ≤ 1022) (pre : bytes <+: r.bytes) (long : 3 ≤ bytes.length) :
    get2 bytes 1 = r.payload.length + 2 := by
  obtain ⟨rest, whole⟩ := pre
  match bytes, long with
  | lead :: high :: low :: more, _ =>
    have length : get2 (lead :: high :: low :: (more ++ rest)) 1 = get2 r.bytes 1 := congrArg (get2 · 1) whole
    exact length.trans (get2_num2 (by omega) (r.kind :: r.tag :: (r.payload ++ [r.check])))

/-- No byte before the check byte ends a record that fits its frame. -/
theorem goesOn_of_prefix (fits : r.payload.length ≤ 1022) (pre : bytes <+: r.front) : GoesOn bytes := by
  intro long
  have short := r.length_front ▸ pre.length_le
  rw [get2_of_prefix fits (pre.trans ⟨_, r.bytes_eq.symm⟩) long]
  omega

end LinkRecord

namespace State

variable {s : State} {r : LinkRecord}

/-! ### The bytes come in (R181) -/

/-- One INBOUND_BYTE: the receiver takes the byte, and the line makes its choice. -/
def comeIn (s : State) (b : Byte) : State := (s.receive b).lineChoice

theorem arrival_eq_foldl (s : State) (r : LinkRecord) : s.arrival r = (r.front.foldl comeIn s).comeIn r.check :=
  List.foldl_concat ..

theorem arrival_lineChoice (s : State) (r : LinkRecord) : (s.arrival r).lineChoice = s.arrival r := by
  rw [arrival_eq_foldl, comeIn, lineChoice_lineChoice]

/-- The lead byte starts a record on a line in HUNT. -/
theorem comeIn_lead (hunt : s.lnk.receiver = .hunt) :
    s.comeIn 0xA5 = s.lineChoice.withLnk { s.lineChoice.lnk with receiver := .receiving, assembling := [0xA5] } := by
  have chosen : ({ s.lnk with receiver := .receiving, assembling := [0xA5] } : Link).choose =
      { s.lnk.choose with receiver := .receiving, assembling := [0xA5] } := by
    unfold Link.choose
    dsimp only
    split
    · rfl
    · split
      · rfl
      · split <;> rfl
  rw [comeIn, receive_lead hunt, lineChoice, withLnk_lnk, chosen]
  rfl

/-- The bytes of a record up to its check byte are stored. -/
theorem foldl_comeIn_stored (fits : r.payload.length ≤ 1022) (more : List Byte) (receiving : s.lnk.receiver = .receiving)
    (busy : s.lnk.lineBusy) (pre : s.lnk.assembling ++ more <+: r.front) :
    more.foldl comeIn s = s.withLnk { s.lnk with assembling := s.lnk.assembling ++ more } := by
  induction more generalizing s with
  | nil => rw [List.append_nil]; rfl
  | cons b more ih =>
    rw [List.append_cons] at pre ⊢
    have goesOn := LinkRecord.goesOn_of_prefix fits ((List.prefix_append ..).trans pre)
    have stored : s.comeIn b = s.withLnk { s.lnk with assembling := s.lnk.assembling ++ [b] } := by
      rw [comeIn, receive_stored receiving goesOn]
      exact lineChoice_of_busy (s := s.withLnk { s.lnk with assembling := s.lnk.assembling ++ [b] }) busy
    rw [List.foldl_cons, stored]
    exact ih (s := s.withLnk { s.lnk with assembling := s.lnk.assembling ++ [b] }) receiving busy pre

/-- The check byte completes the record, which is offered (R184). -/
theorem comeIn_check (fits : r.payload.length ≤ 1022) (receiving : s.lnk.receiver = .receiving)
    (front : s.lnk.assembling = r.front) :
    s.comeIn r.check = (s.withLnk ({ s.lnk with receiver := .hunt, assembling := [] }.offer r)).lineChoice := by
  have whole : s.lnk.assembling ++ [r.check] = r.bytes := by rw [front, r.bytes_eq]
  have length : r.bytes.length = r.payload.length + 6 := by rw [r.bytes_eq, List.length_append, r.length_front]; rfl
  have known := LinkRecord.get2_of_prefix fits r.bytes.prefix_rfl (by omega)
  have ended := receive_last (b := r.check) receiving (by rw [whole]; omega) (by rw [whole]; omega)
  rw [whole, if_pos r.byteSum_bytes, r.recordOf_bytes] at ended
  rw [comeIn, ended]

/-- The bytes of a record that fits its frame are received as that record. -/
theorem arrival_of_hunt (hunt : s.lnk.receiver = .hunt) (empty : s.lnk.assembling = []) (fits : r.payload.length ≤ 1022) :
    s.arrival r = (s.lineChoice.withLnk (s.lineChoice.lnk.offer r)).lineChoice := by
  let t := s.lineChoice.withLnk { s.lineChoice.lnk with receiver := .receiving, assembling := [0xA5] }
  have stored : (r.front.drop 1).foldl comeIn t = t.withLnk { t.lnk with assembling := r.front } :=
    foldl_comeIn_stored (s := t) fits _ rfl s.lnk.lineBusy_choose List.prefix_rfl
  have back : { s.lineChoice.lnk with receiver := .hunt, assembling := [] } = s.lineChoice.lnk := by
    have hunt' : s.lineChoice.lnk.receiver = .hunt := (s.lnk.choose_receiver).trans hunt
    have empty' : s.lineChoice.lnk.assembling = [] := (s.lnk.choose_assembling).trans empty
    rw [← hunt', ← empty']
  calc s.arrival r = ((r.front.drop 1).foldl comeIn (s.comeIn 0xA5)).comeIn r.check := arrival_eq_foldl s r
    _ = (t.withLnk { t.lnk with assembling := r.front }).comeIn r.check := by rw [comeIn_lead hunt, stored]
    _ = (s.lineChoice.withLnk (({ s.lineChoice.lnk with receiver := .hunt, assembling := [] } : Link).offer r)).lineChoice :=
      comeIn_check (s := t.withLnk { t.lnk with assembling := r.front }) fits rfl rfl
    _ = (s.lineChoice.withLnk (s.lineChoice.lnk.offer r)).lineChoice := by rw [back]

/-! ### A run of bytes -/

/-- The commands that wait are nothing to the receiver. -/
theorem comeIn_withPending (s : State) (q : List Instr) (b : Byte) : (s.withPending q).comeIn b = (s.comeIn b).withPending q := by
  have received : (s.withPending q).receive b = (s.receive b).withPending q := by
    unfold receive
    rw [withPending_lnk]
    split
    · split <;> rfl
    · unfold storeByte
      dsimp only [withPending_lnk]
      split
      · rfl
      · split
        · split <;> rfl
        · rfl
    · rfl
  rw [comeIn, received]
  rfl

/-- A run of INBOUND_BYTE commands, one for each byte. -/
theorem run_inboundBytes (s : State) (bytes : List Byte) :
    Host.Core.run Sys2Proof.core bytes.length (s.withPending (bytes.map Instr.inboundByte)) =
      Host.Outcome.next ((bytes.foldl comeIn s).withPending []) := by
  induction bytes generalizing s with
  | nil => rfl
  | cons b bytes ih =>
    have first : step (s.withPending ((b :: bytes).map Instr.inboundByte)) =
        .next ((s.comeIn b).withPending (bytes.map Instr.inboundByte)) :=
      congrArg Host.Outcome.next (s.comeIn_withPending _ b)
    exact (run_of_step bytes.length first).trans (ih (s.comeIn b))

theorem run_arrival (s : State) (r : LinkRecord) :
    Host.Core.run Sys2Proof.core r.bytes.length (s.withPending (r.bytes.map Instr.inboundByte)) =
      Host.Outcome.next ((s.arrival r).withPending []) := run_inboundBytes s r.bytes

theorem arrival_pending (s : State) (r : LinkRecord) : (s.arrival r).pending = s.pending := by rw [arrival_eq]; rfl

end State

/-- Settles O4: the bytes before the check byte are stored, and the check byte offers the record they make up. -/
theorem framedRecordIsOffered : Obligations.FramedRecordIsOffered := by
  unfold Obligations.FramedRecordIsOffered
  intro s r hunt empty idle fits
  have still : (s.arrival r).withPending [] = s.arrival r := by rw [← idle, ← s.arrival_pending r]; rfl
  rw [State.run_arrival, still, State.arrival_of_hunt hunt empty fits]

end Sys2Proof.Machine
end

section
/-! PROOFS. What a request leaves of the line and its queues: the events that it brings about raise notices at most (R185 to
R188). -/

namespace Sys2Proof.Machine

/-- Between two states no request, no reply and no record in transmission has come or gone, and no command that waits. -/
structure State.LineStands (s t : State) : Prop where
  requests : t.lnk.requests = s.lnk.requests
  replies : t.lnk.replies = s.lnk.replies
  sending : t.lnk.sending = s.lnk.sending
  pending : t.pending = s.pending

namespace State

variable {s t u : State}

namespace LineStands

theorem of_lnk (lnk : t.lnk = s.lnk) (pending : t.pending = s.pending) : s.LineStands t :=
  ⟨by rw [lnk], by rw [lnk], by rw [lnk], pending⟩

theorem refl (s : State) : s.LineStands s := of_lnk rfl rfl

theorem trans (h : s.LineStands t) (g : t.LineStands u) : s.LineStands u where
  requests := g.requests.trans h.requests
  replies := g.replies.trans h.replies
  sending := g.sending.trans h.sending
  pending := g.pending.trans h.pending

theorem of_touched {l : List Nat} (h : Touched l s t) (sending : t.lnk.sending = s.lnk.sending) : s.LineStands t :=
  ⟨h.requests, h.replies, sending, h.pending⟩

end LineStands

/-! ### The record in transmission, through the events on deliveries (R187) -/

section Sending

theorem foldl_sending {α : Type} {f : State → α → State} (h : ∀ s a, (f s a).lnk.sending = s.lnk.sending) (l : List α)
    (s : State) : (l.foldl f s).lnk.sending = s.lnk.sending := foldl_fixed (read := fun s => s.lnk.sending) h l s

variable (s : State) (n : Nat)

@[simp] theorem endDelivery_sending (d : Delivery) (e : Ending) (r : Reason) :
    (s.endDelivery n d e r).lnk.sending = s.lnk.sending := by
  rw [endDelivery_lnk]
  dsimp only
  split_ifs <;> simp

@[simp] theorem refile_sending (d : Delivery) (due : Serial) : (s.refile n d due).lnk.sending = s.lnk.sending := by
  unfold refile
  split <;> simp

@[simp] theorem revert_sending (d : Delivery) : (s.revert n d).lnk.sending = s.lnk.sending := by
  rw [revert_eq, refile_sending]
  unfold writeAttempt
  split <;> simp

@[simp] theorem cancelOne_sending : (cancelOne s n).lnk.sending = s.lnk.sending := by
  unfold cancelOne
  split <;> simp

@[simp] theorem launchOne_sending (kept : GroupSet) : (launchOne kept s n).lnk.sending = s.lnk.sending := by
  unfold launchOne
  split
  · rfl
  · split_ifs <;> simp

@[simp] theorem endFrameOne_sending : (endFrameOne s n).lnk.sending = s.lnk.sending := by
  unfold endFrameOne
  split
  · rfl
  · split
    · split
      · simp
      · dsimp only
        split <;> simp
    · rfl

@[simp] theorem resolveOne_sending : (resolveOne s n).lnk.sending = s.lnk.sending := by
  unfold resolveOne countMiss countExpired
  split
  · rfl
  · split
    · dsimp only
      split_ifs <;> simp
    · rfl

@[simp] theorem endingStep_sending (w : BoundaryWork) (g : EndingGroup) : (endingStep w s g).lnk.sending = s.lnk.sending := by
  cases g with
  | ended => exact foldl_sending endFrameOne_sending _ _
  | missed => exact foldl_sending resolveOne_sending _ _
  | dropped => exact foldl_sending (launchOne_sending · · _) _ _

end Sending

/-! ### The events that requests bring about -/

namespace LineStands

theorem endDelivery (s : State) (n : Nat) (d : Delivery) (e : Ending) (r : Reason) : s.LineStands (s.endDelivery n d e r) :=
  of_touched (.endDelivery s n d e r) (by simp)

theorem boundaryEvent (s : State) (o : EndingOrder) : s.LineStands (s.boundaryEvent o) := by
  have turned : s.LineStands s.turned := of_lnk s.turned_lnk s.turned_pending
  have settled : s.turned.LineStands (s.settled o) :=
    of_touched (s.settled_touched o) (foldl_sending (endingStep_sending · _) _ _)
  obtain ⟨_, moved⟩ := s.boundaryEvent_only o
  rw [moved]
  exact (turned.trans settled).trans (of_lnk rfl rfl)

theorem stopped (s : State) : s.LineStands s.stopped := by
  obtain ⟨_, _, dropped⟩ := s.dropped_only
  rw [dropped]
  exact of_lnk rfl rfl

theorem airOff (s : State) : s.LineStands s.airOff := by
  have stopping : s.LineStands (s.withBld { s.bld with air := .stopping }) := of_lnk rfl rfl
  have reverted : (s.withBld { s.bld with air := .stopping }).LineStands s.offAir :=
    of_touched s.offAir_touched (foldl_sending (launchOne_sending · · 0) _ _)
  obtain ⟨_, _, discarded⟩ := s.airOff_only
  rw [discarded]
  exact (stopping.trans reverted).trans (of_lnk rfl rfl)

theorem trafficReset (s : State) : s.LineStands s.trafficReset := by
  have ended : s.LineStands (s.liveNumbers.foldl cancelOne s) :=
    of_touched (.foldl Touched.cancelOne _ _) (foldl_sending cancelOne_sending _ _)
  obtain ⟨_, _, emptied⟩ := s.trafficReset_only
  rw [emptied]
  exact ended.trans (of_lnk rfl rfl)

/-- Intake leaves the link alone (R52). -/
theorem accept (s : State) (n : Nat) (x : Submission) (o : Option Nat) : s.LineStands (s.accept n x o).state := by
  unfold State.accept
  dsimp only
  rw [enroll_only, takeBody_only]
  exact of_lnk rfl rfl

theorem takeMembers (x : Submission) (l : List Nat) (g : GroupProgress) :
    g.state.LineStands (l.foldl (takeMember x) g).state := by
  have one (g : GroupProgress) (n : Nat) : g.state.LineStands (takeMember x g n).state := by
    unfold takeMember
    split
    · exact .refl g.state
    · exact .accept ..
  induction l generalizing g with
  | nil => exact .refl g.state
  | cons n l ih => exact (one g n).trans (ih _)

end LineStands

end State

end Sys2Proof.Machine
end

section
/-! PROOFS. Every request, ready or not: what its service answers, and the statements on all requests (R184 to R186). -/

namespace Sys2Proof.Machine

open State

/-! ### What a service can answer (R186) -/

/-- A service refuses and changes nothing, or answers OK and leaves the line and its queues. -/
inductive State.Serves (s : State) : State × Answer → Prop
  | refused (x : Status) : s.Serves (refuse s x)
  | accepted {u : State} {a : Answer} (ok : a.status = .ok) (stands : s.LineStands u) : s.Serves (u, a)

namespace State.Serves

variable {s u : State} {a : Answer} {x : Status} {p : Prop} [Decidable p] {one other : State × Answer}

/-- A service that goes one of two ways. -/
theorem branch (yes : s.Serves one) (no : s.Serves other) : s.Serves (if p then one else other) := by
  split
  · exact yes
  · exact no

/-- A check before the rest of a service. -/
theorem check (passed : s.Serves other) : s.Serves (if p then refuse s x else other) := .branch (.refused x) passed

/-- A service that writes outside the link. -/
theorem written (ok : a.status = .ok) (lnk : u.lnk = s.lnk) (pending : u.pending = s.pending) : s.Serves (u, a) :=
  .accepted ok (.of_lnk lnk pending)

/-- A service that reads alone. -/
theorem read (ok : a.status = .ok) : s.Serves (s, a) := .accepted ok (.refl s)

end State.Serves

/-! ### The unit directory (R8 to R13) -/

theorem serveAssignSubscriber_serves (p : List Byte) (s : State) : s.Serves (serveAssignSubscriber p s) := by
  unfold serveAssignSubscriber
  refine .check (.check ?_)
  split
  · exact .refused _
  · exact .check <| .check <| .check <| .check <| .written rfl rfl rfl

theorem serveModifySubscriber_serves (p : List Byte) (s : State) : s.Serves (serveModifySubscriber p s) := by
  have rekeyed (n : Nat) (old new : Subscriber) : s.LineStands (s.rekey n old new) := by
    unfold State.rekey; split <;> exact .of_lnk rfl rfl
  have relinked (t : State) (old new : Nat) : t.LineStands (t.relink old new) := by
    unfold State.relink; split <;> exact .of_lnk rfl rfl
  unfold serveModifySubscriber
  refine .check (.check ?_)
  dsimp only
  split
  · exact .refused _
  · exact .check <| .check <| .check <| .check <| .check <| .accepted rfl ((rekeyed ..).trans (relinked ..))

theorem serveSuspend_serves (p : List Byte) (s : State) : s.Serves (serveSuspend p s) :=
  .check <| .check <| .branch (.written rfl rfl rfl) (.refused _)

theorem serveResume_serves (p : List Byte) (s : State) : s.Serves (serveResume p s) :=
  .check <| .check <| .branch (.written rfl rfl rfl) (.refused _)

theorem serveRelease_serves (p : List Byte) (s : State) : s.Serves (serveRelease p s) :=
  .check <| .check <| .check <| .check <| .written rfl rfl rfl

theorem serveQuerySubscriber_serves (p : List Byte) (s : State) : s.Serves (serveQuerySubscriber p s) := by
  unfold serveQuerySubscriber
  refine .check (.branch (.check (.read rfl)) (.branch ?_ (.refused _)))
  split
  · exact .refused _
  · exact .read rfl

/-! ### The account unit (R23 to R35) -/

theorem serveOpenAccount_serves (p : List Byte) (s : State) : s.Serves (serveOpenAccount p s) :=
  .check <| .check <| .check <| .check <| .written rfl rfl rfl

theorem serveAdjustAccount_serves (p : List Byte) (s : State) : s.Serves (serveAdjustAccount p s) :=
  .check <| .check <| .check <| .written rfl rfl rfl

theorem serveSetCredit_serves (p : List Byte) (s : State) : s.Serves (serveSetCredit p s) :=
  .check <| .check <| .check <| .written rfl rfl rfl

theorem serveSetTariffClass_serves (p : List Byte) (s : State) : s.Serves (serveSetTariffClass p s) :=
  .check <| .check <| .check <| .check <| .written rfl rfl rfl

theorem serveLock_serves (p : List Byte) (s : State) : s.Serves (serveLock p s) :=
  .check <| .check <| .branch (.written rfl rfl rfl) (.refused _)

theorem serveUnlock_serves (p : List Byte) (s : State) : s.Serves (serveUnlock p s) :=
  .check <| .check <| .branch (.written rfl rfl rfl) (.refused _)

theorem serveClose_serves (p : List Byte) (s : State) : s.Serves (serveClose p s) :=
  .check <| .check <| .check <| .check <| .written rfl rfl rfl

theorem serveQueryAccount_serves (p : List Byte) (s : State) : s.Serves (serveQueryAccount p s) :=
  .check <| .check <| .read rfl

theorem serveLoadTariff_serves (p : List Byte) (s : State) : s.Serves (serveLoadTariff p s) :=
  .check <| .check <| .check <| .written rfl rfl rfl

theorem serveQueryTariff_serves (p : List Byte) (s : State) : s.Serves (serveQueryTariff p s) :=
  .check <| .check <| .read rfl

theorem serveQueryProfile_serves (p : List Byte) (s : State) : s.Serves (serveQueryProfile p s) := by
  unfold serveQueryProfile
  refine .check ?_
  split
  · exact .refused _
  · exact .read rfl

theorem serveSetPriorityProfile_serves (p : List Byte) (s : State) : s.Serves (serveSetPriorityProfile p s) := by
  unfold serveSetPriorityProfile
  refine .check ?_
  split
  · exact .refused _
  · exact .written rfl (s.setProfile_lnk ..) (s.setProfile_pending ..)

/-! ### Intake, the text store and the deliveries (R45, R60, R67, R86, R87) -/

theorem serveSubmitPage_serves (p : List Byte) (s : State) : s.Serves (serveSubmitPage p s) := by
  unfold serveSubmitPage
  split
  · exact .refused _
  split
  · exact .refused _
  · exact .accepted rfl (.accept ..)

theorem serveSubmitGroupPage_serves (p : List Byte) (s : State) : s.Serves (serveSubmitGroupPage p s) := by
  unfold serveSubmitGroupPage
  split
  · exact .refused _
  · exact .accepted rfl (.takeMembers _ _ { state := s, body := none, accepted := 0, entries := [] })

theorem serveQueryStore_serves (p : List Byte) (s : State) : s.Serves (serveQueryStore p s) :=
  .branch (.read rfl) (.branch (.check (.read rfl)) (.refused _))

theorem serveCancel_serves (p : List Byte) (s : State) : s.Serves (serveCancel p s) := by
  unfold serveCancel
  refine .check ?_
  dsimp only
  split
  · exact .refused _
  · exact .branch (.accepted rfl (.endDelivery ..)) (.refused _)

theorem serveQueryDelivery_serves (p : List Byte) (s : State) : s.Serves (serveQueryDelivery p s) := by
  unfold serveQueryDelivery
  refine .branch ?_ (.branch (.read rfl) (.refused _))
  dsimp only
  split
  · exact .refused _
  · exact .read rfl

/-! ### The frame clock (R96 to R100) -/

theorem serveQueryClock_serves (p : List Byte) (s : State) : s.Serves (serveQueryClock p s) :=
  .check <| .read rfl

theorem serveSetClock_serves (p : List Byte) (s : State) : s.Serves (serveSetClock p s) :=
  .check <| .check <| .written rfl rfl rfl

theorem serveStartClock_serves (p : List Byte) (s : State) : s.Serves (serveStartClock p s) := by
  have started : s.LineStands (s.withClk s.clk.start) := .of_lnk rfl rfl
  exact .check <| .check <| .accepted rfl (started.trans (.boundaryEvent ..))

theorem serveStopClock_serves (p : List Byte) (s : State) : s.Serves (serveStopClock p s) :=
  .check <| .check <| .check <| .accepted rfl (.stopped s)

theorem serveSetTrim_serves (p : List Byte) (s : State) : s.Serves (serveSetTrim p s) :=
  .check <| .written rfl rfl rfl

/-! ### The zone controller and the frame builder (R104, R109, R116, R118, R123, R124, R139) -/

theorem serveSetZone_serves (p : List Byte) (s : State) : s.Serves (serveSetZone p s) := by
  unfold serveSetZone
  refine .check ?_
  split
  · exact .refused _
  refine .check ?_
  split
  · exact .refused _
  · exact .written rfl rfl rfl

theorem serveSetGroup_serves (p : List Byte) (s : State) : s.Serves (serveSetGroup p s) := by
  unfold serveSetGroup
  refine .check ?_
  split
  · exact .refused _
  · exact .check <| .check <| .written rfl rfl rfl

theorem serveClearZoneFlags_serves (p : List Byte) (s : State) : s.Serves (serveClearZoneFlags p s) :=
  .check <| .check <| .written rfl rfl rfl

theorem serveQueryZone_serves (p : List Byte) (s : State) : s.Serves (serveQueryZone p s) :=
  .check <| .branch (.check (.read rfl)) (.branch (.check (.read rfl)) (.refused _))

theorem serveAirOn_serves (p : List Byte) (s : State) : s.Serves (serveAirOn p s) := by
  unfold serveAirOn
  refine .check ?_
  split
  · exact .refused _
  · exact .refused _
  · exact .check <| .written rfl rfl rfl

theorem serveAirOff_serves (p : List Byte) (s : State) : s.Serves (serveAirOff p s) := by
  cases p with
  | cons b p => exact .refused .badRequest
  | nil =>
    cases air : s.bld.air with
    | halted => simpa [serveAirOff, air] using Serves.refused .wrongState
    | stopping => simpa [serveAirOff, air] using Serves.refused .busy
    | on => rw [serveAirOff_of_on air]; exact .accepted rfl (.airOff s)

theorem serveQueryAir_serves (p : List Byte) (s : State) : s.Serves (serveQueryAir p s) :=
  .branch (.read rfl) (.branch (.check <| .check (.read rfl)) (.refused _))

/-! ### The receipt unit, the usage journal and the link (R161, R172 to R175, R189, R190) -/

theorem serveQueryReceipts_serves (p : List Byte) (s : State) : s.Serves (serveQueryReceipts p s) :=
  .branch (.read rfl) (.branch (.check <| .check (.read rfl)) (.refused _))

theorem serveTakeUsage_serves (p : List Byte) (s : State) : s.Serves (serveTakeUsage p s) :=
  .check <| .written rfl rfl rfl

theorem serveSetWatermark_serves (p : List Byte) (s : State) : s.Serves (serveSetWatermark p s) :=
  .check <| .written rfl rfl rfl

theorem serveQueryJournal_serves (p : List Byte) (s : State) : s.Serves (serveQueryJournal p s) :=
  .check <| .read rfl

theorem serveTrafficReset_serves (p : List Byte) (s : State) : s.Serves (serveTrafficReset p s) :=
  .check <| .accepted rfl (.trafficReset s)

theorem serveQueryLink_serves (p : List Byte) (s : State) : s.Serves (serveQueryLink p s) :=
  .check <| .accepted rfl { LineStands.refl s with }

theorem serveFullReset_serves (p : List Byte) (s : State) : s.Serves (serveFullReset p s) :=
  .check <| .accepted rfl { LineStands.refl s with }

/-! ### The command of a request (R184, R185; log 1) -/

/-- The command of a record serves it as a request. -/
structure Requests (c : Instr) (r : LinkRecord) (serve : List Byte → State → State × Answer) : Prop where
  serves : ∀ (p : List Byte) (s : State), s.Serves (serve p s)
  exec_eq : ∀ s, exec c s = request r.kind r.tag r.payload serve s

/-- Each command that has a record is the request of that record. -/
theorem requests_of_record {c : Instr} {r : LinkRecord} (record : c.record = some r) : ∃ serve, Requests c r serve := by
  cases c with
  | assignSubscriber tag p => cases record; exact ⟨_, serveAssignSubscriber_serves, fun _ => rfl⟩
  | modifySubscriber tag p => cases record; exact ⟨_, serveModifySubscriber_serves, fun _ => rfl⟩
  | suspend tag p => cases record; exact ⟨_, serveSuspend_serves, fun _ => rfl⟩
  | resume tag p => cases record; exact ⟨_, serveResume_serves, fun _ => rfl⟩
  | release tag p => cases record; exact ⟨_, serveRelease_serves, fun _ => rfl⟩
  | querySubscriber tag p => cases record; exact ⟨_, serveQuerySubscriber_serves, fun _ => rfl⟩
  | openAccount tag p => cases record; exact ⟨_, serveOpenAccount_serves, fun _ => rfl⟩
  | adjustAccount tag p => cases record; exact ⟨_, serveAdjustAccount_serves, fun _ => rfl⟩
  | setCredit tag p => cases record; exact ⟨_, serveSetCredit_serves, fun _ => rfl⟩
  | setTariffClass tag p => cases record; exact ⟨_, serveSetTariffClass_serves, fun _ => rfl⟩
  | lock tag p => cases record; exact ⟨_, serveLock_serves, fun _ => rfl⟩
  | unlock tag p => cases record; exact ⟨_, serveUnlock_serves, fun _ => rfl⟩
  | close tag p => cases record; exact ⟨_, serveClose_serves, fun _ => rfl⟩
  | queryAccount tag p => cases record; exact ⟨_, serveQueryAccount_serves, fun _ => rfl⟩
  | loadTariff tag p => cases record; exact ⟨_, serveLoadTariff_serves, fun _ => rfl⟩
  | queryTariff tag p => cases record; exact ⟨_, serveQueryTariff_serves, fun _ => rfl⟩
  | setPriorityProfile tag p => cases record; exact ⟨_, serveSetPriorityProfile_serves, fun _ => rfl⟩
  | queryProfile tag p => cases record; exact ⟨_, serveQueryProfile_serves, fun _ => rfl⟩
  | submitPage tag p => cases record; exact ⟨_, serveSubmitPage_serves, fun _ => rfl⟩
  | submitGroupPage tag p => cases record; exact ⟨_, serveSubmitGroupPage_serves, fun _ => rfl⟩
  | queryStore tag p => cases record; exact ⟨_, serveQueryStore_serves, fun _ => rfl⟩
  | cancel tag p => cases record; exact ⟨_, serveCancel_serves, fun _ => rfl⟩
  | queryDelivery tag p => cases record; exact ⟨_, serveQueryDelivery_serves, fun _ => rfl⟩
  | queryClock tag p => cases record; exact ⟨_, serveQueryClock_serves, fun _ => rfl⟩
  | setClock tag p => cases record; exact ⟨_, serveSetClock_serves, fun _ => rfl⟩
  | startClock tag p => cases record; exact ⟨_, serveStartClock_serves, fun _ => rfl⟩
  | stopClock tag p => cases record; exact ⟨_, serveStopClock_serves, fun _ => rfl⟩
  | setTrim tag p => cases record; exact ⟨_, serveSetTrim_serves, fun _ => rfl⟩
  | setZone tag p => cases record; exact ⟨_, serveSetZone_serves, fun _ => rfl⟩
  | setGroup tag p => cases record; exact ⟨_, serveSetGroup_serves, fun _ => rfl⟩
  | clearZoneFlags tag p => cases record; exact ⟨_, serveClearZoneFlags_serves, fun _ => rfl⟩
  | queryZone tag p => cases record; exact ⟨_, serveQueryZone_serves, fun _ => rfl⟩
  | airOn tag p => cases record; exact ⟨_, serveAirOn_serves, fun _ => rfl⟩
  | airOff tag p => cases record; exact ⟨_, serveAirOff_serves, fun _ => rfl⟩
  | queryAir tag p => cases record; exact ⟨_, serveQueryAir_serves, fun _ => rfl⟩
  | queryReceipts tag p => cases record; exact ⟨_, serveQueryReceipts_serves, fun _ => rfl⟩
  | takeUsage tag p => cases record; exact ⟨_, serveTakeUsage_serves, fun _ => rfl⟩
  | setWatermark tag p => cases record; exact ⟨_, serveSetWatermark_serves, fun _ => rfl⟩
  | queryJournal tag p => cases record; exact ⟨_, serveQueryJournal_serves, fun _ => rfl⟩
  | trafficReset tag p => cases record; exact ⟨_, serveTrafficReset_serves, fun _ => rfl⟩
  | queryLink tag p => cases record; exact ⟨_, serveQueryLink_serves, fun _ => rfl⟩
  | fullReset tag p => cases record; exact ⟨_, serveFullReset_serves, fun _ => rfl⟩
  | unknownKindRequest kind tag p =>
    by_cases known : requestKinds.contains kind = true
    · cases (if_pos known).symm.trans record
    · cases (if_neg known).symm.trans record
      exact ⟨fun _ s => refuse s .badRequest, fun _ _ => .refused _, fun _ => if_neg known⟩
  | powerOn | inboundByte | framingError | breakLine | recordTransmissionEnd | boundary | buildPoint | markEdge | alarmEdge
  | wordOffer | wordTaken | dataFieldEnd | returnRecordArrival | receiptTaken | checkInTaken | tick => cases record

/-- Settles O2: the service of the ready request refuses or answers OK, and leaves the line and its queues either way. -/
theorem readyRequestIsAnswered : Obligations.ReadyRequestIsAnswered := by
  unfold Obligations.ReadyRequestIsAnswered
  intro c r s record ready
  obtain ⟨serve, serves, exec_eq⟩ := requests_of_record record
  have served := serves r.payload s.taken
  have ran : exec c s = _ := (exec_eq s).trans (request_of_ready ready)
  generalize serve r.payload s.taken = out at served ran
  cases served with
  | refused x => exact ⟨s.taken, .refuse x, ran, rfl, rfl, rfl, rfl, fun _ => ⟨rfl, rfl⟩⟩
  | accepted ok stands =>
    exact ⟨_, _, ran, stands.requests, stands.replies, stands.sending, stands.pending, fun failed => absurd ok failed⟩

/-! ### A request that cannot be taken (R184; log 1) -/

namespace Requests

variable {c : Instr} {r : LinkRecord} {serve : List Byte → State → State × Answer} {s : State}

/-- A request that is not ready comes in on the line. -/
theorem comes_in (requests : Requests c r serve) (waits : ¬s.ready r) :
    (s.arrival r).ready r ∧ exec c s = exec c (s.arrival r) ∨ ¬(s.arrival r).ready r ∧ exec c s = .next (s.arrival r) := by
  have arrives : reachLink r s = s.arrival r := if_neg fun takes => waits ((takes_iff s r).1 takes)
  by_cases ready : (s.arrival r).ready r
  · have stays : reachLink r (s.arrival r) = s.arrival r := if_pos ((takes_iff ..).2 ready)
    refine .inl ⟨ready, ?_⟩
    rw [requests.exec_eq, requests.exec_eq]
    unfold request
    dsimp only
    rw [arrives, stays]
  · refine .inr ⟨ready, ?_⟩
    have passed : ¬(s.arrival r).lnk.takes r = true := fun takes => ready ((takes_iff ..).1 takes)
    rw [requests.exec_eq]
    unfold request
    dsimp only
    rw [arrives, if_neg passed, event_eq, arrival_lineChoice]

theorem exec_of_ready_arrival {u : State} (requests : Requests c r serve) (waits : ¬s.ready r) (arrival : s.arrival r = u)
    (ready : u.ready r) : exec c s = exec c u := by
  subst arrival
  obtain ⟨-, ran⟩ | ⟨later, -⟩ := requests.comes_in waits
  · exact ran
  · exact absurd ready later

theorem exec_of_waiting_arrival {u : State} (requests : Requests c r serve) (waits : ¬s.ready r) (arrival : s.arrival r = u)
    (later : ¬u.ready r) : exec c s = .next u := by
  subst arrival
  obtain ⟨ready, -⟩ | ⟨-, ran⟩ := requests.comes_in waits
  · exact absurd ready later
  · exact ran

end Requests

/-- Settles O3: the record that cannot be taken arrives byte by byte, and what the offer makes of it decides whether it can be
taken then. -/
theorem requestWaitsForItsTurn : Obligations.RequestWaitsForItsTurn := by
  unfold Obligations.RequestWaitsForItsTurn
  intro c r s record waits
  obtain ⟨serve, requests⟩ := requests_of_record record
  refine ⟨⟨s.arrival r, s.run_arrival r, s.arrival_pending r, requests.exec_of_ready_arrival waits rfl,
    requests.exec_of_waiting_arrival waits rfl⟩, fun error busy => ?discarded, fun hunt empty busy fits => ?offered⟩
  case discarded =>
    exact requests.exec_of_waiting_arrival waits ((arrival_of_linkError s r error).trans (lineChoice_of_busy busy)) waits
  case offered =>
    have arrival : s.arrival r = (s.withLnk (s.lnk.offer r)).lineChoice := by
      rw [arrival_of_hunt hunt empty fits, lineChoice_of_busy busy]
    have joins (place : s.lnk.requests.length < 8) : s.arrival r =
        s.withLnk { s.lnk with requests := s.lnk.requests ++ [r], requestsTaken := s.lnk.requestsTaken + 1 } := by
      obtain ⟨-, offer⟩ | ⟨full, -⟩ | ⟨full, -⟩ := s.lnk.offer_cases r
      · rw [arrival, offer]
        exact lineChoice_of_busy (s := s.withLnk { s.lnk with
          requests := s.lnk.requests ++ [r], requestsTaken := s.lnk.requestsTaken + 1 }) busy
      all_goals omega
    refine ⟨fun clear free => ?taken, fun place behind => ?queued, fun full free => ?refused, fun full stuck => ?lost⟩
    case taken =>
      have joined := joins (by rw [clear]; decide)
      rw [clear, List.nil_append] at joined
      exact requests.exec_of_ready_arrival waits joined ⟨rfl, free⟩
    case queued =>
      refine requests.exec_of_waiting_arrival waits (joins place) fun ⟨head, free⟩ => ?_
      obtain ahead | full := behind
      · exact waits ⟨(List.head?_append_of_ne_nil _ ahead).symm.trans head, free⟩
      · exact absurd free (Nat.not_lt.2 full)
    case refused =>
      obtain ⟨place, -⟩ | ⟨-, -, offer⟩ | ⟨-, stuck, -⟩ := s.lnk.offer_cases r
      · omega
      · refine requests.exec_of_waiting_arrival waits (by rw [arrival, offer]) fun ⟨head, _⟩ => ?_
        rw [lineChoice_lnk, Link.choose_requests] at head
        exact waits ⟨head, free⟩
      · omega
    case lost =>
      obtain ⟨place, -⟩ | ⟨-, free, -⟩ | ⟨-, -, offer⟩ := s.lnk.offer_cases r
      · omega
      · omega
      · refine requests.exec_of_waiting_arrival waits ?_ fun ⟨_, free⟩ => absurd free (Nat.not_lt.2 stuck)
        rw [arrival, offer]
        exact lineChoice_of_busy (s := s.withLnk { s.lnk with
          overflows := min (s.lnk.overflows + 1) 65535, lostAnswers := min (s.lnk.lostAnswers + 1) 65535 }) busy

end Sys2Proof.Machine
end

section
/-! PROOFS. The canonical form of the tables (section 0.3; log 20): the tables in their two halves, those of `Standing` and the
others, and what each write of the others keeps. Every write is a `Table.put`, which keeps the form. -/

namespace Sys2Proof.Machine

/-- Where the default and every listed entry pass a test, so does every entry read. -/
theorem Table.read_of_all {α : Type} {p : α → Bool} {dflt : α} {t : Table α} (unlisted : p dflt = true)
    (listed : t.all (fun e => p e.2) = true) (n : Nat) : p (Table.read dflt t n) = true := by
  induction t with
  | nil => exact unlisted
  | cons e rest ih =>
    obtain ⟨k, v⟩ := e
    rw [List.all_cons, Bool.and_eq_true] at listed
    unfold Table.read
    split
    · exact listed.1
    · exact ih listed.2

theorem Table.all_placed {α : Type} {p : α → Bool} {v : α} {t : Table α} (passes : p v = true)
    (listed : t.all (fun e => p e.2) = true) (n : Nat) : (Table.placed n v t).all (fun e => p e.2) = true := by
  induction t with
  | nil => simpa [Table.placed] using passes
  | cons e rest ih =>
    obtain ⟨k, w⟩ := e
    rw [List.all_cons, Bool.and_eq_true] at listed
    unfold Table.placed
    split
    · simp [passes, listed.1, listed.2]
    · simp [listed.1, ih listed.2]

/-- A write of an entry that passes a test keeps a table whose listed entries all pass it. -/
theorem Table.all_put {α : Type} [DecidableEq α] {p : α → Bool} {dflt v : α} {t : Table α} (passes : p v = true)
    (listed : t.all (fun e => p e.2) = true) (n : Nat) : (Table.put dflt t n v).all (fun e => p e.2) = true := by
  have others : (t.without n).all (fun e => p e.2) = true :=
    List.all_eq_true.2 fun e he => List.all_eq_true.1 listed e (Table.mem_without.1 he).1
  unfold Table.put
  split
  · exact others
  · exact Table.all_placed passes others n

/-! ### The two halves -/

/-- The tables that `Standing` tells of are canonical. -/
structure Standing.Canonical (b : Standing) : Prop where
  subs : Table.wf .unassigned b.dir.subs = true
  map : Table.wf none b.dir.map = true
  accounts : Table.wf .closed b.act.accounts = true
  tariffs : Table.wf .powerOn b.act.tariffs = true
  bodies : Table.wf .free b.bodies = true
  records : Table.wf .fresh b.records = true

/-- The tables that `Standing` leaves out (chapters 3, 4 and 6 to 8). -/
structure Passing where
  blocks : Table (Option (List Byte))
  calendar : Table (List Nat)
  zones : Table Zone
  groups : Table Group
  images : Table GroupImages
  queues : Table (List ReturnRecord)
  maps : Table GroupMaps

def State.passing (s : State) : Passing :=
  { blocks := s.txt.blocks, calendar := s.dlv.calendar, zones := s.zon.zones, groups := s.zon.groups, images := s.bld.images,
    queues := s.rcp.queues, maps := s.rcp.maps }

/-- These tables are canonical, the slot tables inside the receipt maps among them. -/
structure Passing.Canonical (b : Passing) : Prop where
  blocks : Table.wf none b.blocks = true
  calendar : Table.wf [] b.calendar = true
  zones : Table.wf (.powerOn false) b.zones = true
  groups : Table.wf .powerOn b.groups = true
  images : Table.wf .powerOn b.images = true
  queues : Table.wf [] b.queues = true
  maps : Table.wf .absent b.maps = true
  slots : b.maps.all (fun e => e.2.slotsWf) = true

/-- The tables of a state that `Standing` leaves out are canonical. -/
def State.PassingCanonical (s : State) : Prop := s.passing.Canonical

theorem State.tablesCanonical_iff (s : State) : s.tablesCanonical ↔ s.standing.Canonical ∧ s.PassingCanonical := by
  constructor
  · rintro ⟨subs, map, accounts, tariffs, bodies, blocks, records, calendar, zones, groups, images, queues, maps, slots⟩
    exact ⟨⟨subs, map, accounts, tariffs, bodies, records⟩,
      ⟨blocks, calendar, zones, groups, images, queues, maps, slots⟩⟩
  · rintro ⟨⟨subs, map, accounts, tariffs, bodies, records⟩,
      ⟨blocks, calendar, zones, groups, images, queues, maps, slots⟩⟩
    exact ⟨subs, map, accounts, tariffs, bodies, blocks, records, calendar, zones, groups, images, queues, maps, slots⟩

namespace State

variable {s t : State}

/-! ### The text store (R64, R66) -/

theorem setBody_wf (n : Nat) (b : Body) (wf : Table.wf .free s.txt.bodies = true) :
    Table.wf .free (s.setBody n b).txt.bodies = true := Table.wf_put n b wf

theorem writeBlocks_bodies (s : State) (l : List (Nat × List Byte)) : (writeBlocks s l).txt.bodies = s.txt.bodies := by
  rw [writeBlocks_eq]; rfl

theorem dropBlocks_bodies (s : State) (l : List Nat) : (dropBlocks s l).txt.bodies = s.txt.bodies := by
  rw [dropBlocks_eq]; rfl

theorem dropBlocks_wf (l : List Nat) (wf : Table.wf none s.txt.blocks = true) :
    Table.wf none (dropBlocks s l).txt.blocks = true := by
  induction l generalizing s with
  | nil => exact wf
  | cons b l ih => exact ih (Table.wf_put b none wf)

theorem writeBlocks_wf (l : List (Nat × List Byte)) (wf : Table.wf none s.txt.blocks = true) :
    Table.wf none (writeBlocks s l).txt.blocks = true := by
  induction l generalizing s with
  | nil => exact wf
  | cons e l ih => exact ih (Table.wf_put e.1 (some e.2) wf)

theorem releaseBody_blocks_wf (n : Nat) (wf : Table.wf none s.txt.blocks = true) :
    Table.wf none (s.releaseBody n).txt.blocks = true := by
  unfold releaseBody
  dsimp only
  split
  · exact dropBlocks_wf _ wf
  · exact wf

theorem releaseBody_bodies_wf (n : Nat) (wf : Table.wf .free s.txt.bodies = true) :
    Table.wf .free (s.releaseBody n).txt.bodies = true := by
  unfold releaseBody
  dsimp only
  split
  · exact setBody_wf _ _ (by rwa [dropBlocks_bodies])
  · exact setBody_wf _ _ wf

/-- The text store that a settlement leaves is one whose body was released (R164 step 6). -/
theorem settle_txt (s : State) (n : Nat) (d : Delivery) (e : Ending) (r : Reason) :
    ∃ t : State, t.txt = s.txt ∧ (s.settle n d e r).txt = (t.releaseBody d.body).txt :=
  ⟨((((s.setAcct d.account ((s.acct d.account).settle (s.usageOf n d e r).charge d.hold)).appendUsage
    (s.usageOf n d e r)).deliveryNotice d.noticeMode (s.usageOf n d e r)).lowerLive d.subscriber), by simp, rfl⟩

theorem takeBody_blocks_wf (x : Submission) (o : Option Nat) (wf : Table.wf none s.txt.blocks = true) :
    Table.wf none (s.takeBody x o).1.txt.blocks = true := by
  cases o with
  | none => exact writeBlocks_wf _ wf
  | some b => exact wf

theorem takeBody_bodies_wf (x : Submission) (o : Option Nat) (wf : Table.wf .free s.txt.bodies = true) :
    Table.wf .free (s.takeBody x o).1.txt.bodies = true := by
  cases o with
  | none => exact (congrArg (Table.wf .free) (writeBlocks_bodies _ _)).trans (setBody_wf _ _ wf)
  | some b => exact setBody_wf _ _ wf

/-! ### The standing tables -/

theorem setSub_canonical (h : s.standing.Canonical) (n : Nat) (u : Subscriber) : (s.setSub n u).standing.Canonical :=
  { h with subs := Table.wf_put n u h.subs }

theorem bindAddress_canonical (h : s.standing.Canonical) (a : Word) (o : Option Nat) :
    (s.bindAddress a o).standing.Canonical :=
  { h with map := Table.wf_put _ _ h.map }

theorem settle_subs_wf (n : Nat) (d : Delivery) (e : Ending) (r : Reason) (wf : Table.wf .unassigned s.dir.subs = true) :
    Table.wf .unassigned (s.settle n d e r).dir.subs = true := by
  have dir : (s.settle n d e r).dir = (s.lowerLive d.subscriber).dir := by simp [settle, lowerLive, sub, setSub]
  rw [dir]
  exact Table.wf_put _ _ wf

theorem reset_standing_canonical : State.reset.standing.Canonical := ⟨rfl, rfl, rfl, rfl, rfl, rfl⟩

/-- Each shape of move writes the standing tables entry by entry, or returns them to power-on. -/
theorem standing_canonical_move (m : Move s t) (h : s.standing.Canonical) : t.standing.Canonical := by
  have records := wf_records_move m h.records
  cases m with
  | frame same => rwa [same]
  | reset same => rw [same]; exact reset_standing_canonical
  | report => exact setSub_canonical h ..
  | service => exact setSub_canonical h ..
  | assign => exact bindAddress_canonical (setSub_canonical h ..) ..
  | release => exact bindAddress_canonical (setSub_canonical h ..) ..
  | modify =>
    unfold rekey
    split
    · exact setSub_canonical h ..
    · exact bindAddress_canonical (bindAddress_canonical (setSub_canonical h ..) ..) ..
  | account => exact { h with accounts := Table.wf_put _ _ h.accounts }
  | tariff => exact { h with tariffs := Table.wf_put _ _ h.tariffs }
  | profile p => cases p <;> exact { h with }
  | accept n x o =>
    have dir : (s.takeBody x o).1.dir = s.dir := takeBody_dir ..
    have act : (s.takeBody x o).1.act = s.act := takeBody_act ..
    exact {
      subs := Table.wf_put _ _ (dir ▸ h.subs)
      map := (congrArg (fun b : Directory => Table.wf none b.map) dir).trans h.map
      accounts := Table.wf_put _ _ (act ▸ h.accounts)
      tariffs := (congrArg (fun b : AccountUnit => Table.wf .powerOn b.tariffs) act).trans h.tariffs
      bodies := takeBody_bodies_wf x o h.bodies
      records := records }
  | rewrite => exact { h with records := records }
  | settle n d e x r =>
    obtain ⟨u, txt, settled⟩ := s.settle_txt n e x r
    have act := s.settle_act n e x r
    exact {
      subs := settle_subs_wf n e x r h.subs
      map := (congrArg (Table.wf none) (s.settle_map n e x r)).trans h.map
      accounts := (congrArg (fun b : AccountUnit => Table.wf .closed b.accounts) act).trans (Table.wf_put _ _ h.accounts)
      tariffs := (congrArg (fun b : AccountUnit => Table.wf .powerOn b.tariffs) act).trans h.tariffs
      bodies := by
        show Table.wf .free (s.settle n e x r).txt.bodies = true
        rw [settled]
        exact releaseBody_bodies_wf _ (txt ▸ h.bodies)
      records := records }
  | takeUsage => exact { h with }

end State

end Sys2Proof.Machine
end

section
/-! PROOFS. The tables that `Standing` leaves out stay canonical: the writes, and the events on deliveries, zones and frames. -/

namespace Sys2Proof.Machine

/-! ### The slot tables of a group's maps (R143) -/

/-- The slot table of a map, where the map is held, is canonical. -/
def roleWf (o : Option ReceiptMap) : Bool := o.all (fun m => Table.wf .empty m.slots)

theorem GroupMaps.slotsWf_iff (r : GroupMaps) :
    r.slotsWf = true ↔ roleWf r.building = true ∧ roleWf r.current = true ∧ roleWf r.previous = true := by
  simp [slotsWf, roleWf]

theorem roleWf_setSlotOfFrame {o : Option ReceiptMap} (frame : Serial) (j : Nat) (x : Slot) (wf : roleWf o = true) :
    roleWf (setSlotOfFrame frame j x o) = true := by
  cases o with
  | none => exact wf
  | some m =>
    unfold setSlotOfFrame
    dsimp only
    split
    · exact Table.wf_put j x wf
    · exact wf

theorem roleWf_emptied (o : Option ReceiptMap) : roleWf (o.map ReceiptMap.emptied) = true := by cases o <;> rfl

theorem GroupMaps.moveOn_slotsWf {r : GroupMaps} (launch : Bool) (wf : r.slotsWf = true) : (r.moveOn launch).slotsWf = true := by
  obtain ⟨building, current, -⟩ := r.slotsWf_iff.1 wf
  refine (slotsWf_iff _).2 ⟨rfl, ?_, current⟩
  cases launch with
  | true => exact building
  | false => rfl

namespace State.PassingCanonical

variable {s t : State}

/-- What changes none of these tables keeps them canonical. -/
theorem of_same (h : s.PassingCanonical) (same : t.passing = s.passing) : t.PassingCanonical := by
  unfold PassingCanonical
  rwa [same]

theorem foldl {α : Type} {f : State → α → State} (h : s.PassingCanonical)
    (step : ∀ (t : State) (a : α), t.PassingCanonical → (f t a).PassingCanonical) (l : List α) :
    (l.foldl f s).PassingCanonical := foldl_keeps step l s h

/-! ### Updates of what these tables do not hold -/

theorem withClk (h : s.PassingCanonical) (c : Clock) : (s.withClk c).PassingCanonical := h

theorem withLnk (h : s.PassingCanonical) (l : Link) : (s.withLnk l).PassingCanonical := h

theorem setAir (h : s.PassingCanonical) (a : AirState) : (s.withBld { s.bld with air := a }).PassingCanonical := h

theorem setCounters (h : s.PassingCanonical) (c : ReceiptCounters) : (s.setCounters c).PassingCanonical := h

theorem notice (h : s.PassingCanonical) (k : Byte) (f : List Byte) : (s.notice k f).PassingCanonical := h

theorem setLive (h : s.PassingCanonical) (n : Nat) (d : Delivery) : (s.setLive n d).PassingCanonical := h

/-! ### Writes -/

theorem setCalList (h : s.PassingCanonical) (k : Nat) (l : List Nat) : (s.setCalList k l).PassingCanonical :=
  { h with calendar := Table.wf_put k l h.calendar }

theorem setZone (h : s.PassingCanonical) (n : Nat) (z : Zone) : (s.setZone n z).PassingCanonical :=
  { h with zones := Table.wf_put n z h.zones }

theorem setGroup (h : s.PassingCanonical) (g : Nat) (r : Group) : (s.setGroup g r).PassingCanonical :=
  { h with groups := Table.wf_put g r h.groups }

theorem setImages (h : s.PassingCanonical) (g : Nat) (r : GroupImages) : (s.setImages g r).PassingCanonical :=
  { h with images := Table.wf_put g r h.images }

theorem setQueue (h : s.PassingCanonical) (z : Nat) (q : List ReturnRecord) : (s.setQueue z q).PassingCanonical :=
  { h with queues := Table.wf_put z q h.queues }

theorem setMaps (h : s.PassingCanonical) (g : Nat) {r : GroupMaps} (slots : r.slotsWf = true) :
    (s.setMaps g r).PassingCanonical :=
  { h with maps := Table.wf_put g r h.maps, slots := Table.all_put slots h.slots g }

/-- The maps of any group, listed or absent, have canonical slot tables. -/
theorem slotsWf (h : s.PassingCanonical) (g : Nat) : (s.maps g).slotsWf = true := Table.read_of_all rfl h.slots g

/-! ### Events on one delivery (chapters 4 and 9) -/

theorem settle (h : s.PassingCanonical) (n : Nat) (d : Delivery) (e : Ending) (r : Reason) :
    (s.settle n d e r).PassingCanonical := by
  obtain ⟨u, txt, settled⟩ := s.settle_txt n d e r
  have freed : Table.wf none (s.settle n d e r).txt.blocks = true := by
    rw [settled]
    exact releaseBody_blocks_wf _ (txt ▸ h.blocks)
  refine of_same (s := s.withTxt (s.settle n d e r).txt) { h with blocks := freed } ?_
  simp [passing, settle_records, freeRecord, setRecord]

theorem unfile (h : s.PassingCanonical) (n : Nat) : (s.unfile n).PassingCanonical := by
  rcases s.unfile_cases n with ⟨d, -, -, filed⟩ | ⟨-, still⟩
  · rw [filed]; exact h.setCalList ..
  · rwa [still]

theorem endDelivery (h : s.PassingCanonical) (n : Nat) (d : Delivery) (e : Ending) (r : Reason) :
    (s.endDelivery n d e r).PassingCanonical := (h.unfile n).settle ..

theorem file (h : s.PassingCanonical) (n : Nat) (d : Delivery) : (s.file n d).PassingCanonical :=
  (h.setLive n d).setCalList ..

theorem refile (h : s.PassingCanonical) (n : Nat) (d : Delivery) (due : Serial) : (s.refile n d due).PassingCanonical := by
  unfold State.refile
  split
  · exact h.endDelivery ..
  · exact (h.unfile n).file ..

theorem setSlot (h : s.PassingCanonical) (frame : Serial) (g j : Nat) (x : Slot) :
    (s.setSlot frame g j x).PassingCanonical := by
  obtain ⟨building, current, previous⟩ := (GroupMaps.slotsWf_iff _).1 (h.slotsWf g)
  exact h.setMaps g ((GroupMaps.slotsWf_iff _).2 ⟨roleWf_setSlotOfFrame frame j x building,
    roleWf_setSlotOfFrame frame j x current, roleWf_setSlotOfFrame frame j x previous⟩)

theorem writeSlots (h : s.PassingCanonical) (frame : Serial) (x : Slot) (l : List (Nat × Nat)) :
    (writeSlots frame x s l).PassingCanonical := by
  induction l generalizing s with
  | nil => exact h
  | cons p rest ih => exact ih (h.setSlot ..)

theorem writeAttempt (h : s.PassingCanonical) (x : Slot) (o : Option Attempt) : (s.writeAttempt x o).PassingCanonical := by
  cases o with
  | none => exact h
  | some a => exact h.writeSlots ..

theorem revert (h : s.PassingCanonical) (n : Nat) (d : Delivery) : (s.revert n d).PassingCanonical := by
  rw [revert_eq]
  exact (h.writeAttempt ..).refile ..

theorem launchOne (h : s.PassingCanonical) (kept : GroupSet) (n : Nat) : (launchOne kept s n).PassingCanonical := by
  unfold Machine.launchOne
  split
  · exact h
  · split
    · split
      · exact h.revert ..
      · exact h.setLive ..
    · exact h

theorem endFrameOne (h : s.PassingCanonical) (n : Nat) : (endFrameOne s n).PassingCanonical := by
  unfold Machine.endFrameOne
  split
  · exact h
  · split
    · split
      · exact h.setLive ..
      · dsimp only
        split
        · exact h.endDelivery ..
        · exact h.refile ..
    · exact h

theorem resolveOne (h : s.PassingCanonical) (n : Nat) : (resolveOne s n).PassingCanonical := by
  have counted : s.countMiss.PassingCanonical := h
  unfold Machine.resolveOne
  split
  · exact h
  · split
    · dsimp only
      split
      · exact (counted.endDelivery ..).setCounters _
      · split
        · exact (counted.refile ..).setCounters _
        · split
          · exact (counted.refile ..).notice ..
          · exact counted.refile ..
    · exact h

theorem revertOne (h : s.PassingCanonical) (n : Nat) : (revertOne s n).PassingCanonical := by
  unfold Machine.revertOne
  split
  · split
    · exact h.revert ..
    · exact h
  · exact h

theorem cancelOne (h : s.PassingCanonical) (n : Nat) : (cancelOne s n).PassingCanonical := by
  unfold Machine.cancelOne
  split
  · exact h.endDelivery ..
  · exact h

/-! ### Intake (R52, R61) -/

theorem enroll (h : s.PassingCanonical) (n : Nat) (d : Delivery) : (s.enroll n d).PassingCanonical :=
  { h with calendar := Table.wf_put _ _ h.calendar }

theorem accept (h : s.PassingCanonical) (n : Nat) (x : Submission) (o : Option Nat) :
    (s.accept n x o).state.PassingCanonical := by
  have taken : (s.takeBody x o).1.PassingCanonical := by
    refine of_same (s := s.withTxt (s.takeBody x o).1.txt) { h with blocks := takeBody_blocks_wf x o h.blocks } ?_
    exact congrArg State.passing (s.takeBody_only x o)
  exact taken.enroll ..

/-! ### Zones (chapter 6) -/

theorem flagZone (h : s.PassingCanonical) (n : Nat) (z : Zone) (e : BitVec 3) : (s.flagZone n z e).PassingCanonical := by
  unfold State.flagZone
  dsimp only
  split
  · exact (h.setZone ..).notice ..
  · exact h.setZone ..

theorem followAlarm (h : s.PassingCanonical) (n : Nat) (z : Zone) : (s.followAlarm n z).PassingCanonical := by
  unfold State.followAlarm
  dsimp only
  split
  · exact h.setZone ..
  · exact h.flagZone ..

theorem takeZoneSettings (h : s.PassingCanonical) (n : Nat) : (s.takeZoneSettings n).PassingCanonical := by
  unfold State.takeZoneSettings
  dsimp only
  split
  · split
    · exact h.setZone ..
    · exact h.followAlarm ..
  · exact h

theorem takeGroupSettings (h : s.PassingCanonical) (g : Nat) : (s.takeGroupSettings g).PassingCanonical := by
  unfold State.takeGroupSettings
  dsimp only
  split
  · exact h.setGroup ..
  · exact h

theorem testService (h : s.PassingCanonical) (n : Nat) : (s.testService n).PassingCanonical := by
  unfold State.testService
  dsimp only
  split
  · exact h
  · exact h.flagZone ..

theorem zoneBuildPoint (h : s.PassingCanonical) : s.zoneBuildPoint.PassingCanonical :=
  (((h.foldl (fun _ n h => h.takeZoneSettings n) _).foldl (fun _ g h => h.takeGroupSettings g) _).foldl
    (fun _ n h => h.testService n) _).foldl (fun _ _ h => h.setGroup _ _) _

theorem keyZone (h : s.PassingCanonical) (n : Nat) : (s.keyZone n).PassingCanonical := by
  unfold State.keyZone
  dsimp only
  split
  · exact h.setZone ..
  · exact h.setZone ..

theorem judgeAt (h : s.PassingCanonical) (k n : Nat) : (judgeAt k s n).PassingCanonical := by
  unfold Machine.judgeAt judge
  split
  · split
    · dsimp only
      split
      · exact h.setZone ..
      · exact h.flagZone ..
    · exact h
  · exact h

theorem offerAt (h : s.PassingCanonical) (k n : Nat) : (offerAt k s n).PassingCanonical := by
  unfold Machine.offerAt
  split
  · exact h
  · split
    · split
      · exact h.setZone ..
      · exact h
    · exact h

/-! ### The build (R125 to R131) -/

theorem openGroup (h : s.PassingCanonical) (g : Nat) : (s.openGroup g).PassingCanonical := by
  unfold State.openGroup
  split
  · exact h
  · split
    · exact h
    · obtain ⟨-, current, previous⟩ := (GroupMaps.slotsWf_iff _).1 (h.slotsWf g)
      exact (h.setImages ..).setMaps g ((GroupMaps.slotsWf_iff _).2 ⟨rfl, current, previous⟩)

theorem addPage (h : s.PassingCanonical) (n : Nat) (d : Delivery) (slots : List (Nat × Nat)) (g : Nat) :
    (addPage n d slots s g).PassingCanonical := by
  unfold Machine.addPage
  split
  · exact h.setImages ..
  · exact h

theorem place (h : s.PassingCanonical) (n : Nat) (d : Delivery) (x : Serial) (cand : GroupSet) :
    (s.place n d x cand).PassingCanonical := by
  have paged := h.foldl (fun _ g h => h.addPage n d (s.slotsFor d cand) g) (members 4 cand)
  exact ((paged.writeSlots ..).unfile n).setLive ..

theorem visit (h : s.PassingCanonical) (x : Serial) (n : Nat) : (visit x s n).PassingCanonical := by
  unfold Machine.visit tryPlace
  split
  · exact h
  · split
    · exact h
    split
    · exact h.endDelivery ..
    split
    · dsimp only
      split
      · exact h.place ..
      · exact h.refile ..
    · exact h.refile ..

theorem completeGroup (h : s.PassingCanonical) (g : Nat) : (s.completeGroup g).PassingCanonical := by
  unfold State.completeGroup
  split
  · exact h.setImages ..
  · exact h

theorem build (h : s.PassingCanonical) (x : Serial) : (s.build x).PassingCanonical :=
  ((h.foldl (fun _ g h => h.openGroup g) _).foldl (fun _ n h => h.visit x n) _).foldl (fun _ g h => h.completeGroup g) _

theorem buildPointEvent (h : s.PassingCanonical) : s.buildPointEvent.PassingCanonical := by
  unfold State.buildPointEvent
  dsimp only
  split
  · exact h.zoneBuildPoint.build _
  · exact h.zoneBuildPoint

/-! ### The boundary (R93, R112, R133, R145, R170) -/

theorem endingStep (h : s.PassingCanonical) (w : BoundaryWork) (g : EndingGroup) : (endingStep w s g).PassingCanonical := by
  cases g with
  | ended => exact h.foldl (fun _ n h => h.endFrameOne n) _
  | missed => exact h.foldl (fun _ n h => h.resolveOne n) _
  | dropped => exact h.foldl (fun _ n h => h.launchOne _ n) _

theorem moveMaps (h : s.PassingCanonical) (kept : GroupSet) (g : Nat) : (moveMaps kept s g).PassingCanonical :=
  h.setMaps g (GroupMaps.moveOn_slotsWf _ (h.slotsWf g))

theorem turned (h : s.PassingCanonical) : s.turned.PassingCanonical := by
  have begun : s.begun.PassingCanonical := h.foldl (fun _ _ h => h.setGroup _ _) _
  have keyed : s.keyedUp.PassingCanonical := begun.foldl (fun _ n h => h.keyZone n) _
  have handed : s.handedOver.PassingCanonical := keyed.foldl (fun _ _ h => h.setImages _ _) _
  exact handed.setAir _

theorem boundaryEvent (h : s.PassingCanonical) (o : EndingOrder) : (s.boundaryEvent o).PassingCanonical := by
  have settled : (s.settled o).PassingCanonical := h.turned.foldl (fun _ g h => h.endingStep _ g) _
  rw [boundaryEvent_eq_settled]
  exact settled.foldl (fun _ g h => h.moveMaps _ g) _

/-! ### Return records taken (R146 to R149, R157, R158) -/

theorem countStray (h : s.PassingCanonical) (zone : Nat) : (s.countStray zone).PassingCanonical :=
  (h.setZone ..).setCounters _

theorem deliver (h : s.PassingCanonical) (zone : Nat) (m : ReceiptMap) (n : Nat) (d : Delivery) (reply : Nat) (check : Byte) :
    (s.deliver zone m n d reply check).PassingCanonical := by
  rw [deliver_eq]
  have written := h.writeAttempt (.answered (s.ticket n) check) d.last
  generalize s.writeAttempt (.answered (s.ticket n) check) d.last = w at *
  have reported (u : Subscriber) : (w.setSub d.subscriber u).PassingCanonical := written
  have counted (u : Subscriber) : ((w.setSub d.subscriber u).countDelivered zone).PassingCanonical :=
    ((reported u).setZone ..).setCounters _
  exact (counted _).endDelivery ..

theorem takeReceipt (h : s.PassingCanonical) (zone frame slot reply : Nat) (check : Byte) :
    (s.takeReceipt zone frame slot reply check).PassingCanonical := by
  unfold State.takeReceipt
  split
  · exact h.countStray zone
  · exact h.setCounters _
  · exact h.setCounters _
  · exact h.deliver ..

theorem checkInOne (h : s.PassingCanonical) (k n : Nat) : (checkInOne k s n).PassingCanonical := by
  unfold Machine.checkInOne
  split
  · exact h
  · split
    · split
      · exact h.refile ..
      · exact h.setLive ..
      · exact h.setLive ..
      · exact h
      · exact h
    · exact h

theorem takeCheckIn (h : s.PassingCanonical) (zone : Nat) (a : Word) (x : Serial) (g : Option Nat) :
    (s.takeCheckIn zone a x g).PassingCanonical := by
  have counted (z : Zone) : (s.setZone zone z).PassingCanonical := h.setZone ..
  unfold State.takeCheckIn
  dsimp only
  split
  · exact ((counted _).setCounters _).notice ..
  · rename_i n _
    have reported (u : Subscriber) (z : Zone) : ((s.setZone zone z).countKnown.setSub n u).PassingCanonical := counted z
    exact (reported _ _).foldl (fun _ m h => h.checkInOne n m) _

/-! ### The resets (R190, R191) -/

theorem resetBlocks (s : State) : s.resetBlocks.PassingCanonical where
  blocks := rfl
  calendar := rfl
  zones := List.foldlRecOn zoneNumbers (fun t n => Table.put (Zone.powerOn false) t n (.powerOn (s.zone n).input))
    (motive := fun t => Table.wf (Zone.powerOn false) t = true) rfl fun _ wf n _ => Table.wf_put n _ wf
  groups := rfl
  images := rfl
  queues := rfl
  maps := rfl
  slots := rfl

end State.PassingCanonical

end Sys2Proof.Machine
end

section
/-! PROOFS. Every step keeps every table canonical: the requests and the commands; and a step runs the command at the front of
the queue. -/

namespace Sys2Proof.Machine

open State

/-! ### The requests -/

/-- A request that keeps the tables that `Standing` leaves out canonical. -/
def KeepsPassing (serve : List Byte → State → State × Answer) : Prop :=
  ∀ (p : List Byte) (s : State), s.PassingCanonical → (serve p s).1.PassingCanonical

theorem ReadsOnly.keepsPassing {serve : List Byte → State → State × Answer} (reads : ReadsOnly serve) : KeepsPassing serve :=
  fun p s h => by rwa [reads p s]

theorem serveAssignSubscriber_keepsPassing : KeepsPassing serveAssignSubscriber := by
  intro p s h; unfold serveAssignSubscriber; repeat' split
  all_goals exact h

theorem serveModifySubscriber_keepsPassing : KeepsPassing serveModifySubscriber := by
  have rekey {s : State} (h : s.PassingCanonical) (n : Nat) (old new : Subscriber) : (s.rekey n old new).PassingCanonical := by
    unfold State.rekey; split <;> exact h
  have relink {s : State} (h : s.PassingCanonical) (old new : Nat) : (s.relink old new).PassingCanonical := by
    unfold State.relink; split <;> exact h
  intro p s h; unfold serveModifySubscriber; dsimp only; repeat' split
  case h_2.isFalse.isFalse.isFalse.isFalse.isFalse => exact relink (rekey h ..) ..
  all_goals exact h

theorem serveSuspend_keepsPassing : KeepsPassing serveSuspend := by
  intro p s h; unfold serveSuspend; repeat' split
  all_goals exact h

theorem serveResume_keepsPassing : KeepsPassing serveResume := by
  intro p s h; unfold serveResume; repeat' split
  all_goals exact h

theorem serveRelease_keepsPassing : KeepsPassing serveRelease := by
  intro p s h; unfold serveRelease; dsimp only; repeat' split
  all_goals exact h

theorem serveOpenAccount_keepsPassing : KeepsPassing serveOpenAccount := by
  intro p s h; unfold serveOpenAccount; repeat' split
  all_goals exact h

theorem serveAdjustAccount_keepsPassing : KeepsPassing serveAdjustAccount := by
  intro p s h; unfold serveAdjustAccount; repeat' split
  all_goals exact h

theorem serveSetCredit_keepsPassing : KeepsPassing serveSetCredit := by
  intro p s h; unfold serveSetCredit; repeat' split
  all_goals exact h

theorem serveSetTariffClass_keepsPassing : KeepsPassing serveSetTariffClass := by
  intro p s h; unfold serveSetTariffClass; repeat' split
  all_goals exact h

theorem serveLock_keepsPassing : KeepsPassing serveLock := by
  intro p s h; unfold serveLock; repeat' split
  all_goals exact h

theorem serveUnlock_keepsPassing : KeepsPassing serveUnlock := by
  intro p s h; unfold serveUnlock; repeat' split
  all_goals exact h

theorem serveClose_keepsPassing : KeepsPassing serveClose := by
  intro p s h; unfold serveClose; dsimp only; repeat' split
  all_goals exact h

theorem serveLoadTariff_keepsPassing : KeepsPassing serveLoadTariff := by
  intro p s h; unfold serveLoadTariff; repeat' split
  all_goals exact h

theorem serveSetPriorityProfile_keepsPassing : KeepsPassing serveSetPriorityProfile := by
  have setProfile {s : State} (h : s.PassingCanonical) (p : Priority) (f : Profile) : (s.setProfile p f).PassingCanonical := by
    cases p <;> exact h
  intro p s h; unfold serveSetPriorityProfile; repeat' split
  · exact h
  · exact h
  · exact setProfile h ..

theorem serveSubmitPage_keepsPassing : KeepsPassing serveSubmitPage := by
  intro p s h
  unfold serveSubmitPage
  split
  · exact h
  split
  · exact h
  · exact h.accept ..

/-- The members of a group page, each taken in by itself (R60). -/
theorem takeMembers_passingCanonical (x : Submission) (l : List Nat) (g : GroupProgress) (h : g.state.PassingCanonical) :
    (l.foldl (takeMember x) g).state.PassingCanonical := by
  induction l generalizing g with
  | nil => exact h
  | cons n l ih =>
    refine ih _ ?_
    unfold takeMember
    split
    · exact h
    · exact h.accept ..

theorem serveSubmitGroupPage_keepsPassing : KeepsPassing serveSubmitGroupPage := by
  intro p s h
  unfold serveSubmitGroupPage
  split
  · exact h
  · exact takeMembers_passingCanonical _ _ { state := s, body := none, accepted := 0, entries := [] } h

theorem serveCancel_keepsPassing : KeepsPassing serveCancel := by
  intro p s h; unfold serveCancel; dsimp only; repeat' split
  · exact h
  · exact h
  · exact h.endDelivery ..
  · exact h

theorem serveSetClock_keepsPassing : KeepsPassing serveSetClock := by
  intro p s h; unfold serveSetClock; repeat' split
  · exact h
  · exact h
  · exact h.withClk _

theorem serveSetTrim_keepsPassing : KeepsPassing serveSetTrim := by
  intro p s h; unfold serveSetTrim; split
  · exact h
  · exact h.withClk _

theorem serveStartClock_keepsPassing : KeepsPassing serveStartClock := by
  intro p s h; unfold serveStartClock; repeat' split
  · exact h
  · exact h
  · exact (h.withClk _).boundaryEvent _

theorem serveStopClock_keepsPassing : KeepsPassing serveStopClock := by
  intro p s h; unfold serveStopClock; repeat' split
  · exact h
  · exact h
  · exact h
  · exact ((h.withClk _).foldl (fun _ _ h => h.setGroup _ _) _).foldl (fun _ g h => h.setMaps g rfl) _

theorem serveSetZone_keepsPassing : KeepsPassing serveSetZone := by
  intro p s h; unfold serveSetZone; repeat' split
  · exact h
  · exact h
  · exact h
  · exact h
  · exact h.setZone ..

theorem serveSetGroup_keepsPassing : KeepsPassing serveSetGroup := by
  intro p s h; unfold serveSetGroup; repeat' split
  · exact h
  · exact h
  · exact h
  · exact h
  · exact h.setGroup ..

theorem serveClearZoneFlags_keepsPassing : KeepsPassing serveClearZoneFlags := by
  intro p s h; unfold serveClearZoneFlags; repeat' split
  · exact h
  · exact h
  · exact h.setZone ..

theorem serveAirOn_keepsPassing : KeepsPassing serveAirOn := by
  intro p s h; unfold serveAirOn; repeat' split
  all_goals exact h

/-- AIR OFF takes the next images and the BUILDING maps away (R124, R144). -/
theorem State.PassingCanonical.discardNext {s : State} (h : s.PassingCanonical) (g : Nat) : (discardNext s g).PassingCanonical := by
  obtain ⟨-, current, previous⟩ := (GroupMaps.slotsWf_iff _).1 (h.slotsWf g)
  exact (h.setImages ..).setMaps g ((GroupMaps.slotsWf_iff _).2 ⟨rfl, current, previous⟩)

theorem serveAirOff_keepsPassing : KeepsPassing serveAirOff := by
  intro p s h; unfold serveAirOff; repeat' split
  · exact h
  · exact h
  · exact h
  · exact ((h.setAir _).foldl (fun _ n h => h.revertOne n) _).foldl (fun _ g h => h.discardNext g) _

theorem serveTakeUsage_keepsPassing : KeepsPassing serveTakeUsage := by
  intro p s h; unfold serveTakeUsage; split
  all_goals exact h

theorem serveSetWatermark_keepsPassing : KeepsPassing serveSetWatermark := by
  intro p s h; unfold serveSetWatermark; split
  all_goals exact h

theorem serveTrafficReset_keepsPassing : KeepsPassing serveTrafficReset := by
  intro p s h
  have emptied {t : State} (h : t.PassingCanonical) (g : Nat) : (emptyMaps t g).PassingCanonical :=
    h.setMaps g ((GroupMaps.slotsWf_iff _).2 ⟨roleWf_emptied _, roleWf_emptied _, roleWf_emptied _⟩)
  unfold serveTrafficReset
  split
  · exact h
  · exact ((h.foldl (fun _ n h => h.cancelOne n) _).foldl (fun _ g h => emptied h g) _).foldl (fun _ _ h => h.setImages _ _) _

theorem serveQueryLink_keepsPassing : KeepsPassing serveQueryLink := by
  intro p s h; unfold serveQueryLink; split
  all_goals exact h

theorem serveFullReset_keepsPassing : KeepsPassing serveFullReset := by
  intro p s h; unfold serveFullReset; split
  · exact h
  · exact .resetBlocks s

/-! ### The commands -/

/-- The outcome is no next state, or one in which the tables that `Standing` leaves out are canonical. -/
def EndsCanonical (o : Host.Outcome State Fault Refusal) : Prop := ∀ t, o = .next t → t.PassingCanonical

section Events

variable {s : State}

theorem event_endsCanonical (h : s.PassingCanonical) : EndsCanonical (event s) := by
  rintro t ⟨⟩
  exact h.withLnk _

theorem request_endsCanonical (h : s.PassingCanonical) {kind tag : Byte} {p : List Byte}
    {serve : List Byte → State → State × Answer} (serves : KeepsPassing serve) :
    EndsCanonical (request kind tag p serve s) := by
  obtain ⟨u, reached, outcome⟩ := request_cases kind tag p serve s
  have arrived : u.PassingCanonical := by
    rcases reached with rfl | rfl
    · exact h
    · rw [arrival_eq]; exact h.withLnk _
  rcases outcome with idle | ⟨-, served⟩
  · rw [idle]; exact event_endsCanonical arrived
  · rw [served]
    rintro t ⟨⟩
    have taken : u.taken.PassingCanonical := arrived
    exact serves p u.taken taken

/-- To come to a moment of the frame moves the clock alone (log 3). -/
theorem State.PassingCanonical.atMoment (h : s.PassingCanonical) {q : Nat} {u : State} (moment : s.atMoment q = some u) :
    u.PassingCanonical := by
  obtain ⟨-, -, -, rfl⟩ := atMoment_eq_some moment
  exact h

theorem execUnknownKindRequest_endsCanonical (h : s.PassingCanonical) (kind tag : Byte) (p : List Byte) :
    EndsCanonical (execUnknownKindRequest kind tag p s) := by
  unfold execUnknownKindRequest
  split
  · exact event_endsCanonical h
  · exact request_endsCanonical h fun _ _ => id

theorem execFramingError_endsCanonical (h : s.PassingCanonical) : EndsCanonical (execFramingError s) := by
  have entered (c : LinkCause) (r : Receiver) (l : List Byte) : (s.enterLinkError c r l).PassingCanonical := by
    rw [enterLinkError_eq]; exact h.withLnk _
  unfold execFramingError
  split
  · exact event_endsCanonical (entered ..)
  · exact event_endsCanonical (entered ..)
  · exact event_endsCanonical h

theorem execBoundary_endsCanonical (h : s.PassingCanonical) (o : EndingOrder) : EndsCanonical (execBoundary o s) := by
  unfold execBoundary
  split
  · rename_i u moment
    have reached : u.PassingCanonical := h.atMoment moment
    exact event_endsCanonical ((reached.withClk _).boundaryEvent o)
  · exact event_endsCanonical h

theorem execBuildPoint_endsCanonical (h : s.PassingCanonical) : EndsCanonical (execBuildPoint s) := by
  unfold execBuildPoint
  split
  · rename_i u moment
    split
    · exact event_endsCanonical h
    · have reached : u.PassingCanonical := h.atMoment moment
      exact event_endsCanonical (reached.withClk _).buildPointEvent
  · exact event_endsCanonical h

theorem execWordOffer_endsCanonical (h : s.PassingCanonical) (k : Nat) : EndsCanonical (execWordOffer k s) := by
  unfold execWordOffer
  split
  · split
    · rename_i moment
      exact event_endsCanonical ((h.atMoment moment).foldl (fun _ n h => h.offerAt k n) _)
    · exact event_endsCanonical h
  · exact event_endsCanonical h

theorem execDataFieldEnd_endsCanonical (h : s.PassingCanonical) (k : Nat) : EndsCanonical (execDataFieldEnd k s) := by
  unfold execDataFieldEnd
  split
  · split
    · rename_i moment
      exact event_endsCanonical ((h.atMoment moment).foldl (fun _ n h => h.judgeAt k n) _)
    · exact event_endsCanonical h
  · exact event_endsCanonical h

theorem execWordTaken_endsCanonical (h : s.PassingCanonical) (z : Fin 8) : EndsCanonical (execWordTaken z s) := by
  unfold execWordTaken
  dsimp only
  split
  · exact event_endsCanonical (h.setZone ..)
  · exact event_endsCanonical h

theorem execReturnRecordArrival_endsCanonical (h : s.PassingCanonical) (z : Fin 8) (l : List Byte) :
    EndsCanonical (execReturnRecordArrival z l s) := by
  unfold execReturnRecordArrival
  dsimp only
  split
  · exact event_endsCanonical (h.setZone ..)
  · split
    · exact event_endsCanonical (h.setQueue ..)
    · exact event_endsCanonical (h.setZone ..)

theorem execReceiptTaken_endsCanonical (h : s.PassingCanonical) (z : Fin 8) : EndsCanonical (execReceiptTaken z s) := by
  unfold execReceiptTaken
  split
  · exact event_endsCanonical ((h.setQueue ..).takeReceipt ..)
  · exact event_endsCanonical h

theorem execCheckInTaken_endsCanonical (h : s.PassingCanonical) (z : Fin 8) : EndsCanonical (execCheckInTaken z s) := by
  unfold execCheckInTaken
  split
  · exact event_endsCanonical ((h.setQueue ..).takeCheckIn ..)
  · exact event_endsCanonical h

theorem execTick_endsCanonical (h : s.PassingCanonical) : EndsCanonical (execTick s) := by
  unfold execTick
  split
  · exact event_endsCanonical (h.withClk _)
  · exact event_endsCanonical h

end Events

/-- Every command keeps the tables that `Standing` leaves out canonical. -/
theorem exec_endsCanonical {s : State} (h : s.PassingCanonical) (c : Instr) : EndsCanonical (exec c s) := by
  cases c with
  | assignSubscriber tag p => exact request_endsCanonical h serveAssignSubscriber_keepsPassing
  | modifySubscriber tag p => exact request_endsCanonical h serveModifySubscriber_keepsPassing
  | suspend tag p => exact request_endsCanonical h serveSuspend_keepsPassing
  | resume tag p => exact request_endsCanonical h serveResume_keepsPassing
  | release tag p => exact request_endsCanonical h serveRelease_keepsPassing
  | querySubscriber tag p => exact request_endsCanonical h serveQuerySubscriber_readsOnly.keepsPassing
  | openAccount tag p => exact request_endsCanonical h serveOpenAccount_keepsPassing
  | adjustAccount tag p => exact request_endsCanonical h serveAdjustAccount_keepsPassing
  | setCredit tag p => exact request_endsCanonical h serveSetCredit_keepsPassing
  | setTariffClass tag p => exact request_endsCanonical h serveSetTariffClass_keepsPassing
  | lock tag p => exact request_endsCanonical h serveLock_keepsPassing
  | unlock tag p => exact request_endsCanonical h serveUnlock_keepsPassing
  | close tag p => exact request_endsCanonical h serveClose_keepsPassing
  | queryAccount tag p => exact request_endsCanonical h serveQueryAccount_readsOnly.keepsPassing
  | loadTariff tag p => exact request_endsCanonical h serveLoadTariff_keepsPassing
  | queryTariff tag p => exact request_endsCanonical h serveQueryTariff_readsOnly.keepsPassing
  | setPriorityProfile tag p => exact request_endsCanonical h serveSetPriorityProfile_keepsPassing
  | queryProfile tag p => exact request_endsCanonical h serveQueryProfile_readsOnly.keepsPassing
  | submitPage tag p => exact request_endsCanonical h serveSubmitPage_keepsPassing
  | submitGroupPage tag p => exact request_endsCanonical h serveSubmitGroupPage_keepsPassing
  | queryStore tag p => exact request_endsCanonical h serveQueryStore_readsOnly.keepsPassing
  | cancel tag p => exact request_endsCanonical h serveCancel_keepsPassing
  | queryDelivery tag p => exact request_endsCanonical h serveQueryDelivery_readsOnly.keepsPassing
  | queryClock tag p => exact request_endsCanonical h serveQueryClock_readsOnly.keepsPassing
  | setClock tag p => exact request_endsCanonical h serveSetClock_keepsPassing
  | startClock tag p => exact request_endsCanonical h serveStartClock_keepsPassing
  | stopClock tag p => exact request_endsCanonical h serveStopClock_keepsPassing
  | setTrim tag p => exact request_endsCanonical h serveSetTrim_keepsPassing
  | setZone tag p => exact request_endsCanonical h serveSetZone_keepsPassing
  | setGroup tag p => exact request_endsCanonical h serveSetGroup_keepsPassing
  | clearZoneFlags tag p => exact request_endsCanonical h serveClearZoneFlags_keepsPassing
  | queryZone tag p => exact request_endsCanonical h serveQueryZone_readsOnly.keepsPassing
  | airOn tag p => exact request_endsCanonical h serveAirOn_keepsPassing
  | airOff tag p => exact request_endsCanonical h serveAirOff_keepsPassing
  | queryAir tag p => exact request_endsCanonical h serveQueryAir_readsOnly.keepsPassing
  | queryReceipts tag p => exact request_endsCanonical h serveQueryReceipts_readsOnly.keepsPassing
  | takeUsage tag p => exact request_endsCanonical h serveTakeUsage_keepsPassing
  | setWatermark tag p => exact request_endsCanonical h serveSetWatermark_keepsPassing
  | queryJournal tag p => exact request_endsCanonical h serveQueryJournal_readsOnly.keepsPassing
  | trafficReset tag p => exact request_endsCanonical h serveTrafficReset_keepsPassing
  | queryLink tag p => exact request_endsCanonical h serveQueryLink_keepsPassing
  | fullReset tag p => exact request_endsCanonical h serveFullReset_keepsPassing
  | unknownKindRequest kind tag p => exact execUnknownKindRequest_endsCanonical h kind tag p
  | powerOn rate => exact event_endsCanonical ((PassingCanonical.resetBlocks s).withLnk _)
  | inboundByte b =>
    have received : (s.receive b).PassingCanonical := by rw [receive_eq]; exact h.withLnk _
    exact event_endsCanonical received
  | framingError => exact execFramingError_endsCanonical h
  | breakLine => exact event_endsCanonical (h.withLnk _)
  | recordTransmissionEnd => exact event_endsCanonical (h.withLnk _)
  | boundary order => exact execBoundary_endsCanonical h order
  | buildPoint => exact execBuildPoint_endsCanonical h
  | markEdge => exact event_endsCanonical (h.withClk _)
  | alarmEdge z high => exact event_endsCanonical (h.followAlarm ..)
  | wordOffer k => exact execWordOffer_endsCanonical h k
  | wordTaken z => exact execWordTaken_endsCanonical h z
  | dataFieldEnd k => exact execDataFieldEnd_endsCanonical h k
  | returnRecordArrival z l => exact execReturnRecordArrival_endsCanonical h z l
  | receiptTaken z => exact execReceiptTaken_endsCanonical h z
  | checkInTaken z => exact execCheckInTaken_endsCanonical h z
  | tick => exact execTick_endsCanonical h

/-- Settles O53: the standing tables are kept by every move, and the others by every command. -/
theorem stepKeepsTablesCanonical : Obligations.StepKeepsTablesCanonical := by
  unfold Obligations.StepKeepsTablesCanonical
  intro s t canonical h
  obtain ⟨standing, passing⟩ := s.tablesCanonical_iff.1 canonical
  refine t.tablesCanonical_iff.2 ⟨(step_moves h).keep (fun _ _ => standing_canonical_move) standing, ?_⟩
  unfold step at h
  split at h
  · cases h
    exact passing
  · rename_i c rest _
    have fetched : (s.withPending rest).PassingCanonical := passing
    exact exec_endsCanonical fetched c t h

/-! ### The step -/

/-- Settles O1: the step reads the queue's front, and a queue that is not empty has one. -/
theorem stepRunsFrontCommand : Obligations.StepRunsFrontCommand := by
  unfold Obligations.StepRunsFrontCommand
  intro c s rest front
  unfold step
  rw [front]

end Sys2Proof.Machine
end
